-- ==== Sys2Proof/Word.lean ====
section
/-! DEFINITION. The word types of the OW-3216 model: what the manual itself treats as bits.
Positions, speeds, times and counts are quantities and stay `Nat` and `Int`. -/

namespace Sys2Proof

/-- One byte of the configuration image or one character of the reader line. -/
abbrev Byte := BitVec 8

/-- Unit time, the 32-bit millisecond counter that wraps (00_scope.md, section 6.4). -/
abbrev UnitTime := BitVec 32

/-- The 16-bit profile digest (R12). -/
abbrev Digest := BitVec 16

end Sys2Proof
end

