-- ==== Sys2Proof/Config.lean ====
section
/-! DEFINITION. What the manual leaves to the implementation: constants without a body, so that
nothing can be proved about their value. -/

namespace Sys2Proof

/-- The format code of the configuration image that this unit reads (R182, check FORMAT). The
manual does not give its value. DESIGN CHOICE, notes/assumptions/3.md. -/
opaque Config.formatCode : Nat

/-- The channel speed of R20 when the interval of the formula is 0 µs, so that the manual's quotient
has no value: a free value of the signed count length. The result is still saturated by R20.
DESIGN CHOICE, notes/assumptions/4.md. -/
opaque Config.zeroIntervalSpeed : Int → Int

/-- Whether the published speed is negative in DISAGREE when the primary's speed is 0 and the monitor's
is negative: R25 and Table 2-3 give it the sign of a speed that has none (Table 2-4 shows the case of a
positive monitor). A free value of the monitor's speed. DESIGN CHOICE, notes/assumptions/20.md. -/
opaque Config.zeroPrimaryNegative : Int → Bool

end Sys2Proof
end

