-- ==== Sys2Proof/Syntax.lean ====
section
/-! DEFINITION. The commands of the unit, one constructor of `Instr` for each row of
spec/opcode_table.json, with the data they carry: frames of the line bus, the configuration image as
the configuration memory delivers it, and the characters of the reader line. -/

namespace Sys2Proof

/-! ## Names of the line (00_scope.md, sections 2 and 6) -/

inductive CarId where
  | a | b
  deriving DecidableEq, Repr, Inhabited

/-- The role of a unit (Table 0-1). -/
inductive Role where
  | drive | car | berth | gate
  deriving DecidableEq, Repr, Inhabited

/-- Role and identity, as configured and as announced in the common part of a STATE frame. -/
inductive Identity where
  | drive
  | car (c : CarId)
  | berth (number : Nat)
  | gate (berth index : Nat)
  deriving DecidableEq, Repr, Inhabited

/-- A direction: of travel of the rope (`up` is h increasing), or of a car that passengers board. -/
inductive Direction where
  | up | down
  deriving DecidableEq, Repr, Inhabited

/-- One side of a car, as seen facing up the line. -/
inductive Side where
  | left | right
  deriving DecidableEq, Repr, Inhabited

/-- The door side of a berth, and the side field of release and evacuation frames. -/
inductive DoorSide where
  | left | right | both
  deriving DecidableEq, Repr, Inhabited

/-- The two encoder channels E0 and E1. -/
inductive ChannelId where
  | e0 | e1
  deriving DecidableEq, Repr, Inhabited

/-- Reference status (Table 2-3). -/
inductive RefStatus where
  | normal | disagree | fallback | none
  deriving DecidableEq, Repr, Inhabited

/-- Haulage states (Table 7-2). -/
inductive Haulage where
  | unsynced | atStop | doorClosing | readyCheck | releasing | running
  | stopping | holding | tripped | stranded | recovery | parked
  deriving DecidableEq, Repr, Inhabited

/-- Unit states (Table 11-3). -/
inductive UnitState where
  | configFault | listening | operating | addressConflict
  deriving DecidableEq, Repr, Inhabited

/-- The causes of Table 6-3, in the order of their codes 1 to 21. -/
inductive Cause where
  | start | overspeedService | overspeedSafety | overspeedTrack | overrun | rollback | ropeSlip
  | positionDisagree | positionDegraded | missedMarks | referenceDisagree | referenceLost
  | driveSilent | carSilent | doorOpenMoving | stopButton | endOfTrack | brakeProof
  | addressConflict | grantLostPresence | trackBrakeFault
  deriving DecidableEq, Repr, Inhabited

/-- Release states of a car side (Table 8-2). -/
inductive ReleaseState where
  | locked | requesting | released | closing | evacuation | fault
  deriving DecidableEq, Repr, Inhabited

/-- States of a grant record (R137). -/
inductive GrantState where
  | none | pending | ready | granted | withdrawing
  deriving DecidableEq, Repr, Inhabited

/-- Refusal reasons of a berth (Table 8-3). -/
inductive RefusalReason where
  | notAtStop | wrongBerth | stopButton | berthBusy
  deriving DecidableEq, Repr, Inhabited

/-- Withdrawal reasons of a car (Table 8-4) and of a berth (R149). -/
inductive WithdrawReason where
  | moving | berthSilent | grantNotShown | notConfirmed | departure | notHeld
  | presenceLost | carNotStanding | superseded
  deriving DecidableEq, Repr, Inhabited

/-- Results of an evacuation order (Table 8-6). -/
inductive EvacResult where
  | accepted | notBraked | moving | positionUnknown | excluded
  deriving DecidableEq, Repr, Inhabited

/-! ## Frames of the line bus (Tables 3-1 to 3-3) -/

/-- The classes of Table 3-1; the code 3 is not used. -/
inductive FrameClass where
  | safety | control | state
  deriving DecidableEq, Repr, Inhabited

/-- The STATE kinds of Table 3-2. -/
inductive StateKind where
  | motion | doorState | berthState | loadReport | admissionReport
  deriving DecidableEq, Repr, Inhabited

/-- The frame kinds of Table 3-2, codes 0 to 13 in this order. -/
inductive FrameKind where
  | brakeOrder | brakeReset | tripNotice | evacuationOrder | evacuationReply | releaseRequest
  | releaseGrant | releaseRefusal | releaseWithdrawal
  | motion | doorState | berthState | loadReport | admissionReport
  deriving DecidableEq, Repr, Inhabited

/-- The common part of a STATE frame (R42). `unitState` is filled when the frame is offered to the
bus, so a frame that waits in the transmit queue carries `none`. -/
structure Common where
  identity  : Identity
  digest    : Digest
  level     : Nat
  unitState : Option UnitState
  deriving DecidableEq, Repr, Inhabited

/-- A trip number with the revision in force. -/
structure TripRef where
  number   : Nat
  revision : Nat
  deriving DecidableEq, Repr, Inhabited

/-- The role-dependent field of a MOTION: the haulage state of a DRIVE or the doors-locked flag of a
CAR. -/
inductive MotionStatus where
  | haulage (st : Haulage)
  | doorsLocked (locked : Bool)
  deriving DecidableEq, Repr, Inhabited

structure Motion where
  h            : Option Nat
  v            : Int
  u            : Nat
  ref          : RefStatus
  standstill   : Bool
  synchronised : Bool
  status       : MotionStatus
  trip         : Option TripRef
  deriving DecidableEq, Repr, Inhabited

structure DoorSideState where
  locked   : Bool
  released : Bool
  state    : ReleaseState
  grantId  : Option Nat
  deriving DecidableEq, Repr, Inhabited

structure DoorReport where
  left  : DoorSideState
  right : DoorSideState
  deriving DecidableEq, Repr, Inhabited

structure GrantSummary where
  car     : CarId
  grantId : Nat
  state   : GrantState
  deriving DecidableEq, Repr, Inhabited

structure BerthReport where
  presence    : Bool
  gatesClosed : Bool
  summary     : Option GrantSummary
  stopButton  : Bool
  deriving DecidableEq, Repr, Inhabited

/-- A cycle opening, as a CAR holds it (R157) and as a LOAD REPORT carries it. -/
structure Opening where
  berth     : Nat
  cycleId   : Nat
  budget    : Nat
  direction : Direction
  deriving DecidableEq, Repr, Inhabited

structure LoadReport where
  load    : Nat
  places  : Nat
  rated   : Nat
  opening : Option Opening
  deriving DecidableEq, Repr, Inhabited

/-- The identity of a boarding cycle: its car together with its cycle id (section 9.3). -/
structure CycleRef where
  car : CarId
  id  : Nat
  deriving DecidableEq, Repr, Inhabited

structure AdmissionReport where
  berth      : Nat
  gateIndex  : Nat
  cycle      : Option CycleRef
  cumulative : Nat
  tickets    : List Nat
  deriving DecidableEq, Repr, Inhabited

structure TripNotice where
  number    : Nat
  revision  : Nat
  fromStop  : Option Nat
  toStop    : Option Nat
  direction : Direction
  set       : Nat
  pending   : Bool
  hEnd      : Nat
  recovery  : Bool
  deriving DecidableEq, Repr, Inhabited

/-- The fields of a frame, by kind (Table 3-3). -/
inductive Payload where
  | brakeOrder (level : Nat) (cause : Cause) (h : Option Nat) (resetNumber : Nat)
  | brakeReset (number : Nat)
  | tripNotice (n : TripNotice)
  | evacuationOrder (car : CarId) (side : DoorSide)
  | evacuationReply (car : CarId) (side : DoorSide) (result : EvacResult)
  | releaseRequest (berth : Nat) (car : CarId) (side : DoorSide) (number : Nat)
  | releaseGrant (berth : Nat) (car : CarId) (side : DoorSide) (number grantId : Nat)
  | releaseRefusal (berth : Nat) (car : CarId) (number : Nat) (reason : RefusalReason)
  | releaseWithdrawal (berth : Nat) (car : CarId) (grantId : Nat) (reason : WithdrawReason)
  | motion (c : Common) (m : Motion)
  | doorState (c : Common) (d : DoorReport)
  | berthState (c : Common) (b : BerthReport)
  | loadReport (c : Common) (l : LoadReport)
  | admissionReport (c : Common) (a : AdmissionReport)
  deriving DecidableEq, Repr, Inhabited

/-- A frame as the receive buffer holds it: the header's source and sequence, and the fields. -/
structure Frame where
  source  : Nat
  seq     : Nat
  payload : Payload
  deriving DecidableEq, Repr, Inhabited

/-- What a receiver makes of the payload bits. The encoding of payload fields is fixed inside the unit
and stands at no boundary but the frame's bits (section 3.2), so the reading of the bits comes with
them: the fields, a payload of the wrong size, or a field outside the values of Table 3-3. -/
inductive PayloadRead where
  | fields (p : Payload)
  | wrongSize
  | badValue
  deriving DecidableEq, Repr, Inhabited

/-- A frame as its bits arrive (Table 3-1): the header fields, the payload bits with what they read as,
the check field, and whether an abort mark or an early idle was seen. -/
structure RawFrame where
  cls      : BitVec 2
  source   : BitVec 5
  kind     : BitVec 4
  seq      : BitVec 4
  length   : BitVec 5
  bits     : List Bool
  read     : PayloadRead
  check    : BitVec 16
  aborted  : Bool
  cutShort : Bool
  deriving DecidableEq, Repr, Inhabited

/-- The kinds of receive error (R55). -/
inductive ReceiveError where
  | check | form | aborted
  deriving DecidableEq, Repr, Inhabited

/-- The field of an own frame in which a bit error lies (R44, R58). -/
inductive BitField where
  | startBit | classField | source | kind | sequence | length | payload | check
  deriving DecidableEq, Repr, Inhabited

/-! ## The configuration image (Table 11-1) -/

inductive ZoneKind where
  | openTrack | tunnel | loop | viaduct | curve
  deriving DecidableEq, Repr, Inhabited

/-- One zone (Table 1-1). -/
structure Zone where
  start     : Nat
  stop      : Nat
  kind      : ZoneKind
  limit0    : Nat
  limit1    : Nat
  evacLeft  : Bool
  evacRight : Bool
  deriving DecidableEq, Repr, Inhabited

/-- One stop of the stop plan (R9). -/
structure Stop where
  h      : Nat
  berthA : Option Nat
  berthB : Option Nat
  deriving DecidableEq, Repr, Inhabited

/-- One berth (R10). -/
structure Berth where
  number     : Nat
  position   : Nat
  halfWidth  : Nat
  side       : DoorSide
  servesUp   : Bool
  servesDown : Bool
  gates      : Nat
  allowance  : Nat
  deriving DecidableEq, Repr, Inhabited

inductive MarkSide where
  | common | aSide | bSide
  deriving DecidableEq, Repr, Inhabited

/-- One mark (R11). -/
structure Mark where
  position : Nat
  side     : MarkSide
  deriving DecidableEq, Repr, Inhabited

/-- The constants of a profile set (Table 1-2). -/
structure SetConstants where
  cruise : Nat
  accel  : Nat
  service : Nat
  superv : Nat
  offW   : Nat
  offS   : Nat
  offE   : Nat
  offT   : Nat
  deriving DecidableEq, Repr, Inhabited

/-- The role constants of Tables 2-1, 5-1, 6-1, 7-1, 8-1 and 9-1, in the order of the tables. A
direction sense is 0 for normal and 1 for inverted; the primary channel is 0 for E0 and 1 for E1. -/
inductive ConstName where
  | countLength0 | countLength1 | sense0 | sense1 | primary | disagreeTolerance | drift | uMax
  | captureWindow | markTolerance | loadOffset | loadGain | gramsPerCount | placeMass | ratedPlaces
  | rollbackTolerance | slipTolerance | slipTime | ropeStretch
  | proofTime | proofDecrement | stopButtonLevel
  | dwell | doorCloseTimeout | ratedLoad | imbalance | derate | overrun | creepDistance | vCreep
  | stopTolerance | recoverySpeed | fullScale
  | halfLength | discardTime
  | passbackTime | holdTime | passageTime
  deriving DecidableEq, Repr, Inhabited

/-- Signals that an output may be assigned (Table 10-2). -/
inductive Signal where
  | driveEnable | serviceBrakeHold | safetyBrakeHold | trackBrakeHold
  | doorReleaseLeft | doorReleaseRight | doorCloseLeft | doorCloseRight
  | platformGateRelease | turnstileRelease | greenIndicator | redIndicator
  | speedWarning | referenceFallback | levelOne
  deriving DecidableEq, Repr, Inhabited

/-- Polarity and debounce time of a digital input (R175). -/
structure InputConfig where
  inverted : Bool
  debounce : Nat
  deriving DecidableEq, Repr, Inhabited

/-- The assignment of a digital output (R176). -/
structure OutputConfig where
  signal   : Option Signal
  inverted : Bool
  deriving DecidableEq, Repr, Inhabited

structure ImageHeader where
  format : Nat
  length : Nat
  crc    : BitVec 32
  deriving DecidableEq, Repr, Inhabited

/-- The identity of a unit record before it has been checked against the role. -/
inductive RawIdentity where
  | absent
  | car (c : CarId)
  | berth (number : Nat)
  | gate (berth index : Nat)
  deriving DecidableEq, Repr, Inhabited

/-- What the configuration memory delivers (Table 11-1). `delivered` is the number of bytes it gave,
header included, and `body` the bytes after the header within the length. The byte layout of the
records is not given, so the records as read from the bytes stand beside them. -/
structure Image where
  header       : Option ImageHeader
  delivered    : Nat
  body         : List Byte
  address      : Nat
  role         : Option Role
  identity     : RawIdentity
  lineLength   : Nat
  samplePeriod : Nat
  retryLimit   : Nat
  zones        : List Zone
  stops        : List Stop
  berths       : List Berth
  marks        : List Mark
  set0         : SetConstants
  set1         : SetConstants
  constants    : List (ConstName × Int)
  inputs       : List InputConfig
  markInverted : Bool
  outputs      : List OutputConfig
  deriving DecidableEq, Repr, Inhabited

/-! ## Other operands -/

/-- A transition of the two quadrature phases of a channel (R19): one phase changed, in the order that
a normal direction sense takes as forward or in the reverse order; or both changed together. -/
inductive QuadTransition where
  | normalOrder | reverseOrder | bothChanged
  deriving DecidableEq, Repr, Inhabited

/-- One character of the reader line, with whether its stop bit is sound (R179). -/
structure ReaderChar where
  value  : Byte
  stopOk : Bool
  deriving DecidableEq, Repr, Inhabited

/-- The commands of the unit. Every command carries `dt`, the time in µs since the one before it, so
that a list of commands is a history in time (notes/assumptions/1.md). -/
inductive Instr where
  | powerOnReset (dt : Nat)
  | pinReset (dt : Nat)
  | configurationReadComplete (dt : Nat) (image : Image) (reading : BitVec 16)
  | listeningTimerExpiry (dt : Nat)
  | quadratureTransition (dt : Nat) (ch : ChannelId) (tr : QuadTransition)
  | edgeIntervalVoid (dt : Nat) (ch : ChannelId)
  | sampleEvent (dt : Nat) (reading : BitVec 16)
  | zeroTimerExpiry (dt : Nat) (ch : ChannelId)
  | illegalTransitionLimit (dt : Nat) (ch : ChannelId)
  | disagreementTimerExpiry (dt : Nat)
  | agreementTimerExpiry (dt : Nat)
  | standstillTimerExpiry (dt : Nat)
  | ropeSlipTimerExpiry (dt : Nat)
  | markDetectorEdge (dt : Nat) (high : Bool)
  | offerToArbitration (dt : Nat)
  | arbitrationLoss (dt : Nat)
  | bitError (dt : Nat) (field : BitField)
  | frameSent (dt : Nat)
  | noAckAttempt (dt : Nat)
  | frameComplete (dt : Nat) (raw : RawFrame)
  | receiveError (dt : Nat) (kind : ReceiveError)
  | takeFrame (dt : Nat)
  | statePeriodExpiry (dt : Nat) (kind : StateKind)
  | staleTimerExpiry (dt : Nat) (addr : Nat)
  | lostTimerExpiry (dt : Nat) (addr : Nat)
  | brakeProofTimerExpiry (dt : Nat)
  | rawInputChange (dt : Nat) (input : Nat) (high : Bool)
  | debounceTimerExpiry (dt : Nat) (input : Nat)
  | dwellTimerExpiry (dt : Nat)
  | doorCloseTimerExpiry (dt : Nat)
  | retryTimerExpiry (dt : Nat)
  | torqueProofTimerExpiry (dt : Nat)
  | repeatTimerExpiry (dt : Nat)
  | confirmationTimerExpiry (dt : Nat)
  | discardTimerExpiry (dt : Nat)
  | ticketRecord (dt : Nat) (chars : List ReaderChar)
  | readerGapTimeout (dt : Nat)
  | lineNoise (dt : Nat) (c : ReaderChar)
  | holdTimerExpiry (dt : Nat)
  | passageTimerExpiry (dt : Nat)
  | redIndicatorTimerExpiry (dt : Nat)
  | passbackEntryExpiry (dt : Nat)
  | outputHoldTimerExpiry (dt : Nat)
  | status (dt : Nat)
  | peer (dt : Nat) (n : Option Nat)
  | counts (dt : Nat)
  | brakeRecords (dt : Nat)
  | cycle (dt : Nat)
  | clearCounts (dt : Nat)
  | referenceRestore (dt : Nat)
  | unknownCommand (dt : Nat)
  | serviceAnswerSent (dt : Nat)
  | resetTerminalActive (dt : Nat)
  | supplyBelowWorkingLevel (dt : Nat)
  | busIdle (dt : Nat)
  deriving DecidableEq, Repr, Inhabited

end Sys2Proof
end

