-- ==== Sys2Proof/WellFormed.lean ====
section
/-! DEFINITION. Which commands are well formed: the bounds that the manual puts on the terminals, the
addresses and the records a command names. What a frame, a ticket record or an image *says* is not
bounded here: the unit judges that itself (R41, R155, R182). -/

namespace Sys2Proof

/-- A unit has 24 digital inputs (Chapter 10). -/
abbrev inputOk (input : Nat) : Bool := decide (input < 24)

/-- Unit addresses run from 0 to 31 (00_scope.md, section 2.2). -/
abbrev addressOk (addr : Nat) : Bool := decide (addr < 32)

/-- A ticket record is a frame of 10 characters (R179); a broken one is shorter. -/
abbrev charsOk (chars : List ReaderChar) : Bool := decide (1 ≤ chars.length ∧ chars.length ≤ 10)

/-- An image names 24 inputs and 16 outputs (Chapter 10). -/
abbrev imageOk (image : Image) : Bool :=
  decide (image.inputs.length = 24 ∧ image.outputs.length = 16)

/-- The well-formed commands. -/
def Instr.wellFormed : Instr → Bool
  | .configurationReadComplete _ image _ => imageOk image
  | .staleTimerExpiry _ addr => addressOk addr
  | .lostTimerExpiry _ addr => addressOk addr
  | .rawInputChange _ input _ => inputOk input
  | .debounceTimerExpiry _ input => inputOk input
  | .ticketRecord _ chars => charsOk chars
  | _ => true

end Sys2Proof
end

