-- ==== Sys2Proof/Machine/State.lean ====
section
/-! DEFINITION. The state of one OW-3216 unit, block by block as Table 0-2 lists them, as plain data,
and the state right after a power-on reset. Times that timers fall due at are in µs since the last
reset; recorded unit times are the 32-bit millisecond counter of 00_scope.md, section 6.4. -/

namespace Sys2Proof.Machine

open Sys2Proof

/-! ## Start-up (Chapter 11) -/

/-- What the unit is doing as a whole: without supply, held in reset, reading its configuration, or in
one of the unit states of Table 11-3 (R181, R185). -/
inductive Phase where
  | unpowered
  | inReset
  | starting
  | configured (st : UnitState)
  deriving DecidableEq, Repr, Inhabited

/-- The checks of Table 11-2, in order. -/
inductive Check where
  | read | format | crc | unitRecord | line | zones | sets | berths | stops | marks | roleConstants
  | creep | gate | inputs | outputs
  deriving DecidableEq, Repr, Inhabited

/-- What a failing check records with it (R182): the index of an entry, input or output, or the
constant concerned. -/
inductive CheckItem where
  | none
  | index (i : Nat)
  | constant (c : ConstName)
  deriving DecidableEq, Repr, Inhabited

structure CheckFailure where
  check : Check
  item  : CheckItem
  deriving DecidableEq, Repr, Inhabited

/-- What the accepted image gives the unit (R182): every block takes its constants from it. -/
structure UnitConfig where
  address      : Nat
  identity     : Identity
  lineLength   : Nat
  samplePeriod : Nat
  retryLimit   : Nat
  zones        : List Zone
  stops        : List Stop
  berths       : List Berth
  marks        : List Mark
  set0         : SetConstants
  set1         : SetConstants
  constants    : List (ConstName × Int)
  inputs       : List InputConfig
  markInverted : Bool
  outputs      : List OutputConfig
  deriving DecidableEq, Repr, Inhabited

/-! ## Profile store (Chapter 1) -/

/-- One segment of the merged limit list (R5 to R7): `[start, stop)`, the last one with its end. -/
structure Segment where
  start  : Nat
  stop   : Nat
  limit0 : Nat
  limit1 : Nat
  deriving DecidableEq, Repr, Inhabited

structure ProfileStore where
  merged     : List Segment
  digest     : Digest
  /-- The profile set in force, 0 or 1, decided at each sample event of a CAR (R16); set 1 after reset. -/
  setInForce : Nat
  /-- The trip and revision that a CAR's MOTION shows (Table 1-7). -/
  carTrip    : Option TripRef
  /-- The notice store of a CAR (R15). -/
  notice     : Option TripNotice
  deriving DecidableEq, Repr, Inhabited

/-! ## Measurement block (Chapter 2) -/

/-- One encoder channel (R19, R20, R23). -/
structure Channel where
  /-- accumulator, in µm -/
  acc          : Int
  /-- accumulator at the last sample event -/
  accAtSample  : Int
  /-- edge timer at the last edge, in µs -/
  lastEdge     : Option Nat
  /-- interval between the last two edges, in µs; `none` when void -/
  interval     : Option Nat
  /-- whether an edge has come since the interval was last void, so that the next one makes it valid -/
  edgeOpen     : Bool
  /-- whether the last edge was forward -/
  forward      : Bool
  /-- edges since the last sample event -/
  edges        : Nat
  /-- arrival times of recent illegal transitions, newest first, in µs -/
  illegalTimes : List Nat
  speed        : Int
  inService    : Bool
  zeroSince    : Option Nat
  /-- unit time of the last sample at which a loss criterion was met -/
  lastFault    : Option UnitTime
  deriving DecidableEq, Repr, Inhabited

structure Measurement where
  e0            : Channel
  e1            : Channel
  status        : RefStatus
  reference     : ChannelId
  disagreeSince : Option Nat
  agreeSince    : Option Nat
  v             : Int
  slowSince     : Option Nat
  standstill    : Bool
  /-- whether a sample has been taken since reset, and the time of the last one, in µs -/
  lastSample    : Option Nat
  /-- position accumulator, in µm of the unit's own coordinate (R28) -/
  acc           : Int
  known         : Bool
  synchronised  : Bool
  /-- haul position of the sample record, clamped by R34 -/
  h             : Nat
  u             : Nat
  residue       : Nat
  /-- END_OF_TRACK is present: the unclamped position lies outside [0, L] -/
  outside       : Bool
  /-- POSITION_DEGRADED has been raised and its cause has not ended since -/
  degraded      : Bool
  /-- the expected mark, an index into the car's candidates in order of track position -/
  expected      : Option Nat
  /-- whether the expected mark is sought in the direction of rising track position -/
  expectedUp    : Bool
  misses        : Nat
  /-- sign of v at the last sample with |v| of 20 mm/s or more: `true` for positive -/
  lastSign      : Option Bool
  filter        : List Nat
  published     : Nat
  established   : Bool
  deriving DecidableEq, Repr, Inhabited

/-! ## Line bus controller (Chapter 3) -/

/-- A frame in the transmit queue (R47). `onBus` marks the frame whose attempt is in progress. -/
structure TxFrame where
  payload : Payload
  seq     : Nat
  failed  : Nat
  onBus   : Bool
  deriving DecidableEq, Repr, Inhabited

structure LineBus where
  queue       : List TxFrame
  /-- the frame on the bus while an attempt is in progress -/
  attempt     : Option TxFrame
  rx          : List Frame
  /-- the sequence counters, by frame kind code -/
  seqNext     : List Nat
  conflictRun : Nat
  /-- the receiver has seen the bus idle since it was enabled, and judges bits (R39) -/
  footing     : Bool
  /-- the period timers of the STATE kinds (R52), by kind, due in µs -/
  periodDue   : List (Option Nat)
  /-- the content last queued, by STATE kind (R52) -/
  lastContent : List (Option Payload)
  /-- whether the unit drove the ack slot of the last frame it judged dominant -/
  ackDriven   : Bool
  /-- whether the unit has placed an abort mark since its last offer -/
  abortPlaced : Bool
  deriving DecidableEq, Repr, Inhabited

/-! ## Peer view (Chapter 4) -/

/-- Freshness states (Table 4-2). -/
inductive Freshness where
  | unknown | fresh | stale | lost | mismatched | conflict
  deriving DecidableEq, Repr, Inhabited

/-- One entry of the peer view (Table 4-1). -/
structure PeerEntry where
  freshness    : Freshness
  announcement : Option Identity
  digest       : Option Digest
  age          : Option UnitTime
  motion       : Option Motion
  door         : Option DoorReport
  berth        : Option BerthReport
  load         : Option LoadReport
  admission    : Option AdmissionReport
  level        : Option Nat
  lastOrder    : Option (Nat × Cause)
  /-- last sequence number applied for each CONTROL kind, by code − 1, with its unit time -/
  controlSeq   : List (Option (Nat × UnitTime))
  /-- last sequence number received for each STATE kind -/
  stateSeq     : List (Option Nat)
  rejoins      : Nat
  deriving DecidableEq, Repr, Inhabited

/-! ## Supervision block (Chapter 5) -/

structure TripAuthority where
  hEnd      : Nat
  direction : Direction
  trip      : Nat
  deriving DecidableEq, Repr, Inhabited

/-- The result of a supervision sample (R83). -/
structure SupervisionResult where
  set   : Nat
  vPerm : Nat
  w     : Nat
  s     : Nat
  e     : Nat
  t     : Nat
  deriving DecidableEq, Repr, Inhabited

structure Supervision where
  /-- a trip authority, or `none` for the track ends -/
  authority : Option TripAuthority
  result    : Option SupervisionResult
  warning   : Bool
  lastDir   : Direction
  slipSince : Option Nat
  armed     : Bool
  /-- the causes of Chapter 5 present at the latest sample -/
  present   : List Cause
  deriving DecidableEq, Repr, Inhabited

/-! ## Brake block (Chapter 6) -/

/-- One own-demand entry (R100). -/
structure DemandEntry where
  level   : Nat
  present : Bool
  deriving DecidableEq, Repr, Inhabited

/-- One row of the received-level table (R104). -/
structure LevelRow where
  order     : Nat
  cause     : Option Cause
  h         : Option Nat
  number    : Nat
  announced : Nat
  deriving DecidableEq, Repr, Inhabited

structure BrakeProof where
  level : Nat
  speed : Nat
  due   : Nat
  deriving DecidableEq, Repr, Inhabited

/-- One brake record (R113). -/
structure BrakeRecord where
  cause : Cause
  level : Nat
  h     : Option Nat
  v     : Int
  trip  : Option Nat
  time  : UnitTime
  deriving DecidableEq, Repr, Inhabited

structure Brake where
  /-- own demands, by cause code − 1, codes 1 to 20 -/
  demands   : List DemandEntry
  /-- the received-level table, by unit address -/
  rows      : List LevelRow
  effective : Nat
  held      : Option Nat
  issue     : Nat
  proof     : Option BrakeProof
  records   : List BrakeRecord
  /-- the highest own demand as last judged, and what has been raised since (R100) -/
  judged    : Nat
  raised    : List (Cause × Nat)
  /-- the brake block of a CAR asks for the track brake hold (R99) -/
  trackAsk  : Bool
  deriving DecidableEq, Repr, Inhabited

/-! ## Trip controller (Chapter 7) -/

structure TripRecord where
  number    : Nat
  revision  : Nat
  set       : Nat
  pending   : Bool
  fromStop  : Option Nat
  target    : Option Nat
  direction : Direction
  hEnd      : Nat
  derated   : Bool
  recovery  : Bool
  deriving DecidableEq, Repr, Inhabited

/-- The reason codes of Chapter 7. -/
inductive Reason where
  | brakeLevel | carNotFresh | doorsNotLocked | berthNotReady | noReference | overload
  | doorsNotClosed | driveNotReady | syncAmbiguous | notStandstill | noTarget | stopShort | syncLost
  deriving DecidableEq, Repr, Inhabited

structure EvacReplyRecord where
  side   : DoorSide
  result : EvacResult
  time   : UnitTime
  deriving DecidableEq, Repr, Inhabited

structure TripController where
  haulage      : Haulage
  trip         : Option TripRecord
  counter      : Nat
  currentStop  : Option Nat
  heldDir      : Direction
  dwellDue     : Option Nat
  dwellExpired : Bool
  doorCloseDue : Option Nat
  retryDue     : Option Nat
  torqueDue    : Option Nat
  /-- held setpoint, in µm/s -/
  setpoint     : Int
  /-- setpoint of the latest sample, in mm/s, which the analog code was formed from (R129, R134) -/
  latestSetpoint : Int
  lastReason   : Option (Reason × UnitTime)
  replyA       : Option EvacReplyRecord
  replyB       : Option EvacReplyRecord
  /-- a brake reset has been accepted since UNSYNCED was last entered (R119) -/
  resetSeen    : Bool
  /-- the latest notice is to be queued again at the next sample event (R14, R124) -/
  requeue      : Bool
  /-- READY_CHECK or RELEASING serves a resumption from HOLDING (R127) -/
  resumption   : Bool
  /-- the torque of a recovery trip has been proved (R131) -/
  torqueProved : Bool
  askEnable    : Bool
  askService   : Bool
  deriving DecidableEq, Repr, Inhabited

/-! ## Door block and grant table (Chapter 8) -/

structure DoorSideContext where
  state          : ReleaseState
  confirmed      : Bool
  withdrawAtLock : Bool
  deriving DecidableEq, Repr, Inhabited

structure DoorBlock where
  stopBerth       : Option Nat
  requestNumber   : Nat
  retryCount      : Nat
  grantId         : Option Nat
  armed           : Bool
  repeatDue       : Option Nat
  confirmDue      : Option Nat
  standstillTime  : Option UnitTime
  lastRefusal     : Option RefusalReason
  lastDriveState  : Option Haulage
  left            : DoorSideContext
  right           : DoorSideContext
  /-- DOOR_OPEN_MOVING was present when last judged (R150) -/
  openMoving      : Bool
  /-- grant ids for which a withdrawal was queued, with when, in µs since reset, newest first (R147) -/
  recentWithdraw  : List (Nat × Nat)
  /-- the opening record and the cycle counter (R157) -/
  opening         : Option Opening
  cycleCounter    : Nat
  deriving DecidableEq, Repr, Inhabited

structure GrantTable where
  state      : GrantState
  car        : CarId
  side       : DoorSide
  number     : Nat
  grantId    : Nat
  reason     : Option WithdrawReason
  discardDue : Option Nat
  counter    : Nat
  deriving DecidableEq, Repr, Inhabited

/-! ## Gate block (Chapter 9) -/

inductive CycleState where
  | none | open_ | suspended | closed
  deriving DecidableEq, Repr, Inhabited

/-- One passed ticket whose admission has not been confirmed (Table 9-4). -/
structure Unannounced where
  ticket     : Nat
  places     : Nat
  cumulative : Nat
  deriving DecidableEq, Repr, Inhabited

/-- What a gate holds of another gate of its berth. -/
structure OtherGate where
  heard   : Nat
  certain : Bool
  deriving DecidableEq, Repr, Inhabited

inductive TicketClass where
  | adult | child | group | staff | season
  deriving DecidableEq, Repr, Inhabited

inductive TicketDirection where
  | up | down | any
  deriving DecidableEq, Repr, Inhabited

/-- A ticket record (Table 9-2). -/
structure Ticket where
  id        : Nat
  cls       : TicketClass
  places    : Nat
  direction : TicketDirection
  exempt    : Bool
  deriving DecidableEq, Repr, Inhabited

/-- The ticket in process (section 9.4) with the time its timer falls due. -/
inductive TicketState where
  | none
  | held (t : Ticket) (due : Nat)
  | awaitingPassage (t : Ticket) (due : Nat)
  deriving DecidableEq, Repr, Inhabited

/-- Reader reply codes (Table 9-3), numbered 0 to 10 in this order (R179). -/
inductive Reply where
  | accept | format | busy | closed | suspended | direction | passback | places | uncertain | full
  | notPassed
  deriving DecidableEq, Repr, Inhabited

/-- Sources of a passback entry, weakest first (R171). -/
inductive PassbackSource where
  | ownTentative | heard | own
  deriving DecidableEq, Repr, Inhabited

structure PassbackEntry where
  ticket : Nat
  time   : UnitTime
  source : PassbackSource
  deriving DecidableEq, Repr, Inhabited

/-- The flags a gate holds for each car (section 9.3, R159). -/
structure CarFlags where
  seenClear : Bool
  doubt     : Bool
  released  : Bool
  deriving DecidableEq, Repr, Inhabited

/-- The boarding cycle record (Table 9-4). -/
structure BoardingCycle where
  state       : CycleState
  car         : CarId
  id          : Nat
  budget      : Nat
  direction   : Direction
  confirmed   : Nat
  unannounced : List Unannounced
  pending     : Nat
  /-- by gate index 0 to 7; the own index and those at or above n_g are not read -/
  others      : List OtherGate
  deriving DecidableEq, Repr, Inhabited

structure GateBlock where
  cycle    : BoardingCycle
  ticket   : TicketState
  carA     : CarFlags
  carB     : CarFlags
  /-- the passback list, oldest first -/
  passback : List PassbackEntry
  redDue   : Option Nat
  deriving DecidableEq, Repr, Inhabited

/-! ## Terminal block (Chapter 10) -/

inductive HoldTimer where
  | stopped
  | running (due : Nat)
  | expired
  deriving DecidableEq, Repr, Inhabited

structure Terminal where
  /-- raw levels of the 24 digital inputs: high or low, as the wires carry them -/
  rawHigh     : List Bool
  debounced   : List Bool
  debounceDue : List (Option Nat)
  /-- energised state and terminal level (on) of the 16 digital outputs -/
  energised   : List Bool
  outOn       : List Bool
  hold        : HoldTimer
  analogIn    : Int
  /-- the code the trip controller has set (R129) and the code driven at the analog output (R178) -/
  setCode     : Int
  analogOut   : Int
  /-- characters of the record being assembled on the reader line, and when the last one came -/
  assembling  : List Byte
  lastChar    : Nat
  /-- replies given to the reader line since reset, in order -/
  replies     : List Reply
  deriving DecidableEq, Repr, Inhabited

/-! ## Service port (Chapter 11) -/

inductive RefusalCode where
  | busy | starting | notConfigured | unknown | range | role | moving | channelFault
  deriving DecidableEq, Repr, Inhabited

structure MeasurementStatus where
  reference : RefStatus
  h         : Option Nat
  u         : Nat
  v         : Int
  deriving DecidableEq, Repr, Inhabited

/-- STATUS of the supervision block (R96). -/
structure SupervisionStatus where
  result    : Option SupervisionResult
  warning   : Bool
  authority : Option TripAuthority
  present   : List Cause
  deriving DecidableEq, Repr, Inhabited

structure DemandStatus where
  cause   : Cause
  level   : Nat
  present : Bool
  deriving DecidableEq, Repr, Inhabited

structure ProofStatus where
  level  : Nat
  speed  : Nat
  leftMs : Nat
  deriving DecidableEq, Repr, Inhabited

/-- STATUS of the brake block (R115). -/
structure BrakeStatus where
  effective : Nat
  demands   : List DemandStatus
  rows      : List (Nat × LevelRow)
  held      : Option Nat
  issue     : Option Nat
  proof     : Option ProofStatus
  deriving DecidableEq, Repr, Inhabited

/-- STATUS of the trip controller (R134); times left in ms. -/
structure TripStatus where
  haulage     : Haulage
  auto        : Bool
  trip        : Option TripRecord
  counter     : Nat
  currentStop : Option Nat
  heldDir     : Direction
  dwellLeft   : Option Nat
  doorLeft    : Option Nat
  retryLeft   : Option Nat
  torqueLeft  : Option Nat
  setpoint    : Int
  code        : Int
  lastReason  : Option (Reason × UnitTime)
  replyA      : Option EvacReplyRecord
  replyB      : Option EvacReplyRecord
  deriving DecidableEq, Repr, Inhabited

/-- STATUS of a CAR's door block (R153, R172): the door context, whether a FAULT side shows
RELEASE_NOT_GRANTED, the opening record and the cycle counter. -/
structure DoorStatus where
  context           : DoorBlock
  releaseNotGranted : Bool
  opening           : Option Opening
  cycleCounter      : Nat
  deriving DecidableEq, Repr, Inhabited

/-- STATUS of a GATE: the cycle's state and identity (R172). -/
structure CycleStatus where
  state : CycleState
  ref   : Option CycleRef
  deriving DecidableEq, Repr, Inhabited

/-- STATUS of the terminal block (R180). -/
structure TerminalStatus where
  inputs      : List (Nat × Bool)
  outputs     : List (Bool × Option Signal)
  holdRunning : Bool
  analogIn    : Int
  analogOut   : Int
  deriving DecidableEq, Repr, Inhabited

/-- The answer to STATUS (R187). -/
structure StatusAnswer where
  state       : UnitState
  address     : Option Nat
  identity    : Option Identity
  digest      : Option Digest
  failure     : Option CheckFailure
  measurement : Option MeasurementStatus
  supervision : Option SupervisionStatus
  brake       : BrakeStatus
  trip        : Option TripStatus
  door        : Option DoorStatus
  grant       : Option GrantTable
  cycle       : Option CycleStatus
  terminal    : TerminalStatus
  deriving DecidableEq, Repr, Inhabited

/-- The answer to PEER n (R76); the silence is in ms. -/
structure PeerAnswer where
  freshness    : Freshness
  announcement : Option Identity
  digest       : Option Digest
  silence      : Option Nat
  motion       : Option Motion
  door         : Option DoorReport
  berth        : Option BerthReport
  load         : Option LoadReport
  admission    : Option AdmissionReport
  level        : Option Nat
  lastOrder    : Option (Nat × Cause)
  rejoins      : Nat
  deriving DecidableEq, Repr, Inhabited

inductive TicketStatus where
  | none
  | held (leftMs : Nat)
  | awaitingPassage (leftMs : Nat)
  deriving DecidableEq, Repr, Inhabited

/-- The answer to CYCLE (R172). -/
structure CycleAnswer where
  cycle    : BoardingCycle
  ticket   : TicketStatus
  carA     : CarFlags
  carB     : CarFlags
  passback : Nat
  deriving DecidableEq, Repr, Inhabited

/-- The answers of the service port (R186, R187). -/
inductive Answer where
  | status (a : StatusAnswer)
  | peer (a : PeerAnswer)
  | counts (values rejoins : List Nat)
  | brakeRecords (l : List BrakeRecord)
  | cycle (a : CycleAnswer)
  | done
  | accepted
  | refused (code : RefusalCode)
  deriving DecidableEq, Repr, Inhabited

/-- An answer waiting to be sent. `ofCommand` marks the answer of the command in progress, as against a
BUSY answer, whose command was not taken. -/
structure QueuedAnswer where
  answer    : Answer
  ofCommand : Bool
  deriving DecidableEq, Repr, Inhabited

/-! ## Counts (R15, R37, R59, R74, R96, R115, R134, R153, R172, R180, R186) -/

/-- Every count of the unit but the rejoin counts, which stand in the peer entries. -/
inductive Count where
  | rejectedNotices
  | illegalE0 | illegalE1 | channelLosses | unexpectedMarks | missedMarks
  | framesSent | arbitrationLosses | bitErrors | noAckAttempts | giveUps | stateDrops
  | controlRefusals | controlDrops | checkErrors | formErrors | abortedFrames | slips | duplicates
  | sequenceGaps | ownAddress
  | digestMismatches | roleConflicts | unroutedFrames | lowerAdmissions
  | speedWarnings
  | resetKeyRefusals | repeatedResets | resetsWhileMoving | lateOrders | proofFailures
  | trackBrakeFaults
  | ignoredDispatch | ignoredRecovery | ignoredEvacuation | ignoredPark | readyCheckFailures
  | recoveryRefusals | doorCloseTimeouts | torqueTimeouts | noticesNotSent | evacuationsNotSent
  | requestsNotSent | releaseFaults | refusalsReceived | staleReplies | rejectedGrants
  | evacuationRefusals | refusalsSent | grantsIssued | discardExpiries | staleWithdrawals
  | presenceLosses
  | formatReplies | busyRefusals | closedRefusals | suspendedRefusals | directionRefusals
  | passbackRefusals | placesRefusals | uncertainRefusals | fullRefusals | admissions | notPassed
  | unexpectedPassages | openings | unopenedCycles | unknownGates
  | holdExpiries | lineNoise
  | serviceRefusals
  deriving DecidableEq, Repr, Inhabited

/-! ## The whole unit -/

/-- Why the unit could stop. The manual gives the unit no event after which it stops without a state
that the manual describes, so there is no fault. -/
inductive Fault where
  deriving DecidableEq, Repr

/-- Why a command could be refused. -/
inductive Refusal where
  /-- Raised by the dispatch for a command whose meaning is not written yet. Safe. -/
  | notModelled (mnemonic : String)
  deriving DecidableEq, Repr

structure State where
  /-- commands that wait, first in, first out -/
  pending  : List Instr
  /-- time since the last reset, in µs: unit time in ms and the edge timer are read from it -/
  clock    : Nat
  phase    : Phase
  /-- the reset terminal is active -/
  resetPin : Bool
  failure  : Option CheckFailure
  cfg      : Option UnitConfig
  listenDue : Option Nat
  sampleDue : Option Nat
  prof     : ProfileStore
  meas     : Measurement
  bus      : LineBus
  peers    : List PeerEntry
  sup      : Supervision
  brake    : Brake
  trip     : TripController
  door     : DoorBlock
  grant    : GrantTable
  gate     : GateBlock
  term     : Terminal
  answers  : List QueuedAnswer
  counts   : List Nat
  deriving DecidableEq, Repr, Inhabited

/-! ## Reset values -/

/-- R38. -/
def Channel.reset : Channel :=
  { acc := 0, accAtSample := 0, lastEdge := none, interval := none, edgeOpen := false,
    forward := true, edges := 0, illegalTimes := [], speed := 0, inService := true,
    zeroSince := none, lastFault := none }

/-- R38. The primary channel is not known before the image has been read: `reference` is set from it
then. -/
def Measurement.reset : Measurement :=
  { e0 := Channel.reset, e1 := Channel.reset, status := .normal, reference := .e0,
    disagreeSince := none, agreeSince := none, v := 0, slowSince := none, standstill := false,
    lastSample := none, acc := 0, known := false, synchronised := false, h := 0, u := 0,
    residue := 0, outside := false, degraded := false, expected := none, expectedUp := true,
    misses := 0, lastSign := none, filter := [], published := 0, established := false }

/-- R18. While no digest exists the field holds 0, which nothing reads (notes/assumptions/51.md). -/
def ProfileStore.reset : ProfileStore :=
  { merged := [], digest := 0, setInForce := 1, carTrip := none, notice := none }

/-- R60. -/
def LineBus.reset : LineBus :=
  { queue := [], attempt := none, rx := [], seqNext := List.replicate 14 0, conflictRun := 0,
    footing := false, periodDue := List.replicate 5 none, lastContent := List.replicate 5 none,
    ackDriven := false, abortPlaced := false }

/-- R61. -/
def PeerEntry.reset : PeerEntry :=
  { freshness := .unknown, announcement := none, digest := none, age := none, motion := none,
    door := none, berth := none, load := none, admission := none, level := none, lastOrder := none,
    controlSeq := List.replicate 8 none, stateSeq := List.replicate 5 none, rejoins := 0 }

/-- R97. -/
def Supervision.reset : Supervision :=
  { authority := none, result := none, warning := false, lastDir := .up, slipSince := none,
    armed := false, present := [] }

/-- A row of the received-level table at 0 (R104). -/
def LevelRow.zero : LevelRow :=
  { order := 0, cause := none, h := none, number := 0, announced := 0 }

/-- R116, with the brake record list given: emptied or kept (R114). -/
def Brake.reset (records : List BrakeRecord) : Brake :=
  { demands := List.replicate 20 { level := 0, present := false },
    rows := List.replicate 32 LevelRow.zero, effective := 0, held := none, issue := 0,
    proof := none, records := records, judged := 0, raised := [], trackAsk := false }

/-- R135. -/
def TripController.reset : TripController :=
  { haulage := .unsynced, trip := none, counter := 0, currentStop := none, heldDir := .up,
    dwellDue := none, dwellExpired := false, doorCloseDue := none, retryDue := none,
    torqueDue := none, setpoint := 0, latestSetpoint := 0, lastReason := none, replyA := none, replyB := none,
    resetSeen := false, requeue := false, resumption := false, torqueProved := false,
    askEnable := false, askService := false }

/-- R154, R157. -/
def DoorBlock.reset : DoorBlock :=
  { stopBerth := none, requestNumber := 0, retryCount := 0, grantId := none, armed := false,
    repeatDue := none, confirmDue := none, standstillTime := none, lastRefusal := none,
    lastDriveState := none,
    left := { state := .locked, confirmed := false, withdrawAtLock := false },
    right := { state := .locked, confirmed := false, withdrawAtLock := false },
    openMoving := false, recentWithdraw := [], opening := none, cycleCounter := 0 }

/-- R154. In NONE the fields but the state and the counter are void (R137). -/
def GrantTable.reset : GrantTable :=
  { state := .none, car := .a, side := .left, number := 0, grantId := 0, reason := none,
    discardDue := none, counter := 0 }

/-- R173: no cycle; in NONE the other fields of the record are void. -/
def BoardingCycle.reset : BoardingCycle :=
  { state := .none, car := .a, id := 0, budget := 0, direction := .up, confirmed := 0,
    unannounced := [], pending := 0, others := List.replicate 8 { heard := 0, certain := false } }

/-- R173. -/
def GateBlock.reset : GateBlock :=
  { cycle := BoardingCycle.reset, ticket := .none,
    carA := { seenClear := false, doubt := true, released := false },
    carB := { seenClear := false, doubt := true, released := false },
    passback := [], redDue := none }

/-- R175, R177, R178, R180: every output off, every debounced input inactive, the hold timer stopped,
the reader line idle. The raw levels are the wires' own and are given. -/
def Terminal.reset (rawHigh : List Bool) : Terminal :=
  { rawHigh := rawHigh, debounced := List.replicate 24 false,
    debounceDue := List.replicate 24 none, energised := List.replicate 16 false,
    outOn := List.replicate 16 false, hold := .stopped, analogIn := 0, setCode := 0, analogOut := 0,
    assembling := [], lastChar := 0, replies := [] }

/-- The number of counts of `Count`. -/
def countsSize : Nat := 71

/-- Every block at its reset value, in the given phase, with what a reset leaves (R185): the waiting
commands, the level of the reset terminal, the raw input levels, and the brake records given. -/
def State.afterReset (pending : List Instr) (phase : Phase) (resetPin : Bool) (rawHigh : List Bool)
    (records : List BrakeRecord) : State :=
  { pending := pending, clock := 0, phase := phase, resetPin := resetPin, failure := none,
    cfg := none, listenDue := none, sampleDue := none, prof := ProfileStore.reset,
    meas := Measurement.reset, bus := LineBus.reset, peers := List.replicate 32 PeerEntry.reset,
    sup := Supervision.reset, brake := Brake.reset records, trip := TripController.reset,
    door := DoorBlock.reset, grant := GrantTable.reset, gate := GateBlock.reset,
    term := Terminal.reset rawHigh, answers := [], counts := List.replicate countsSize 0 }

/-- The unit right after a power-on reset (R185): every block at its reset value, the brake record list
empty, the configuration read in progress. The raw input levels are low, a DESIGN CHOICE
(notes/assumptions/5.md). -/
def State.reset : State :=
  State.afterReset [] .starting false (List.replicate 24 false) []

end Sys2Proof.Machine
end

