-- ==== Sys2Proof/Machine/Operands.lean ====
section
/-! DEFINITION. How the unit reads what arrives from outside: the checks and form rules of a frame
(R40, R41), the ticket record frame (R155, Table 10-3), and the two CRCs (R12, R40, R181). -/

namespace Sys2Proof

open Machine

/-! ## CRCs -/

/-- The bits of a field, most significant bit first. -/
def msbFirst {n : Nat} (v : BitVec n) : List Bool :=
  (List.range n).map (fun i => v.getMsbD i)

/-- One bit into the CRC-16 register with polynomial x¹⁶ + x¹² + x⁵ + 1 (R12, R40). -/
def crc16Bit (reg : BitVec 16) (bit : Bool) : BitVec 16 :=
  if reg.msb != bit then (reg <<< 1) ^^^ 0x1021#16 else reg <<< 1

/-- CRC-16 of a bit sequence, register preset to all ones, no inversion (R12, R40). -/
def crc16 (bits : List Bool) : BitVec 16 :=
  bits.foldl crc16Bit 0xFFFF#16

/-- One bit into the CRC-32 register of the configuration image (R181). -/
def crc32Bit (reg : BitVec 32) (bit : Bool) : BitVec 32 :=
  if reg.msb != bit then (reg <<< 1) ^^^ 0x04C11DB7#32 else reg <<< 1

/-- CRC-32 of a byte sequence, register preset to all ones, each byte most significant bit first, no
inversion (R181). -/
def crc32 (bytes : List Byte) : BitVec 32 :=
  bytes.foldl (fun reg byte => (msbFirst byte).foldl crc32Bit reg) 0xFFFFFFFF#32

/-! ## Kinds and classes (Table 3-2) -/

def StateKind.kind : StateKind → FrameKind
  | .motion => .motion
  | .doorState => .doorState
  | .berthState => .berthState
  | .loadReport => .loadReport
  | .admissionReport => .admissionReport

/-- Index of a STATE kind in the tables kept per STATE kind. -/
def StateKind.index : StateKind → Nat
  | .motion => 0
  | .doorState => 1
  | .berthState => 2
  | .loadReport => 3
  | .admissionReport => 4

/-- The kind code of Table 3-2. -/
def FrameKind.code : FrameKind → Nat
  | .brakeOrder => 0
  | .brakeReset => 1
  | .tripNotice => 2
  | .evacuationOrder => 3
  | .evacuationReply => 4
  | .releaseRequest => 5
  | .releaseGrant => 6
  | .releaseRefusal => 7
  | .releaseWithdrawal => 8
  | .motion => 9
  | .doorState => 10
  | .berthState => 11
  | .loadReport => 12
  | .admissionReport => 13

/-- The class of a kind (Table 3-2). -/
def FrameKind.cls : FrameKind → FrameClass
  | .brakeOrder => .safety
  | .motion | .doorState | .berthState | .loadReport | .admissionReport => .state
  | _ => .control

/-- The class code of Table 3-1: the lower code has the higher priority. -/
def FrameClass.code : FrameClass → Nat
  | .safety => 0
  | .control => 1
  | .state => 2

def Payload.kind : Payload → FrameKind
  | .brakeOrder .. => .brakeOrder
  | .brakeReset .. => .brakeReset
  | .tripNotice .. => .tripNotice
  | .evacuationOrder .. => .evacuationOrder
  | .evacuationReply .. => .evacuationReply
  | .releaseRequest .. => .releaseRequest
  | .releaseGrant .. => .releaseGrant
  | .releaseRefusal .. => .releaseRefusal
  | .releaseWithdrawal .. => .releaseWithdrawal
  | .motion .. => .motion
  | .doorState .. => .doorState
  | .berthState .. => .berthState
  | .loadReport .. => .loadReport
  | .admissionReport .. => .admissionReport

def Payload.cls (p : Payload) : FrameClass := p.kind.cls

/-- The common part of a STATE frame's fields (R42). -/
def Payload.common : Payload → Option Common
  | .motion c _ => some c
  | .doorState c _ => some c
  | .berthState c _ => some c
  | .loadReport c _ => some c
  | .admissionReport c _ => some c
  | _ => none

/-- The fields with the common part's unit state filled, as at an offer to the bus (R42). -/
def Payload.withUnitState (p : Payload) (st : Option UnitState) : Payload :=
  match p with
  | .motion c m => .motion { c with unitState := st } m
  | .doorState c d => .doorState { c with unitState := st } d
  | .berthState c b => .berthState { c with unitState := st } b
  | .loadReport c l => .loadReport { c with unitState := st } l
  | .admissionReport c a => .admissionReport { c with unitState := st } a
  | q => q

/-! ## Form rules (R41, Table 3-3) -/

/-- The greatest haul position a field can carry (Table 3-3). -/
def maxPosition : Nat := 4194303

def Identity.inRange : Identity → Bool
  | .berth n => decide (n ≤ 5)
  | .gate n i => decide (n ≤ 5 ∧ i ≤ 7)
  | _ => true

def Common.inRange (c : Common) : Bool := c.identity.inRange && decide (c.level ≤ 3)

/-- Whether an optional field, where it is present, lies within its bound. -/
def optLe (x : Option Nat) (bound : Nat) : Bool :=
  match x with
  | none => true
  | some n => decide (n ≤ bound)

def TripNotice.inRange (n : TripNotice) : Bool :=
  decide (n.number ≤ 255 ∧ n.revision ≤ 15 ∧ n.set ≤ 1 ∧ n.hEnd ≤ maxPosition)
    && optLe n.fromStop 3 && optLe n.toStop 3
    && (n.fromStop.isNone == n.recovery) && (n.toStop.isNone == n.recovery)

def tripRefInRange (t : Option TripRef) : Bool :=
  match t with
  | none => true
  | some r => decide (r.number ≤ 255 ∧ r.revision ≤ 15)

def Motion.inRange (m : Motion) : Bool :=
  optLe m.h maxPosition && decide (-16383 ≤ m.v ∧ m.v ≤ 16383 ∧ m.u ≤ 65535)
    && tripRefInRange m.trip

/-- The fields of a MOTION that Table 3-3 gives by role: a DRIVE shows a haulage state; a CAR its doors-locked
flag, with the synchronised flag clear. A MOTION of another role is stored too (R69), and the table limits
none of these fields for it (notes/assumptions/65.md). -/
def Motion.fitsRole (m : Motion) : Identity → Bool
  | .drive =>
      (match m.status with
       | .haulage _ => true
       | .doorsLocked _ => false)
  | .car _ =>
      !m.synchronised &&
        (match m.status with
         | .haulage _ => false
         | .doorsLocked _ => true)
  | _ => true

def summaryInRange (g : Option GrantSummary) : Bool :=
  match g with
  | none => true
  | some g => decide (g.grantId ≤ 255) && !(g.state == GrantState.none)

def openingInRange (o : Option Opening) : Bool :=
  match o with
  | none => true
  | some o => decide (o.berth ≤ 5 ∧ o.cycleId ≤ 255 ∧ o.budget ≤ 250)

def LoadReport.inRange (l : LoadReport) : Bool :=
  decide (l.load ≤ 65535 ∧ l.places ≤ 250 ∧ 1 ≤ l.rated ∧ l.rated ≤ 250) && openingInRange l.opening

def cycleRefInRange (c : Option CycleRef) : Bool :=
  match c with
  | none => true
  | some c => decide (c.id ≤ 255)

def AdmissionReport.inRange (a : AdmissionReport) : Bool :=
  decide (a.berth ≤ 5 ∧ a.gateIndex ≤ 7 ∧ a.cumulative ≤ 250 ∧ a.tickets.length ≤ 4)
    && a.tickets.all (fun t => decide (1 ≤ t ∧ t ≤ 4294967295)) && cycleRefInRange a.cycle

/-- Every field holds a value that Table 3-3 gives for it. -/
def Payload.inRange : Payload → Bool
  | .brakeOrder level _ h number =>
      decide (1 ≤ level ∧ level ≤ 3 ∧ number ≤ 255) && optLe h maxPosition
  | .brakeReset number => decide (number ≤ 255)
  | .tripNotice n => n.inRange
  | .evacuationOrder .. => true
  | .evacuationReply .. => true
  | .releaseRequest berth _ _ number => decide (berth ≤ 5 ∧ number ≤ 255)
  | .releaseGrant berth _ _ number grantId => decide (berth ≤ 5 ∧ number ≤ 255 ∧ grantId ≤ 255)
  | .releaseRefusal berth _ number _ => decide (berth ≤ 5 ∧ number ≤ 255)
  | .releaseWithdrawal berth _ grantId _ => decide (berth ≤ 5 ∧ grantId ≤ 255)
  | .motion c m => c.inRange && m.inRange && m.fitsRole c.identity
  | .doorState c d => c.inRange && optLe d.left.grantId 255 && optLe d.right.grantId 255
  | .berthState c b => c.inRange && summaryInRange b.summary
  | .loadReport c l => c.inRange && l.inRange
  | .admissionReport c a => c.inRange && a.inRange

/-- Where the frame is a STATE frame, its common part announces OPERATING (R41). -/
def Payload.announcesOperating (p : Payload) : Bool :=
  match p.common with
  | none => true
  | some c => c.unitState == some .operating

/-- Whether the frame as received breaks a form rule (R41). -/
def RawFrame.breaksForm (r : RawFrame) : Bool :=
  r.cutShort || decide (16 < r.length.toNat) || !(r.bits.length == 8 * r.length.toNat) ||
    (match r.read with
     | .fields p =>
         !(p.kind.code == r.kind.toNat) || !(p.cls.code == r.cls.toNat) || !p.inRange
           || !p.announcesOperating
     | _ => true)

/-- The bits the check is computed over: class through the last payload bit, as sent (R40). -/
def RawFrame.checkedBits (r : RawFrame) : List Bool :=
  msbFirst r.cls ++ msbFirst r.source ++ msbFirst r.kind ++ msbFirst r.seq ++ msbFirst r.length
    ++ r.bits

/-- What a receiver finds at the end of a frame: a correct frame, or the kind of receive error. -/
inductive Verdict where
  | correct (f : Frame)
  | error (e : ReceiveError)
  deriving DecidableEq, Repr, Inhabited

/-- The judgement of a received frame (R40, R41, R55): aborted before form error before check error. -/
def RawFrame.judge (r : RawFrame) : Verdict :=
  if r.aborted then .error .aborted
  else if r.breaksForm then .error .form
  else if crc16 r.checkedBits != r.check then .error .check
  else
    match r.read with
    | .fields p => .correct { source := r.source.toNat, seq := r.seq.toNat, payload := p }
    | _ => .error .form

/-! ## Ticket records (R155, Tables 9-2 and 10-3) -/

/-- The mark that starts a record and a reply (Table 10-3). -/
def readerMark : Byte := 165

def ticketClass : Nat → Option TicketClass
  | 0 => some .adult
  | 1 => some .child
  | 2 => some .group
  | 3 => some .staff
  | 4 => some .season
  | _ => none

def ticketDirection : Nat → Option TicketDirection
  | 0 => some .up
  | 1 => some .down
  | 2 => some .any
  | _ => none

/-- The tests of R155 on the fields of a record. -/
def Machine.Ticket.wellFormed (t : Ticket) : Bool :=
  decide (1 ≤ t.id ∧ t.id ≤ 4294967295 ∧ 1 ≤ t.places ∧ t.places ≤ 4) &&
    (match t.cls with
     | .group => decide (2 ≤ t.places)
     | _ => decide (t.places = 1))

/-- The ticket that a whole record frame of 10 characters carries (Table 10-3), or `none` when the check
does not match or the record is malformed (R155). Passback exempt is the flag of weight 1; R155 has no
test on the other bits of the flags byte, so they are not read (notes/assumptions/6.md). -/
def readTicket (chars : List Byte) : Option Ticket :=
  match chars with
  | [m, a, b, c, d, cls, places, dir, flags, check] =>
      if m = readerMark ∧ a ^^^ b ^^^ c ^^^ d ^^^ cls ^^^ places ^^^ dir ^^^ flags = check then
        match ticketClass cls.toNat, ticketDirection dir.toNat with
        | some k, some dr =>
            let t : Ticket :=
              { id := ((a.toNat * 256 + b.toNat) * 256 + c.toNat) * 256 + d.toNat
                cls := k, places := places.toNat, direction := dr, exempt := flags.toNat % 2 == 1 }
            if t.wellFormed then some t else none
        | _, _ => none
      else none
  | _ => none

/-- The code of a reply (R179). -/
def Machine.Reply.code : Reply → Nat
  | .accept => 0
  | .format => 1
  | .busy => 2
  | .closed => 3
  | .suspended => 4
  | .direction => 5
  | .passback => 6
  | .places => 7
  | .uncertain => 8
  | .full => 9
  | .notPassed => 10

/-- The frame of 3 characters a reply leaves as: the mark, the code, and the exclusive-or of the code
(R179), which of one byte is that byte. -/
def Machine.Reply.chars (r : Reply) : List Byte :=
  [readerMark, BitVec.ofNat 8 r.code, BitVec.ofNat 8 r.code]

end Sys2Proof
end

