-- ==== Sys2Proof/Machine/Profile.lean ====
section
/-! DEFINITION. The line profile (Chapter 1): the zone, segment, stop, berth and mark queries, the
merged limit list and the profile digest, all computed from the accepted configuration. -/

namespace Sys2Proof.Machine

open Sys2Proof

def roleOf : Identity → Role
  | .drive => .drive
  | .car _ => .car
  | .berth _ => .berth
  | .gate _ _ => .gate

def UnitConfig.role (c : UnitConfig) : Role := roleOf c.identity

/-- The car of a CAR unit; of no meaning at another role. -/
def UnitConfig.car (c : UnitConfig) : CarId :=
  match c.identity with
  | .car x => x
  | _ => .a

/-- A role constant as configured. -/
def UnitConfig.const (c : UnitConfig) (n : ConstName) : Int :=
  ((c.constants.find? (fun e => e.1 == n)).map (·.2)).getD 0

/-- A role constant that is not negative. -/
def UnitConfig.constN (c : UnitConfig) (n : ConstName) : Nat := (c.const n).toNat

/-- The constants of a profile set (R4). -/
def UnitConfig.setConstants (c : UnitConfig) (set : Nat) : SetConstants :=
  if set = 0 then c.set0 else c.set1

/-- A haul or track position clamped to [0, L] (R1). -/
def UnitConfig.clampPosition (c : UnitConfig) (p : Int) : Nat := min p.toNat c.lineLength

/-- The track position of a car at a haul position, and the haul position of a car at a track position:
h for Car A, L − h for Car B (R1). -/
def UnitConfig.mirror (c : UnitConfig) (car : CarId) (x : Nat) : Nat :=
  match car with
  | .a => x
  | .b => c.lineLength - x

/-! ## Zones (R2, R3) -/

/-- The zone that holds a track position of [0, L]: half-open, the last zone also holding L (R2). -/
def UnitConfig.zoneAt (c : UnitConfig) (p : Nat) : Zone :=
  ((c.zones.find? (fun z => decide (z.start ≤ p ∧ p < z.stop))).orElse
    (fun _ => c.zones.getLast?)).getD default

/-- Whether the evacuation flags of a zone cover a side (R3). -/
def zonePermits (z : Zone) : DoorSide → Bool
  | .left => z.evacLeft
  | .right => z.evacRight
  | .both => z.evacLeft && z.evacRight

/-- The evacuation span query (R3): every zone that holds a track position of the closed interval, its
ends clamped to [0, L], has the flag of the side. -/
def UnitConfig.evacuationPermitted (c : UnitConfig) (a b : Int) (side : DoorSide) : Bool :=
  let lo := c.clampPosition a
  let hi := c.clampPosition b
  c.zones.all (fun z =>
    !(decide (z.start ≤ hi ∧ (lo < z.stop ∨ (z.stop = c.lineLength ∧ lo = c.lineLength))))
      || zonePermits z side)

/-! ## The merged limit list (R5 to R8) -/

/-- Insertion into a strictly increasing list; a position already there is kept once. -/
def insertPosition (x : Nat) : List Nat → List Nat
  | [] => [x]
  | y :: ys => if x < y then x :: y :: ys else if x = y then y :: ys else y :: insertPosition x ys

/-- The zone boundaries, 0 and L among them. -/
def UnitConfig.zoneBoundaries (c : UnitConfig) : List Nat :=
  c.zones.map (·.start) ++ [c.lineLength]

/-- The boundaries of the merged limit list: zone boundaries and their mirrors, in increasing order
without duplicates (R5). -/
def UnitConfig.boundaries (c : UnitConfig) : List Nat :=
  (c.zoneBoundaries ++ c.zoneBoundaries.map (fun q => c.lineLength - q)).foldr insertPosition []

/-- The segments that consecutive boundaries bound, with the limits of R6. -/
def UnitConfig.segmentsOf (c : UnitConfig) : List Nat → List Segment
  | a :: b :: rest =>
      { start := a, stop := b
        limit0 := min (c.zoneAt a).limit0 (c.zoneAt (c.lineLength - b)).limit0
        limit1 := min (c.zoneAt a).limit1 (c.zoneAt (c.lineLength - b)).limit1 }
        :: c.segmentsOf (b :: rest)
  | _ => []

/-- Joining of adjacent segments with equal limits in both sets (R7). -/
def joinSegments : List Segment → List Segment
  | [] => []
  | s :: rest =>
      match joinSegments rest with
      | [] => [s]
      | t :: ts =>
          if s.limit0 = t.limit0 ∧ s.limit1 = t.limit1 then { s with stop := t.stop } :: ts
          else s :: t :: ts

/-- The merged limit list (R5 to R7). -/
def UnitConfig.mergedList (c : UnitConfig) : List Segment :=
  joinSegments (c.segmentsOf c.boundaries)

/-- The limit of a segment for a set (R8). -/
def Segment.limit (s : Segment) (set : Nat) : Nat := if set = 0 then s.limit0 else s.limit1

/-- The segment of the merged list that holds a haul position of [0, L] (R8). -/
def segmentAt (l : List Segment) (h : Nat) : Segment :=
  ((l.find? (fun s => decide (s.start ≤ h ∧ h < s.stop))).orElse (fun _ => l.getLast?)).getD default

/-- The lowest limit of any segment in a set (R80). -/
def lineMinimum (l : List Segment) (set : Nat) : Nat :=
  match l with
  | [] => 0
  | s :: rest => rest.foldl (fun m t => min m (t.limit set)) (s.limit set)

/-! ## Stops and berths (R9, R10) -/

/-- The berth a stop names for a car. -/
def stopBerthOf (s : Stop) : CarId → Option Nat
  | .a => s.berthA
  | .b => s.berthB

/-- The berths a stop names. -/
def stopBerths (s : Stop) : List Nat := s.berthA.toList ++ s.berthB.toList

def UnitConfig.stop? (c : UnitConfig) (k : Nat) : Option Stop := c.stops[k]?

def UnitConfig.berth? (c : UnitConfig) (n : Nat) : Option Berth :=
  c.berths.find? (fun b => b.number == n)

/-- The number of the last stop of the plan. -/
def UnitConfig.lastStop (c : UnitConfig) : Nat := c.stops.length - 1

/-- The next stop after stop k in a direction (R9). -/
def UnitConfig.nextStop (c : UnitConfig) (k : Nat) : Direction → Option Nat
  | .up => if k + 1 < c.stops.length then some (k + 1) else none
  | .down => if 0 < k ∧ k < c.stops.length then some (k - 1) else none

/-- The next stop from a haul position in a direction (R9). -/
def UnitConfig.nextStopFrom (c : UnitConfig) (h : Nat) : Direction → Option Nat
  | .up => (List.range c.stops.length).find? (fun k => decide (∃ s ∈ c.stops[k]?, h < s.h))
  | .down =>
      (List.range c.stops.length).reverse.find? (fun k => decide (∃ s ∈ c.stops[k]?, s.h < h))

/-- Whether a car at a track position lies within the window of a berth. -/
def berthHolds (b : Berth) (p : Nat) : Bool :=
  decide (p ≤ b.position + b.halfWidth ∧ b.position ≤ p + b.halfWidth)

/-- Whether a haul position lies within the window of a stop (R9). -/
def UnitConfig.inStopWindow (c : UnitConfig) (s : Stop) (h : Nat) : Bool :=
  [CarId.a, CarId.b].any (fun car =>
    match (stopBerthOf s car).bind c.berth? with
    | some b => berthHolds b (c.mirror car h)
    | none => false)

/-- The distance of a stop from a haul position. -/
def distance (a b : Nat) : Nat := (a - b) + (b - a)

/-- Of a list of stop numbers, the one whose h_stop lies nearest h; of two equally near, the one that
comes first in the list. -/
def UnitConfig.nearestOf (c : UnitConfig) (h : Nat) : List Nat → Option Nat
  | [] => none
  | k :: rest =>
      match c.nearestOf h rest with
      | none => some k
      | some j =>
          if distance ((c.stop? j).getD default).h h < distance ((c.stop? k).getD default).h h
          then some j else some k

/-- The stop whose h_stop lies nearest h; of two equally near, the one of lower number (R138). -/
def UnitConfig.nearestStop (c : UnitConfig) (h : Nat) : Option Nat :=
  c.nearestOf h (List.range c.stops.length)

/-- Whether a berth serves a departure direction of a car (R10). -/
def berthServes (b : Berth) : Direction → Bool
  | .up => b.servesUp
  | .down => b.servesDown

/-! ## Marks (R11) -/

/-- The candidate marks of a car, in order of track position. -/
def UnitConfig.candidates (c : UnitConfig) (car : CarId) : List Mark :=
  c.marks.filter (fun m =>
    match m.side with
    | .common => true
    | .aSide => car == .a
    | .bSide => car == .b)

/-- The index of the candidate nearest a track position; of two equally near, the lower one. -/
def nearestMark (l : List Mark) (p : Int) : Option (Nat × Mark) :=
  (l.zipIdx.foldl (fun best (m, i) =>
    match best with
    | none => some (i, m)
    | some (j, n) =>
        if ((m.position : Int) - p).natAbs < ((n.position : Int) - p).natAbs then some (i, m)
        else some (j, n)) none)

/-- The index of the first candidate ahead of a track position, in rising or falling direction. -/
def firstAhead (l : List Mark) (p : Int) (up : Bool) : Option Nat :=
  if up then (l.zipIdx.find? (fun (m, _) => decide (p < m.position))).map (·.2)
  else (l.zipIdx.reverse.find? (fun (m, _) => decide ((m.position : Int) < p))).map (·.2)

/-- The candidate after the one of index i in a direction. -/
def nextMark (l : List Mark) (i : Nat) (up : Bool) : Option Nat :=
  if up then (if i + 1 < l.length then some (i + 1) else none)
  else (if 0 < i then some (i - 1) else none)

/-! ## The profile digest (R12, Table 1-6) -/

/-- A field of `width` bytes, most significant byte first. -/
def fieldBytes (width value : Nat) : List Byte :=
  (List.range width).reverse.map (fun i => BitVec.ofNat 8 (value / 256 ^ i))

def zoneKindCode : ZoneKind → Nat
  | .openTrack => 0
  | .tunnel => 1
  | .loop => 2
  | .viaduct => 3
  | .curve => 4

def doorSideCode : DoorSide → Nat
  | .left => 1
  | .right => 2
  | .both => 3

def markSideCode : MarkSide → Nat
  | .common => 0
  | .aSide => 1
  | .bSide => 2

/-- A flag's weight where it is set. -/
def weight (flag : Bool) (w : Nat) : Nat := if flag then w else 0

def zoneBytes (z : Zone) : List Byte :=
  fieldBytes 3 z.start ++ fieldBytes 3 z.stop ++ fieldBytes 1 (zoneKindCode z.kind)
    ++ fieldBytes 2 z.limit0 ++ fieldBytes 2 z.limit1
    ++ fieldBytes 1 (weight z.evacLeft 1 + weight z.evacRight 2)

def stopBytes (s : Stop) : List Byte :=
  fieldBytes 3 s.h ++ fieldBytes 1 (s.berthA.getD 255) ++ fieldBytes 1 (s.berthB.getD 255)

def berthBytes (b : Berth) : List Byte :=
  fieldBytes 1 b.number ++ fieldBytes 3 b.position ++ fieldBytes 2 b.halfWidth
    ++ fieldBytes 1 (doorSideCode b.side)
    ++ fieldBytes 1 (weight b.servesUp 1 + weight b.servesDown 2)
    ++ fieldBytes 1 b.gates ++ fieldBytes 1 b.allowance

def markBytes (m : Mark) : List Byte := fieldBytes 3 m.position ++ fieldBytes 1 (markSideCode m.side)

def setBytes (s : SetConstants) : List Byte :=
  fieldBytes 2 s.superv ++ fieldBytes 2 s.offW ++ fieldBytes 2 s.offS ++ fieldBytes 2 s.offE
    ++ fieldBytes 2 s.offT

/-- The bytes fed to the digest, in the order of Table 1-6. -/
def UnitConfig.digestBytes (c : UnitConfig) : List Byte :=
  fieldBytes 3 c.lineLength ++ fieldBytes 1 c.zones.length ++ c.zones.flatMap zoneBytes
    ++ fieldBytes 1 c.stops.length ++ c.stops.flatMap stopBytes
    ++ fieldBytes 1 c.berths.length ++ c.berths.flatMap berthBytes
    ++ fieldBytes 1 c.marks.length ++ c.marks.flatMap markBytes
    ++ setBytes c.set0 ++ setBytes c.set1

/-- The profile digest (R12). -/
def UnitConfig.computeDigest (c : UnitConfig) : Digest := crc16 (c.digestBytes.flatMap msbFirst)

end Sys2Proof.Machine
end

