-- ==== Sys2Proof/Machine/Ops.lean ====
section
/-! DEFINITION. Operations that every block uses: time and timers, counts, the transmit queue with its
sequence counters (R45 to R51), and the latching of own demands (R100). -/

namespace Sys2Proof.Machine

open Sys2Proof

/-! ## Configuration and phase -/

/-- The accepted configuration; before an image has passed, nothing reads it. -/
def State.conf (s : State) : UnitConfig := s.cfg.getD default

def State.role (s : State) : Role := s.conf.role

/-- A role constant. -/
def State.k (s : State) (n : ConstName) : Nat := s.conf.constN n

/-- The unit has its supply and is not held in reset. -/
def State.alive (s : State) : Bool := !(s.phase == .unpowered) && !(s.phase == .inReset)

/-- The unit runs its blocks: LISTENING, OPERATING and ADDRESS_CONFLICT (R57, R75, R77). -/
def State.running (s : State) : Bool :=
  match s.phase with
  | .configured .listening | .configured .operating | .configured .addressConflict => true
  | _ => false

/-- The unit state is OPERATING. -/
def State.operating (s : State) : Bool := s.phase == .configured .operating

/-- The operator keys are judged: OPERATING and ADDRESS_CONFLICT (R118). -/
def State.keysJudged (s : State) : Bool :=
  s.phase == .configured .operating || s.phase == .configured .addressConflict

/-! ## Time (00_scope.md, section 6.4) -/

/-- Time passes. -/
def State.advance (dt : Nat) (s : State) : State := { s with clock := s.clock + dt }

/-- Unit time: milliseconds since the last reset, 32 bits, wrapping. -/
def State.unitTime (s : State) : UnitTime := BitVec.ofNat 32 (s.clock / 1000)

/-- The age of a recorded unit time, in ms. -/
def State.elapsed (s : State) (t : UnitTime) : Nat := (s.unitTime - t).toNat

/-- When a timer started now for `ms` milliseconds falls due. -/
def State.after (s : State) (ms : Nat) : Nat := s.clock + 1000 * ms

/-- A timer is running and has fallen due. -/
def State.due (s : State) (timer : Option Nat) : Bool :=
  match timer with
  | some d => decide (d ≤ s.clock)
  | none => false

/-- A timer that runs from a start has run `ms` milliseconds. -/
def ranFor (start : Option Nat) (now ms : Nat) : Bool :=
  match start with
  | some t => decide (t + 1000 * ms ≤ now)
  | none => false

/-! ## Counts -/

/-- A count increased by one, saturating at 65,535. -/
def satInc (n : Nat) : Nat := min (n + 1) 65535

/-- The count of a kind is increased by one. Counts whose rule gives no bound, the rejected notices of R15
and the service refusals of R186, saturate as the others do (notes/assumptions/72.md). -/
def State.bump (c : Count) (s : State) : State :=
  { s with counts := s.counts.modify c.ctorIdx satInc }

/-- The present value of a count. -/
def State.count (s : State) (c : Count) : Nat := s.counts.getD c.ctorIdx 0

/-! ## Arithmetic of 00_scope.md, section 6.3 -/

/-- The search of `isqrt`: `root` is the part found so far, bits `n - 1` down to 0 are still open. -/
def isqrtBits (x : Nat) : Nat → Nat → Nat
  | 0, root => root
  | n + 1, root =>
      if (root + 2 ^ n) * (root + 2 ^ n) ≤ x then isqrtBits x n (root + 2 ^ n)
      else isqrtBits x n root

/-- The exact integer square root, rounded down. -/
def isqrt (x : Nat) : Nat := isqrtBits x (x.log2 / 2 + 1) 0

/-- A speed saturated at ±16,383 mm/s (section 6.2). -/
def saturateSpeed (v : Int) : Int := max (-16383) (min 16383 v)

/-! ## The transmit queue (R47 to R51) -/

/-- The transmit queue holds up to 8 frames (R47). -/
def txCapacity : Nat := 8

/-- The receive buffer holds up to 16 frames (R53). -/
def rxCapacity : Nat := 16

def TxFrame.isState (f : TxFrame) : Bool := f.payload.cls == .state
def TxFrame.isControl (f : TxFrame) : Bool := f.payload.cls == .control
def TxFrame.isOrder (f : TxFrame) : Bool := f.payload.cls == .safety

/-- The level a BRAKE ORDER carries. -/
def orderLevel : Payload → Nat
  | .brakeOrder level _ _ _ => level
  | _ => 0

/-- The last place of the CONTROL class: before the first STATE frame. -/
def insertControl (f : TxFrame) (q : List TxFrame) : List TxFrame :=
  q.takeWhile (fun g => !g.isState) ++ f :: q.dropWhile (fun g => !g.isState)

/-- A block is told "not sent" of one of its frames: a TRIP NOTICE of the trip in force is counted and
queued again at the next sample event when it is the latest (R14, R124), an EVACUATION ORDER is counted
(R133; also one dropped for a BRAKE ORDER, notes/assumptions/59.md), a RELEASE REQUEST is counted (R140).
The other blocks change nothing (R108, R144, R147, R151). -/
def State.tellNotSent (p : Payload) (s : State) : State :=
  match p with
  | .tripNotice n =>
      match s.trip.trip with
      | some r =>
          if r.number = n.number then
            ({ s with trip := { s.trip with
                requeue := s.trip.requeue || r.revision == n.revision } }).bump .noticesNotSent
          else s
      | none => s
  | .evacuationOrder .. => s.bump .evacuationsNotSent
  | .releaseRequest .. => s.bump .requestsNotSent
  | _ => s

/-- The sequence number the next new frame of a kind carries (R48). -/
def LineBus.nextSeq (b : LineBus) (k : FrameKind) : Nat := b.seqNext.getD k.code 0

/-- The queue takes the given form and the sequence counter of the new frame's kind advances, modulo 16
(R48). -/
def State.setQueue (q : List TxFrame) (k : FrameKind) (s : State) : State :=
  { s with bus := { s.bus with
      queue := q
      seqNext := s.bus.seqNext.set k.code ((s.bus.nextSeq k + 1) % 16) } }

/-- A new frame with the number its kind's counter holds (R48). -/
def State.newFrame (p : Payload) (s : State) : TxFrame :=
  { payload := p, seq := s.bus.nextSeq p.kind, failed := 0, onBus := false }

/-- A STATE frame is queued (R49, R51). One that a full queue without a STATE frame drops on its arrival
takes no number (R48, notes/assumptions/68.md). -/
def State.enqueueState (p : Payload) (s : State) : State :=
  let f := s.newFrame p
  let q := s.bus.queue
  if q.any (fun g => g.payload.kind == p.kind) then
    s.setQueue (q.map (fun g => if g.payload.kind == p.kind then f else g)) p.kind
  else if q.length < txCapacity then s.setQueue (q ++ [f]) p.kind
  else if q.any TxFrame.isState then
    (s.setQueue (q.eraseP TxFrame.isState ++ [f]) p.kind).bump .stateDrops
  else s.bump .stateDrops

/-- A CONTROL frame is queued (R51, R58). -/
def State.enqueueControl (p : Payload) (s : State) : State :=
  let f := s.newFrame p
  let q := s.bus.queue
  if s.phase == .configured .addressConflict then s.tellNotSent p
  else if q.length < txCapacity then s.setQueue (insertControl f q) p.kind
  else if q.any TxFrame.isState then
    (s.setQueue (insertControl f (q.eraseP TxFrame.isState)) p.kind).bump .stateDrops
  else (s.bump .controlRefusals).tellNotSent p

/-- A BRAKE ORDER is queued (R50, R51). -/
def State.enqueueOrder (p : Payload) (s : State) : State :=
  let f := s.newFrame p
  let q := s.bus.queue
  match q.find? TxFrame.isOrder with
  | some o =>
      if orderLevel o.payload < orderLevel p then
        s.setQueue (q.map (fun g => if g.isOrder then f else g)) p.kind
      else s
  | none =>
      if q.length < txCapacity then s.setQueue (f :: q) p.kind
      else if q.any TxFrame.isState then
        (s.setQueue (f :: q.eraseP TxFrame.isState) p.kind).bump .stateDrops
      else
        match q.find? TxFrame.isControl with
        | some c =>
            (((s.setQueue (f :: q.eraseP TxFrame.isControl) p.kind).bump .controlDrops).tellNotSent
              c.payload)
        | none => s

/-- A block queues a frame (R47 to R51); outside LISTENING, OPERATING and ADDRESS_CONFLICT frames are
not accepted (R57). -/
def State.enqueue (p : Payload) (s : State) : State :=
  if s.running then
    match p.cls with
    | .state => s.enqueueState p
    | .control => s.enqueueControl p
    | .safety => s.enqueueOrder p
  else s

/-! ## Own demands (R100) -/

/-- The code of a cause (Table 6-3). -/
def causeCode : Cause → Nat
  | .start => 1
  | .overspeedService => 2
  | .overspeedSafety => 3
  | .overspeedTrack => 4
  | .overrun => 5
  | .rollback => 6
  | .ropeSlip => 7
  | .positionDisagree => 8
  | .positionDegraded => 9
  | .missedMarks => 10
  | .referenceDisagree => 11
  | .referenceLost => 12
  | .driveSilent => 13
  | .carSilent => 14
  | .doorOpenMoving => 15
  | .stopButton => 16
  | .endOfTrack => 17
  | .brakeProof => 18
  | .addressConflict => 19
  | .grantLostPresence => 20
  | .trackBrakeFault => 21

/-- The causes that have an own-demand entry, codes 1 to 20, in order. -/
def demandCauses : List Cause :=
  [.start, .overspeedService, .overspeedSafety, .overspeedTrack, .overrun, .rollback, .ropeSlip,
   .positionDisagree, .positionDegraded, .missedMarks, .referenceDisagree, .referenceLost,
   .driveSilent, .carSilent, .doorOpenMoving, .stopButton, .endOfTrack, .brakeProof,
   .addressConflict, .grantLostPresence]

/-- The latched level of a cause. -/
def State.latched (s : State) (c : Cause) : Nat :=
  match s.brake.demands[causeCode c - 1]? with
  | some d => d.level
  | none => 0

/-- A demand is raised: its entry takes the level if that is above the latched one (R100). Whether the
highest own demand has risen is judged by `State.judgeRise`. -/
def State.latch (c : Cause) (level : Nat) (s : State) : State :=
  { s with brake := { s.brake with
      demands := s.brake.demands.modify (causeCode c - 1)
        (fun d => { d with level := max d.level level })
      raised := s.brake.raised ++ [(c, level)] } }

/-- The highest own demand (R100). -/
def State.highestOwn (s : State) : Nat :=
  s.brake.demands.foldl (fun m d => max m d.level) 0

/-- The greatest level of the received-level table (R105). -/
def State.highestHeard (s : State) : Nat :=
  s.brake.rows.foldl (fun m r => max m (max r.order r.announced)) 0

end Sys2Proof.Machine
end

