-- ==== Sys2Proof/Machine/Flags.lean ====
section
/-! DEFINITION. What the blocks read: the answers and substitutes of the peer view (R67, R68), the
debounced inputs by function (Table 10-1), the conditions that several blocks judge, the presence of
each cause (Table 6-3), and the energised state of each output signal (R99, R176, R177). -/

namespace Sys2Proof.Machine

open Sys2Proof

/-! ## Reading the peer view -/

/-- The entry of a unit address. -/
def State.entry (s : State) (addr : Nat) : PeerEntry := s.peers.getD addr PeerEntry.reset

/-- The silence of an entry, in ms; 0 when no frame has been taken. -/
def State.silence (s : State) (e : PeerEntry) : Nat :=
  match e.age with
  | some t => s.elapsed t
  | none => 0

/-- The stale time of an entry, in ms (R64). -/
def PeerEntry.staleTime (e : PeerEntry) : Nat :=
  match e.motion with
  | some m => if m.standstill then 1000 else 120
  | none => 1000

/-- The FRESH entry with an announcement: case 1 of R67, the only one whose records are read (R68). -/
def State.fresh (s : State) (id : Identity) : Option PeerEntry :=
  s.peers.find? (fun e => e.freshness == .fresh && e.announcement == some id)

/-- The address that R67 answers for an announcement: a FRESH entry, else the most recently heard of
those that are not UNKNOWN, and of equally recent ones that of the lowest address
(notes/assumptions/57.md). -/
def State.answer (s : State) (id : Identity) : Option Nat :=
  let held := s.peers.zipIdx.filter (fun (e, _) =>
    e.announcement == some id && !(e.freshness == .unknown))
  match held.find? (fun (e, _) => e.freshness == .fresh) with
  | some (_, a) => some a
  | none =>
      (held.foldl (fun (best : Option (PeerEntry × Nat)) x =>
        match best with
        | none => some x
        | some b => if s.silence x.1 < s.silence b.1 then some x else some b) none).map (·.2)

/-- The DRIVE's MOTION as decisions read it: the record of a FRESH entry, or nothing (R68). -/
def State.driveMotion (s : State) : Option Motion := (s.fresh .drive).bind (·.motion)

/-- The haulage state of the DRIVE as decisions read it; the substitute is none. -/
def State.driveHaulage (s : State) : Option Haulage :=
  match s.driveMotion with
  | some m =>
      match m.status with
      | .haulage st => some st
      | .doorsLocked _ => none
  | none => none

/-- The trip of the DRIVE as decisions read it; the substitute is none. -/
def State.driveTrip (s : State) : Option TripRef := s.driveMotion.bind (·.trip)

def State.carFresh (s : State) (c : CarId) : Bool := (s.fresh (.car c)).isSome

/-- A car shows standstill by its MOTION; the substitute is false. -/
def State.carStanding (s : State) (c : CarId) : Bool :=
  match (s.fresh (.car c)).bind (·.motion) with
  | some m => m.standstill
  | none => false

/-- A car shows its doors locked: the doors-locked flag of its MOTION and both sides LOCKED in its DOOR
STATE; the substitutes are clear and unknown (R121, R122). -/
def State.carDoorsLocked (s : State) (c : CarId) : Bool :=
  match s.fresh (.car c) with
  | some e =>
      (match e.motion with
       | some m => m.status == .doorsLocked true
       | none => false) &&
      (match e.door with
       | some d => d.left.state == .locked && d.right.state == .locked
       | none => false)
  | none => false

/-- The load of a car in kg; the substitute is 65,535 kg. -/
def State.carLoad (s : State) (c : CarId) : Nat :=
  match (s.fresh (.car c)).bind (·.load) with
  | some l => l.load
  | none => 65535

/-- The rated places and places on board of a car (Table 4-3): from the record of a FRESH entry; the
substitute is the rated places of the record held, or 250. -/
def State.carPlaces (s : State) (c : CarId) : Nat × Nat :=
  match (s.fresh (.car c)).bind (·.load) with
  | some l => (l.rated, l.places)
  | none =>
      let rated := match ((s.answer (.car c)).map s.entry).bind (·.load) with
        | some l => l.rated
        | none => 250
      (rated, rated)

/-- A berth shows presence; the substitute is absent. -/
def State.berthPresence (s : State) (n : Nat) : Bool :=
  match (s.fresh (.berth n)).bind (·.berth) with
  | some b => b.presence
  | none => false

/-- A berth shows its gates closed-and-locked and no grant summary; the substitute of the gates is open
(R121, R122). -/
def State.berthReady (s : State) (n : Nat) : Bool :=
  match (s.fresh (.berth n)).bind (·.berth) with
  | some b => b.gatesClosed && b.summary.isNone
  | none => false

/-- The grant summary of a berth; the substitute is none. -/
def State.berthSummary (s : State) (n : Nat) : Option GrantSummary :=
  ((s.fresh (.berth n)).bind (·.berth)).bind (·.summary)

/-! ## Inputs (Table 10-1) -/

/-- The debounced state of a digital input. -/
def State.input (s : State) (i : Nat) : Bool := s.term.debounced.getD i false

/-- The inputs that a role reads. -/
def inputsRead : Role → List Nat
  | .drive => List.range 16
  | .car => [0, 1, 2, 3]
  | .berth => [0, 1, 2]
  | .gate => [0]

def State.torqueEstablished (s : State) : Bool := s.input 0
def State.modeAuto (s : State) : Bool := s.input 2
def State.reducedKey (s : State) : Bool := s.input 3
def State.expressKey (s : State) : Bool := s.input 4
def State.parkKey (s : State) : Bool := s.input 14

/-- A selector value is one input active among those of its selector; none or more than one is no value
(R118, R174). -/
def selected {α : Type} (choices : List (Bool × α)) : Option α :=
  match choices.filter (·.1) with
  | [x] => some x.2
  | _ => none

def State.directionSelector (s : State) : Option Direction :=
  selected [(s.input 6, .up), (s.input 7, .down)]

def State.carSelector (s : State) : Option CarId :=
  selected [(s.input 9, .a), (s.input 10, .b)]

def State.sideSelector (s : State) : Option DoorSide :=
  selected [(s.input 11, .left), (s.input 12, .right), (s.input 13, .both)]

/-- The door locked input of a side of a CAR. -/
def State.doorLocked (s : State) : Side → Bool
  | .left => s.input 0
  | .right => s.input 1

def State.presenceInput (s : State) : Bool := s.input 0
def State.platformGatesClosed (s : State) : Bool := s.input 1

/-- The stop button input of a CAR or BERTH. -/
def State.stopButton (s : State) : Bool :=
  match s.role with
  | .car => s.input 3
  | .berth => s.input 2
  | _ => false

/-! ## The unit's own measurement -/

/-- The magnitude of the published speed of the latest sample record. -/
def State.absV (s : State) : Nat := s.meas.v.natAbs

/-- The haul position as frames and records carry it: unknown while the position is not known (R28). -/
def State.reportedH (s : State) : Option Nat := if s.meas.known then some s.meas.h else none

/-- The car's own track position. -/
def State.ownTrack (s : State) : Nat := s.conf.mirror s.conf.car s.meas.h

/-! ## Stops that match and the stop in hand (R119, R138) -/

/-- A stop matches when it names at least one berth and each of them answers FRESH with presence. -/
def State.stopMatches (s : State) (st : Stop) : Bool :=
  !(stopBerths st).isEmpty && (stopBerths st).all s.berthPresence

/-- The numbers of the matching stops, in increasing order. -/
def State.matchingStops (s : State) : List Nat :=
  (List.range s.conf.stops.length).filter (fun k =>
    match s.conf.stop? k with
    | some st => s.stopMatches st
    | none => false)

/-- The stop in hand at a CAR or BERTH (R138). -/
def State.stopInHand (s : State) : Option Nat :=
  match s.driveMotion with
  | some m =>
      match m.status, m.h with
      | .haulage .atStop, some h => s.conf.nearestStop h
      | _, _ => none
  | none => none

/-- A car's berth at the stop in hand (R138). -/
def State.carBerth (s : State) : Option Nat :=
  (s.stopInHand.bind s.conf.stop?).bind (fun st => stopBerthOf st s.conf.car)

/-- The car is within the window of a berth (R138). -/
def State.withinBerth (s : State) (n : Nat) : Bool :=
  match s.conf.berth? n with
  | some b =>
      s.meas.known && decide (distance s.ownTrack b.position + s.meas.u ≤ b.halfWidth)
  | none => false

/-- The request conditions of R139. -/
def State.requestConditions (s : State) : Bool :=
  s.meas.standstill && s.meas.known && decide (s.brake.effective ≤ 1) &&
    (match s.carBerth with
     | some n => s.withinBerth n
     | none => false)

/-! ## Departure conditions of the DRIVE (R121, R122) -/

/-- The berths the current stop names. -/
def State.currentBerths (s : State) : List Nat :=
  match s.trip.currentStop.bind s.conf.stop? with
  | some st => stopBerths st
  | none => []

/-- The closing conditions of R121. -/
def State.closingConditions (s : State) : Bool :=
  s.carDoorsLocked .a && s.carDoorsLocked .b && s.currentBerths.all s.berthReady

/-- The first condition that fails, with its reason. -/
def firstFailing : List (Bool × Reason) → Option Reason
  | [] => none
  | (ok, r) :: rest => if ok then firstFailing rest else some r

/-- The conditions of Table 7-4 in order; condition 4 is judged only for a departure from AT_STOP. -/
def State.readyConditions (s : State) (departure : Bool) : List (Bool × Reason) :=
  [(s.brake.effective == 0, .brakeLevel),
   (s.carFresh .a && s.carFresh .b, .carNotFresh),
   (s.carDoorsLocked .a && s.carDoorsLocked .b, .doorsNotLocked),
   (!departure || s.currentBerths.all s.berthReady, .berthNotReady),
   (!(s.meas.status == .none), .noReference),
   (decide (s.carLoad .a ≤ s.k .ratedLoad ∧ s.carLoad .b ≤ s.k .ratedLoad), .overload)]

/-! ## Presence of causes (Table 6-3) -/

/-- Whether the role supervises speed and raises measurement demands: DRIVE and CAR. -/
def State.supervises (s : State) : Bool := s.role == .drive || s.role == .car

/-- Whether a cause is present: for causes judged at sample events that of the latest sample, for the
others their present condition (R111). -/
def State.causePresent (s : State) : Cause → Bool
  | .start => s.phase == .configured .listening || s.phase == .configured .configFault
  | .positionDegraded => s.supervises && decide (s.k .uMax < s.meas.u)
  | .missedMarks => decide (2 ≤ s.meas.misses)
  | .referenceDisagree => s.meas.status == .disagree
  | .referenceLost => s.supervises && s.meas.status == .none
  | .doorOpenMoving => s.door.openMoving
  | .stopButton => s.stopButton
  | .endOfTrack => s.meas.outside
  | .brakeProof => !s.meas.standstill
  | .addressConflict => s.phase == .configured .addressConflict
  | .grantLostPresence => s.grant.state == .withdrawing && s.grant.reason == some .presenceLost
  | .trackBrakeFault => false
  | c => s.sup.present.contains c

/-- The demand entries with the presence that the blocks report for their causes (R100). -/
def State.syncPresence (s : State) : State :=
  { s with brake := { s.brake with
      demands := s.brake.demands.zipWith (fun d c => { d with present := s.causePresent c })
        demandCauses } }

/-! ## Outputs (R99, R176, R177) -/

/-- The signals of a role (Table 10-2). -/
def signalsOf : Role → List Signal
  | .drive => [.driveEnable, .serviceBrakeHold, .safetyBrakeHold, .speedWarning,
      .referenceFallback, .levelOne]
  | .car => [.trackBrakeHold, .doorReleaseLeft, .doorReleaseRight, .doorCloseLeft, .doorCloseRight,
      .speedWarning, .referenceFallback, .levelOne]
  | .berth => [.platformGateRelease, .levelOne]
  | .gate => [.turnstileRelease, .greenIndicator, .redIndicator, .levelOne]

/-- The safety hold signals (Table 10-2). -/
def isSafetyHold : Signal → Bool
  | .driveEnable | .serviceBrakeHold | .safetyBrakeHold | .trackBrakeHold
  | .doorReleaseLeft | .doorReleaseRight => true
  | _ => false

def State.side (s : State) : Side → DoorSideContext
  | .left => s.door.left
  | .right => s.door.right

/-- The door block asks for a side's door release output (Table 8-2, R145, R151). -/
def State.releaseAsked (s : State) (d : Side) : Bool :=
  match (s.side d).state with
  | .released => (s.side d).confirmed
  | .evacuation => true
  | _ => false

def TicketState.awaiting : TicketState → Bool
  | .awaitingPassage _ _ => true
  | _ => false

/-- Whether the block that owns a signal asks for it (Table 10-2). -/
def State.asked (s : State) : Signal → Bool
  | .driveEnable => s.trip.askEnable
  | .serviceBrakeHold => s.trip.askService
  | .safetyBrakeHold => s.role == .drive && !(s.trip.haulage == .parked)
  | .trackBrakeHold => s.brake.trackAsk
  | .doorReleaseLeft => s.releaseAsked .left
  | .doorReleaseRight => s.releaseAsked .right
  | .doorCloseLeft => (s.side .left).state == .closing
  | .doorCloseRight => (s.side .right).state == .closing
  | .platformGateRelease => s.grant.state == .granted
  | .turnstileRelease => s.gate.ticket.awaiting
  | .greenIndicator => s.gate.ticket.awaiting
  | .redIndicator => s.gate.redDue.isSome
  | .speedWarning => s.sup.warning
  | .referenceFallback => s.meas.status == .fallback || s.meas.status == .none
  | .levelOne => decide (1 ≤ s.brake.effective)

/-- The brake block withholds a signal (R99). -/
def State.withheld (s : State) : Signal → Bool
  | .driveEnable | .safetyBrakeHold => decide (2 ≤ s.brake.effective)
  | .trackBrakeHold => decide (3 ≤ s.brake.effective)
  | _ => false

def HoldTimer.isRunning : HoldTimer → Bool
  | .running _ => true
  | _ => false

/-- Whether a signal is energised: a safety hold signal by R177, any other while it is asked for
(R176). -/
def State.signalOn (s : State) (sig : Signal) : Bool :=
  if isSafetyHold sig then s.asked sig && !s.withheld sig && s.term.hold.isRunning
  else s.asked sig

/-- The energised state of an output: that of its signal; off without one, before the image has passed
and in CONFIG_FAULT (R176). -/
def State.outputEnergised (s : State) (o : OutputConfig) : Bool :=
  match o.signal with
  | some sig => s.running && s.signalOn sig
  | none => false

/-- The terminal level of an output: its energised state under its polarity; an output without a signal
is held off, and every output outside the running states (R176). -/
def State.outputOn (s : State) (o : OutputConfig) : Bool :=
  match o.signal with
  | some _ => s.running && (s.outputEnergised o != o.inverted)
  | none => false

end Sys2Proof.Machine
end

