-- ==== Sys2Proof/Machine/Frames.lean ====
section
/-! DEFINITION. The STATE frames a unit sends: their content (R42, Table 3-3) and when they are queued
(R52). -/

namespace Sys2Proof.Machine

open Sys2Proof

/-- The STATE kinds a role sends (R52). -/
def stateKinds : Role → List StateKind
  | .drive => [.motion]
  | .car => [.motion, .doorState, .loadReport]
  | .berth => [.berthState]
  | .gate => [.admissionReport]

/-- The common part at the moment of queuing; the unit state is filled at the offer (R42). -/
def State.common (s : State) : Common :=
  { identity := s.conf.identity, digest := s.prof.digest, level := s.brake.effective,
    unitState := none }

/-- The car's doors-locked flag (R153). -/
def State.doorsLockedFlag (s : State) : Bool :=
  s.door.left.state == .locked && s.door.right.state == .locked && s.doorLocked .left
    && s.doorLocked .right

/-- The trip and revision in force that a MOTION carries (R13, Table 1-7). -/
def State.motionTrip (s : State) : Option TripRef :=
  match s.role with
  | .drive => s.trip.trip.map (fun t => { number := t.number, revision := t.revision })
  | _ => s.prof.carTrip

def State.motionFields (s : State) : Motion :=
  { h := s.reportedH, v := s.meas.v, u := s.meas.u, ref := s.meas.status,
    standstill := s.meas.standstill, synchronised := s.meas.synchronised
    status := match s.role with
      | .drive => .haulage s.trip.haulage
      | _ => .doorsLocked s.doorsLockedFlag
    trip := s.motionTrip }

/-- The fields of one side in a DOOR STATE (R153). -/
def State.doorSideFields (s : State) (d : Side) : DoorSideState :=
  { locked := s.doorLocked d, released := s.releaseAsked d, state := (s.side d).state
    grantId :=
      if (s.side d).state == .released
          || ((s.side d).state == .closing && (s.side d).withdrawAtLock)
      then s.door.grantId else none }

/-- The grant summary while the record is not NONE (R153). -/
def State.grantSummary (s : State) : Option GrantSummary :=
  if s.grant.state == .none then none
  else some { car := s.grant.car, grantId := s.grant.grantId, state := s.grant.state }

/-- The published load: until it is established, rated places × place mass (R36). -/
def State.publishedLoad (s : State) : Nat :=
  if s.meas.established then s.meas.published else s.k .ratedPlaces * s.k .placeMass

/-- Places on board: the published load divided by the place mass, rounded up, clamped to the rated
places; the rated places while the load is not established (R36). -/
def State.placesOnBoard (s : State) : Nat :=
  if s.meas.established then
    min (s.k .ratedPlaces) ((s.meas.published + (s.k .placeMass - 1)) / s.k .placeMass)
  else s.k .ratedPlaces

/-- Own unannounced places: the sum over the list (Table 9-4). -/
def BoardingCycle.unannouncedPlaces (c : BoardingCycle) : Nat :=
  c.unannounced.foldl (fun n t => n + t.places) 0

/-- The identity of the cycle held, or none (section 9.3). -/
def BoardingCycle.ref (c : BoardingCycle) : Option CycleRef :=
  if c.state == .none then none else some { car := c.car, id := c.id }

/-- The berth number of a BERTH or GATE unit. -/
def UnitConfig.ownBerth (c : UnitConfig) : Nat :=
  match c.identity with
  | .berth n => n
  | .gate n _ => n
  | _ => 0

/-- The gate index of a GATE unit. -/
def UnitConfig.ownIndex (c : UnitConfig) : Nat :=
  match c.identity with
  | .gate _ i => i
  | _ => 0

/-- The ADMISSION REPORT of a GATE (R167). -/
def State.admissionFields (s : State) : AdmissionReport :=
  let c := s.gate.cycle
  { berth := s.conf.ownBerth, gateIndex := s.conf.ownIndex, cycle := c.ref
    cumulative := if c.state == .none then 0 else c.confirmed + c.unannouncedPlaces
    tickets := if c.state == .none then [] else c.unannounced.map (·.ticket) }

/-- The content of a STATE frame at this moment (R42, Table 3-3). -/
def State.stateContent (s : State) : StateKind → Payload
  | .motion => .motion s.common s.motionFields
  | .doorState =>
      .doorState s.common { left := s.doorSideFields .left, right := s.doorSideFields .right }
  | .berthState =>
      .berthState s.common
        { presence := s.presenceInput, gatesClosed := s.platformGatesClosed,
          summary := s.grantSummary, stopButton := s.stopButton }
  | .loadReport =>
      .loadReport s.common
        { load := s.publishedLoad, places := s.placesOnBoard, rated := s.k .ratedPlaces,
          opening := s.door.opening }
  | .admissionReport => .admissionReport s.common s.admissionFields

/-- The part of a content whose change queues a frame at once (R52): of a MOTION neither h, v nor u but
whether h is known; of the other kinds all of it. -/
def contentKey : Payload → Payload
  | .motion c m => .motion c { m with h := m.h.map (fun _ => 0), v := 0, u := 0 }
  | p => p

/-- A frame of a STATE kind is queued with the content of this moment, and its period timer restarts at
250 ms (R52). -/
def State.queueState (k : StateKind) (s : State) : State :=
  let p := s.stateContent k
  let s1 := s.enqueue p
  { s1 with bus := { s1.bus with
      periodDue := s1.bus.periodDue.set k.index (some (s1.after 250))
      lastContent := s1.bus.lastContent.set k.index (some p) } }

/-- A frame of every STATE kind the role sends is queued (R52, R105). -/
def State.queueAllStates (s : State) : State :=
  (stateKinds s.role).foldl (fun t k => t.queueState k) s

/-- Whether the content of a STATE kind has changed, in the part that queues a frame at once, since the
kind was last queued; of MOTION only at standstill (R52). -/
def State.stateChanged (s : State) (k : StateKind) : Bool :=
  (!(k == .motion) || s.meas.standstill) &&
    !((s.bus.lastContent.getD k.index none).map contentKey == some (contentKey (s.stateContent k)))

/-- Frames are queued at once on a change of their content (R52). -/
def State.queueChangedStates (s : State) : State :=
  (stateKinds s.role).foldl (fun t k => if t.stateChanged k then t.queueState k else t) s

/-- The output map: that of the accepted image, and before one has passed 16 outputs without a signal
(R176). -/
def State.outputMap (s : State) : List OutputConfig :=
  match s.cfg with
  | some c => c.outputs
  | none => List.replicate 16 { signal := none, inverted := false }

/-- The outputs follow their signals, and the analog output its code, at every moment (R176 to R178). -/
def State.refreshOutputs (s : State) : State :=
  { s with term := { s.term with
      energised := s.outputMap.map s.outputEnergised
      outOn := s.outputMap.map s.outputOn
      analogOut :=
        if s.running && s.role == .drive && !(s.term.hold == .expired) then s.term.setCode else 0 } }

/-- What holds at the end of every step: changed STATE frames are queued, the demand entries show what
their causes' owners report, and the outputs follow. -/
def State.settle (s : State) : State :=
  (if s.running then s.queueChangedStates else s).syncPresence.refreshOutputs

end Sys2Proof.Machine
end

