-- ==== Sys2Proof/Machine/Door.lean ====
section
/-! DEFINITION. The door block of a CAR (R136 to R152) and its cycle opening (R157). DOOR_OPEN_MOVING is
latched here; the rise it makes is judged by the caller (R100). -/

namespace Sys2Proof.Machine

open Sys2Proof

/-! ## Sides -/

def otherDirection : Direction → Direction
  | .up => .down
  | .down => .up

/-- Whether a door side names a side of the car. -/
def namesSide : DoorSide → Side → Bool
  | .left, .left => true
  | .right, .right => true
  | .both, _ => true
  | _, _ => false

def State.setDoor (f : DoorBlock → DoorBlock) (s : State) : State :=
  { s with door := f s.door }

/-- A change of both side contexts, each by its side. -/
def State.mapSides (f : Side → DoorSideContext → DoorSideContext) (s : State) : State :=
  s.setDoor (fun d => { d with left := f .left d.left, right := f .right d.right })

/-- Some side is in a release state. -/
def State.anySide (s : State) (st : ReleaseState) : Bool :=
  s.door.left.state == st || s.door.right.state == st

/-- A RELEASE WITHDRAWAL of the car is queued and noted for the spacing of R147. -/
def State.carWithdraw (berth grantId : Nat) (reason : WithdrawReason) (s : State) : State :=
  (s.setDoor (fun d => { d with
    recentWithdraw := (grantId, s.clock) :: d.recentWithdraw.filter (fun e => !(e.1 == grantId)) }))
  |>.enqueue (.releaseWithdrawal berth s.conf.car grantId reason)

/-! ## Closing and locking (R148) -/

/-- Every CLOSING side whose door locked input shows locked goes to LOCKED. -/
def State.lockSides (s : State) : State :=
  s.mapSides (fun d c =>
    if c.state == .closing && s.doorLocked d then { c with state := .locked } else c)

/-- When the last side whose withdraw-at-lock flag is set has reached LOCKED, one withdrawal is queued
for the held grant, and the flags and the grant id are cleared. -/
def State.withdrawLocked (s : State) : State :=
  let flagged := [s.door.left, s.door.right].filter (·.withdrawAtLock)
  if flagged.isEmpty || !flagged.all (fun c => c.state == .locked) then s
  else
    let s1 := match s.door.stopBerth, s.door.grantId with
      | some b, some g => s.carWithdraw b g .departure
      | _, _ => s
    (s1.mapSides (fun _ c => { c with withdrawAtLock := false })).setDoor
      ({ · with grantId := none })

/-- CLOSING sides reach LOCKED (R148). -/
def State.lockClosing (s : State) : State := s.lockSides.withdrawLocked

/-! ## Requests (R139 to R141) -/

/-- The request starts at a berth (R139). -/
def State.startRequest (b : Berth) (s : State) : State :=
  let number := (s.door.requestNumber + 1) % 256
  ((s.mapSides (fun d c =>
      { state :=
          if namesSide b.side d then .requesting
          else if c.state == .released then .closing else c.state
        confirmed := false, withdrawAtLock := false })).setDoor ({ · with
      armed := false, stopBerth := some b.number, requestNumber := number, lastRefusal := none
      confirmDue := none, grantId := none, retryCount := 1
      repeatDue := some (s.after 250) })).enqueue
    (.releaseRequest b.number s.conf.car b.side number)

/-- The request is abandoned (R140). The request armed flag is set again, but where the DRIVE's FRESH MOTION
shows that it has left AT_STOP, R139 has cleared it. -/
def State.abandonRequest (s : State) : State :=
  (s.mapSides (fun d c =>
    if c.state == .requesting then
      { c with state := if s.doorLocked d then .locked else .closing } else c)).setDoor
    (fun d => { d with repeatDue := none, armed := s.driveHaulage.all (· == .atStop) })

/-- The request conditions are judged while a side is REQUESTING (R140) and while the flag is set
(R139). -/
def State.judgeRequest (s : State) : State :=
  if s.anySide .requesting && !s.requestConditions then s.abandonRequest
  else if s.door.armed && s.requestConditions then
    match s.carBerth.bind s.conf.berth? with
    | some b => s.startRequest b
    | none => s
  else s

/-- The berth of the latest request. -/
def State.requestBerth (s : State) : Option Berth := s.door.stopBerth.bind s.conf.berth?

/-- The repeat timer has expired (R140). -/
def State.repeatExpiry (s : State) : State :=
  if !s.anySide .requesting then s.setDoor ({ · with repeatDue := none })
  else if s.door.retryCount < 40 then
    let s1 := s.setDoor (fun d => { d with
      retryCount := d.retryCount + 1, repeatDue := some (s.after 250) })
    match s1.requestBerth with
    | some b => s1.enqueue (.releaseRequest b.number s1.conf.car b.side s1.door.requestNumber)
    | none => s1
  else
    ((s.mapSides (fun _ c =>
      if c.state == .requesting then { c with state := .fault } else c)).setDoor
      ({ · with repeatDue := none })).bump .releaseFaults

/-- A RELEASE REFUSAL is delivered (R141). -/
def State.takeRefusal (berth number : Nat) (reason : RefusalReason) (s : State) : State :=
  if s.door.stopBerth = some berth ∧ number = s.door.requestNumber ∧ s.anySide .requesting = true then
    (s.setDoor ({ · with lastRefusal := some reason })).bump .refusalsReceived
  else s.bump .staleReplies

/-! ## Holding a grant (R145 to R147) -/

/-- The BERTH STATE of a FRESH berth shows a grant of this car in GRANTED. -/
def State.grantShown (s : State) (berth grantId : Nat) : Bool :=
  match s.berthSummary berth with
  | some g => g.car == s.conf.car && g.grantId == grantId && g.state == .granted
  | none => false

/-- Whether the stop berth shows the held grant. -/
def State.heldGrantShown (s : State) : Bool :=
  match s.door.stopBerth, s.door.grantId with
  | some b, some g => s.grantShown b g
  | _, _ => false

/-- A RELEASED side becomes confirmed when the stop berth shows the held grant (R145). -/
def State.judgeConfirm (s : State) : State :=
  if s.anySide .released && s.heldGrantShown then
    (s.mapSides (fun _ c =>
      if c.state == .released then { c with confirmed := true } else c)).setDoor
      ({ · with confirmDue := none })
  else s

/-- Every RELEASED side loses its grant and closes (R146); the confirmation timer stops
(notes/assumptions/62.md). -/
def State.dropRelease (s : State) : State :=
  (s.mapSides (fun _ c => if c.state == .released then { c with state := .closing } else c)).setDoor
    ({ · with grantId := none, confirmDue := none })

/-- The first reason for which a RELEASED side is not held (R146, Table 8-4), in the order of the rule's
conditions (notes/assumptions/60.md). -/
def State.holdFailure (s : State) : Option WithdrawReason :=
  let confirmed := (s.door.left.state == .released && s.door.left.confirmed)
    || (s.door.right.state == .released && s.door.right.confirmed)
  let berthFresh := match s.door.stopBerth with
    | some b => (s.fresh (.berth b)).isSome
    | none => false
  if !s.meas.standstill then some .moving
  else if !berthFresh then some .berthSilent
  else if confirmed && !s.heldGrantShown then some .grantNotShown
  else if !confirmed && s.due s.door.confirmDue then some .notConfirmed
  else none

/-- The hold of the RELEASED sides is judged (R146). -/
def State.judgeHold (s : State) : State :=
  if s.anySide .released then
    match s.holdFailure with
    | some reason =>
        match s.door.stopBerth, s.door.grantId with
        | some b, some g => s.dropRelease.carWithdraw b g reason
        | _, _ => s.dropRelease
    | none => s
  else s

/-- The berth checked for a grant left standing (R147). -/
def State.checkedBerth (s : State) : Option Nat :=
  match s.door.stopBerth with
  | some b => some b
  | none => s.carBerth

/-- Whether a withdrawal for a grant id was queued less than 250 ms ago or still waits (R147). -/
def State.withdrawPending (s : State) (g : Nat) : Bool :=
  s.door.recentWithdraw.any (fun e => e.1 == g && decide (s.clock < e.2 + 250000)) ||
    s.bus.queue.any (fun f =>
      match f.payload with
      | .releaseWithdrawal _ _ g' _ => g' == g
      | _ => false)

/-- The check for a grant left standing at the berth (R147). -/
def State.judgeStanding (s : State) : State :=
  match s.checkedBerth with
  | some b =>
      match s.berthSummary b with
      | some g =>
          if !s.anySide .requesting && g.car == s.conf.car && g.state == .granted
              && !(s.door.grantId == some g.grantId) && !s.withdrawPending g.grantId then
            s.carWithdraw b g.grantId .notHeld
          else s
      | none => s
  | none => s

/-- Whether a grant frame is accepted (R145). -/
def State.grantAccepted (s : State) (berth number : Nat) (side : DoorSide) : Bool :=
  s.door.stopBerth == some berth && number == s.door.requestNumber &&
    (s.requestBerth.map (·.side)) == some side && s.anySide .requesting && s.meas.standstill &&
    s.withinBerth berth

/-- A RELEASE GRANT is delivered (R145, R157). -/
def State.takeGrant (berth : Nat) (side : DoorSide) (number grantId : Nat) (s : State) : State :=
  if s.door.grantId = some grantId ∧ s.door.stopBerth = some berth then s
  else if s.grantAccepted berth number side then
    ((s.mapSides (fun _ c =>
        if c.state == .requesting then { c with state := .released, confirmed := false }
        else c)).setDoor (fun d => { d with
      repeatDue := none, grantId := some grantId, confirmDue := some (s.after 1000)
      opening := match d.opening with
        | some o => if o.berth = berth then none else some o
        | none => none })).judgeConfirm
  else (s.carWithdraw berth grantId .notHeld).bump .rejectedGrants

/-- A RELEASE WITHDRAWAL of a berth is delivered (R146); the grant id becomes none also where the sides are
already CLOSING for a departure (notes/assumptions/61.md). -/
def State.takeBerthWithdrawal (berth grantId : Nat) (s : State) : State :=
  if s.door.stopBerth = some berth ∧ s.door.grantId = some grantId then s.dropRelease.lockClosing
  else s

/-! ## The DRIVE's MOTION (R139, R148) -/

/-- A haulage state that is a departure notice (R148). -/
def isDeparture : Haulage → Bool
  | .doorClosing | .readyCheck | .releasing | .running | .recovery | .parked => true
  | _ => false

/-- The departure notice closes every side not in LOCKED or EVACUATION (R148); the confirmation timer stops
(notes/assumptions/62.md). -/
def State.departureNotice (s : State) : State :=
  ((s.mapSides (fun d c =>
      match c.state with
      | .released => { c with state := .closing, withdrawAtLock := true }
      | .requesting => { c with state := if s.doorLocked d then .locked else .closing }
      | .fault => { c with state := .closing }
      | _ => c)).setDoor (fun d => { d with
    repeatDue := if s.anySide .requesting then none else d.repeatDue
    confirmDue := none })).lockClosing

/-- A FRESH MOTION of the DRIVE shows a haulage state (R139, R148). -/
def State.doorDriveMotion (st : Haulage) (s : State) : State :=
  let s1 := s.setDoor (fun d => { d with
    armed := st == .atStop && (d.armed || !(d.lastDriveState == some .atStop))
    lastDriveState := some st })
  if isDeparture st then s1.departureNotice else s1

/-- The door button has become active (R139). -/
def State.doorButton (s : State) : State :=
  if s.anySide .requesting || s.anySide .released || s.anySide .evacuation then s
  else s.setDoor ({ · with armed := true })

/-! ## Evacuation release (R151, R152) -/

/-- The first test of Table 8-6 that fails. -/
def State.evacuationResult (s : State) (side : DoorSide) : EvacResult :=
  let reach : Int := s.k .halfLength + s.meas.u
  if s.brake.effective < 2 then .notBraked
  else if !(s.meas.standstill &&
      (match s.door.standstillTime with
       | some t => decide (5000 ≤ s.elapsed t)
       | none => false)) then .moving
  else if !s.meas.known then .positionUnknown
  else if !s.conf.evacuationPermitted (s.ownTrack - reach) (s.ownTrack + reach) side then .excluded
  else .accepted

/-- An EVACUATION ORDER is delivered (R151). A CLOSING side that waits to withdraw its grant at the lock keeps
that flag through the release, and withdraws at its later lock (notes/assumptions/73.md). -/
def State.takeEvacuation (side : DoorSide) (s : State) : State :=
  match s.evacuationResult side with
  | .accepted =>
      (s.mapSides (fun d c =>
        if namesSide side d && !(c.state == .released) then { c with state := .evacuation }
        else c)).enqueue (.evacuationReply s.conf.car side .accepted)
  | r => (s.enqueue (.evacuationReply s.conf.car side r)).bump .evacuationRefusals

/-- Every EVACUATION side ends its release (R152). A withdraw-at-lock flag kept from a departure still acts at
the lock (notes/assumptions/73.md). -/
def State.endEvacuation (s : State) : State :=
  if s.anySide .evacuation then
    (s.mapSides (fun _ c =>
      if c.state == .evacuation then { c with state := .closing } else c)).lockClosing
  else s

/-! ## Moving with a door open (R150) -/

/-- DOOR_OPEN_MOVING is judged, and latched where it becomes present (R77, R150). -/
def State.judgeOpenMoving (s : State) : State :=
  let present := !s.meas.standstill && !(s.doorLocked .left && s.doorLocked .right)
  let s1 := s.setDoor ({ · with openMoving := present })
  if present && !s.door.openMoving then s1.latch .doorOpenMoving 1 else s1

/-! ## Samples and notices -/

/-- The RELEASED sides are judged: confirmation, then the hold (R145, R146). -/
def State.judgeRelease (s : State) : State := s.judgeConfirm.judgeHold

/-- The door block's part of a sample event (R139, R140, R145 to R147, R150, R152), in the order that
notes/assumptions/70.md gives. -/
def State.doorSample (s : State) : State :=
  let s1 := s.judgeOpenMoving
  let s2 := if s1.meas.standstill then s1 else s1.endEvacuation
  s2.judgeRelease.judgeRequest.judgeStanding.lockClosing

/-- The door block is notified of the DRIVE's entry (R139, R140). -/
def State.doorDriveNotice (s : State) : State := s.judgeRequest.lockClosing

/-- The door block is notified of the entry of the berth it checks (R145 to R147). -/
def State.doorBerthNotice (s : State) : State := s.judgeRelease.judgeStanding.lockClosing

/-! ## The cycle opening (R157) -/

/-- The direction, as the car sees it, of a haul-position direction. -/
def carDirection (c : CarId) (d : Direction) : Direction :=
  match c with
  | .a => d
  | .b => otherDirection d

/-- The next cycle is opened with the places free at this moment. -/
def State.newOpening (berth : Nat) (dir : Direction) (s : State) : State :=
  let id := (s.door.cycleCounter + 1) % 256
  s.setDoor ({ · with
    cycleCounter := id
    opening := some
      { berth := berth, cycleId := id, budget := s.k .ratedPlaces - s.placesOnBoard
        direction := dir } })

/-- The opening for a trip that ends at a stop, in a haul-position direction of travel. -/
def State.judgeOpening (k : Nat) (d : Direction) (s : State) : State :=
  match ((s.conf.stop? k).bind (fun st => stopBerthOf st s.conf.car)).bind s.conf.berth? with
  | none => s
  | some b =>
      let leaving := if k = 0 ∨ k = s.conf.lastStop then otherDirection d else d
      let dir := carDirection s.conf.car leaving
      if !berthServes b dir then s.setDoor ({ · with opening := none })
      else
        match s.door.opening with
        | some o =>
            if o.berth = b.number ∧ o.direction = dir then s
            else s.newOpening b.number dir
        | none => s.newOpening b.number dir
end Sys2Proof.Machine
end

