-- ==== Sys2Proof/Machine/Gate.lean ====
section
/-! DEFINITION. The gate block of a GATE (Chapter 9): replies, decisions on a ticket, passage, admission
reports, the boarding cycle, the counts of the other gates and the passback list. -/

namespace Sys2Proof.Machine

open Sys2Proof

def State.setGate (f : GateBlock → GateBlock) (s : State) : State :=
  { s with gate := f s.gate }

def State.setCycle (f : BoardingCycle → BoardingCycle) (s : State) : State :=
  s.setGate (fun g => { g with cycle := f g.cycle })

/-- The berth of this gate. -/
def State.gateBerth (s : State) : Berth := (s.conf.berth? s.conf.ownBerth).getD default

/-- The number of gates n_g of the berth and its allowance k (Table 9-1). -/
def State.gateCount (s : State) : Nat := s.gateBerth.gates
def State.allowance (s : State) : Nat := s.gateBerth.allowance

/-- The indices of the other gates. -/
def State.otherGates (s : State) : List Nat :=
  (List.range s.gateCount).filter (fun i => !(i == s.conf.ownIndex))

def State.otherGate (s : State) (i : Nat) : OtherGate :=
  s.gate.cycle.others.getD i { heard := 0, certain := false }

def State.carFlags (s : State) : CarId → CarFlags
  | .a => s.gate.carA
  | .b => s.gate.carB

def State.setCarFlags (c : CarId) (f : CarFlags → CarFlags) (s : State) : State :=
  match c with
  | .a => s.setGate (fun g => { g with carA := f g.carA })
  | .b => s.setGate (fun g => { g with carB := f g.carB })

/-- The cycle is OPEN or SUSPENDED. -/
def BoardingCycle.running (c : BoardingCycle) : Bool := c.state == .open_ || c.state == .suspended

/-! ## The passback list (R171) -/

/-- The passback list holds up to 64 entries. -/
def passbackCapacity : Nat := 64

/-- The stronger of two sources: own above heard above own-tentative. -/
def strongerSource : PassbackSource → PassbackSource → PassbackSource
  | .own, _ => .own
  | _, .own => .own
  | .heard, _ => .heard
  | _, .heard => .heard
  | .ownTentative, .ownTentative => .ownTentative

/-- An id is added or refreshed: its entry becomes the newest, with the stronger source; where a
sixty-fifth entry would be made, the oldest leaves. -/
def addPassback (ticket : Nat) (now : UnitTime) (source : PassbackSource) (l : List PassbackEntry) :
    List PassbackEntry :=
  let rest := l.filter (fun e => !(e.ticket == ticket))
  match l.find? (fun e => e.ticket == ticket) with
  | some e => rest ++ [{ ticket := ticket, time := now, source := strongerSource e.source source }]
  | none =>
      rest.drop (rest.length + 1 - passbackCapacity)
        ++ [{ ticket := ticket, time := now, source := source }]

def State.passback (ticket : Nat) (source : PassbackSource) (s : State) : State :=
  s.setGate (fun g => { g with passback := addPassback ticket s.unitTime source g.passback })

/-- The passback time, in ms. -/
def State.passbackMs (s : State) : Nat := s.k .passbackTime * 60000

/-- The entries whose age has reached the passback time leave. -/
def State.expirePassback (s : State) : State :=
  s.setGate (fun g => { g with
    passback := g.passback.filter (fun e => decide (s.elapsed e.time < s.passbackMs)) })

/-! ## Replies (R156) -/

/-- The refusal count of a reply code; ACCEPT, FORMAT and NOT_PASSED have counts of their own. -/
def refusalCount : Reply → Option Count
  | .busy => some .busyRefusals
  | .closed => some .closedRefusals
  | .suspended => some .suspendedRefusals
  | .direction => some .directionRefusals
  | .passback => some .passbackRefusals
  | .places => some .placesRefusals
  | .uncertain => some .uncertainRefusals
  | .full => some .fullRefusals
  | .accept | .format | .notPassed => none

/-- A reply is given: every one but ACCEPT lights the red indicator for the hold time. -/
def State.reply (r : Reply) (s : State) : State :=
  let s1 := { s with term := { s.term with replies := s.term.replies ++ [r] } }
  let s2 := match r with
    | .accept => s1
    | _ => s1.setGate ({ · with redDue := some (s.after (s.k .holdTime)) })
  match refusalCount r with
  | some c => s2.bump c
  | none => s2

/-- A malformed record or a broken framing is answered FORMAT (R155, R179). -/
def State.replyFormat (s : State) : State := (s.reply .format).bump .formatReplies

/-! ## Deciding a ticket (R162 to R165) -/

/-- A ticket's direction matches the cycle's. -/
def directionMatches (t : TicketDirection) (d : Direction) : Bool :=
  match t, d with
  | .any, _ => true
  | .up, .up => true
  | .down, .down => true
  | _, _ => false

/-- The refusal of a ticket on its own fields (R162), or none. -/
def State.ownRefusal (s : State) (t : Ticket) : Option Reply :=
  let c := s.gate.cycle
  match c.state with
  | .suspended => some .suspended
  | .none | .closed => some .closed
  | .open_ =>
      if !directionMatches t.direction c.direction then some .direction
      else if !t.exempt && s.gate.passback.any (fun e => e.ticket == t.id) then some .passback
      else if s.allowance < t.places then some .places
      else none

/-- Whether a ticket is to be held (R163). -/
def State.mustHold (s : State) (t : Ticket) : Bool :=
  let c := s.gate.cycle
  decide (s.allowance < c.unannouncedPlaces + c.pending + t.places) ||
    s.otherGates.any (fun i => !(s.otherGate i).certain)

/-- The places counted against the budget: own, and heard + k for every other gate (R164). -/
def State.countedPlaces (s : State) : Nat :=
  let c := s.gate.cycle
  c.confirmed + c.unannouncedPlaces + c.pending +
    s.otherGates.foldl (fun n i => n + ((s.otherGate i).heard + s.allowance)) 0

/-- Whether a ticket fits the budget (R164). -/
def State.fitsBudget (s : State) (t : Ticket) : Bool :=
  decide (s.countedPlaces + t.places ≤ s.gate.cycle.budget)

def State.setTicket (t : TicketState) (s : State) : State := s.setGate ({ · with ticket := t })

/-- A ticket is admitted (R165). -/
def State.admitTicket (t : Ticket) (s : State) : State :=
  ((((s.setCycle (fun c => { c with pending := c.pending + t.places })).passback t.id
    .ownTentative).setTicket (.awaitingPassage t (s.after (1000 * s.k .passageTime)))).reply
    .accept).bump .admissions

/-- A ticket is settled with a reply other than ACCEPT. -/
def State.settleTicket (r : Reply) (s : State) : State := (s.setTicket .none).reply r

/-- A ticket is decided, for the first time or anew; `due` is when its hold falls due if it is held
(R162 to R164). -/
def State.decideTicket (t : Ticket) (due : Nat) (s : State) : State :=
  match s.ownRefusal t with
  | some r => s.settleTicket r
  | none =>
      if s.mustHold t then s.setTicket (.held t due)
      else if s.fitsBudget t then s.admitTicket t
      else s.settleTicket .full

/-- The first decision on a ticket: a hold starts at the hold time (R163). -/
def State.firstDecision (t : Ticket) (s : State) : State :=
  s.decideTicket t (s.after (s.k .holdTime))

/-- A HELD ticket is decided anew, its hold timer running on (R163). -/
def State.decideAgain (s : State) : State :=
  match s.gate.ticket with
  | .held t due => s.decideTicket t due
  | _ => s

/-! ## Passage (R166) -/

/-- The passage sensor has become active. -/
def State.passage (s : State) : State :=
  match s.gate.ticket with
  | .awaitingPassage t _ =>
      ((s.setCycle (fun c => { c with
        pending := c.pending - t.places
        unannounced := c.unannounced ++
          [{ ticket := t.id, places := t.places,
             cumulative := c.confirmed + c.unannouncedPlaces + t.places }] })).passback t.id
        .own).setTicket .none
  | _ => s.bump .unexpectedPassages

/-- The passage timer has expired. -/
def State.passageTimeout (s : State) : State :=
  match s.gate.ticket with
  | .awaitingPassage t _ =>
      ((((s.setCycle (fun c => { c with pending := c.pending - t.places })).setGate (fun g => { g with
        passback := g.passback.filter (fun e =>
          !(e.ticket == t.id && e.source == .ownTentative)) })).setTicket .none).reply
        .notPassed).bump .notPassed
  | _ => s

/-- The hold timer has expired (R163). -/
def State.holdTimeout (s : State) : State :=
  match s.gate.ticket with
  | .held _ _ => s.settleTicket .uncertain
  | _ => s

/-! ## The boarding cycle (R158 to R160) -/

/-- The releases shown before a cycle are no releases of that cycle (R159, log entry 32). -/
def State.forgetReleases (s : State) : State :=
  (s.setCarFlags .a (fun f => { f with released := false })).setCarFlags .b
    (fun f => { f with released := false })

/-- A cycle opens (R158). -/
def State.openCycle (c : CarId) (o : Opening) (s : State) : State :=
  let certain := !(s.carFlags c).doubt
  (s.forgetReleases.setCycle (fun b => { b with
    state := if 2 ≤ s.brake.effective then .suspended else .open_
    car := c, id := o.cycleId, budget := o.budget, direction := o.direction
    confirmed := 0, unannounced := []
    others := List.replicate 8 { heard := 0, certain := certain } })).bump .openings

def State.closeCycle (s : State) : State := s.setCycle (fun c => { c with state := .closed })

/-- A LOAD REPORT record has been stored for a car whose answer is FRESH (R158). -/
def State.judgeLoadReport (c : CarId) (l : LoadReport) (s : State) : State :=
  let s1 := match l.opening with
    | some o =>
        if o.berth = s.conf.ownBerth then
          if s.gate.cycle.ref = some (CycleRef.mk c o.cycleId) then s
          else if (s.carFlags c).seenClear then s.openCycle c o
          else s.bump .unopenedCycles
        else
          let s' := s.setCarFlags c (fun f => { f with seenClear := true })
          if s'.gate.cycle.running && s'.gate.cycle.car == c then s'.closeCycle else s'
    | none => s.setCarFlags c (fun f => { f with seenClear := true })
  s1.setCarFlags c (fun f => { f with doubt := false })

/-- A DOOR STATE record has been stored for a car, its entry FRESH or not (R159).  A release that a
record showed while the cycle ran stays held over the CLOSING records that follow it, which show the
released flags clear: the locked record comes after it (log entry 32). -/
def State.judgeDoorState (c : CarId) (fresh : Bool) (d : DoorReport) (s : State) : State :=
  if s.gate.cycle.running then
    let locked := d.left.state == .locked && d.right.state == .locked
    let ends := s.gate.cycle.car == c && fresh && locked && (s.carFlags c).released
    let s1 := s.setCarFlags c (fun f => { f with
      released := f.released || d.left.released || d.right.released })
    if ends then s1.closeCycle else s1
  else s

/-- The cycle follows the effective level (R160). -/
def State.gateLevel (s : State) : State :=
  s.setCycle (fun c => { c with
    state := match c.state with
      | .open_ => if 2 ≤ s.brake.effective then .suspended else .open_
      | .suspended => if 2 ≤ s.brake.effective then .suspended else .open_
      | st => st })

/-! ## Admission reports and the other gates (R168 to R170) -/

/-- An own ADMISSION REPORT has been sent (R168). -/
def State.reportSent (a : AdmissionReport) (s : State) : State :=
  if a.cycle.isSome ∧ a.cycle = s.gate.cycle.ref ∧ s.gate.cycle.confirmed < a.cumulative then
    s.setCycle (fun c => { c with
      confirmed := a.cumulative
      unannounced := c.unannounced.filter (fun e => decide (a.cumulative < e.cumulative)) })
  else s

/-- An ADMISSION REPORT of another gate of this berth, its entry FRESH, is judged and applied (R71,
R169). -/
def State.takeAdmission (a : AdmissionReport) (index : Nat) (s : State) : State :=
  if a.cycle.isSome ∧ a.cycle = s.gate.cycle.ref then
    if s.gateCount ≤ index then s.bump .unknownGates
    else if a.cumulative < (s.otherGate index).heard then s.bump .lowerAdmissions
    else
      a.tickets.foldl (fun t id => t.passback id .heard)
        (s.setCycle (fun c => { c with
          others := c.others.set index { heard := a.cumulative, certain := true } }))
  else s

/-- The gate may have missed a frame: every other gate is UNCERTAIN, and both cars are in doubt
(R170). -/
def State.gateDoubt (s : State) : State :=
  let s1 := (s.setCarFlags .a (fun f => { f with doubt := true })).setCarFlags .b (fun f => { f with doubt := true })
  if s1.gate.cycle.state == .none then s1
  else s1.setCycle (fun c => { c with
    others := c.others.map (fun o => { o with certain := false }) })

end Sys2Proof.Machine
end

