-- ==== Sys2Proof/Machine/Curve.lean ====
section
/-! DEFINITION. Limit points ahead, the braking curve and the permitted speed (R79 to R82), which
supervision and the setpoint share. -/

namespace Sys2Proof.Machine

open Sys2Proof

/-- The points that the merged limit list gives ahead of h, with their limits (R81). -/
def segmentPoints (l : List Segment) (set h : Nat) : Direction → List (Nat × Nat)
  | .up => (l.filter (fun g => decide (h < g.start))).map (fun g => (g.start, g.limit set))
  | .down => (l.filter (fun g => decide (g.stop ≤ h))).map (fun g => (g.stop, g.limit set))

/-- The point at the authority end, with limit 0, when it is ahead (R81). -/
def endPoint (h hEnd : Nat) : Direction → List (Nat × Nat)
  | .up => if h < hEnd then [(hEnd, 0)] else []
  | .down => if hEnd ≤ h then [(hEnd, 0)] else []

/-- The distance to a point, less u, not below 0 (R81). -/
def pointDistance (h u point : Nat) : Nat := distance point h - u

/-- The curve value: the greatest speed from which v can be reached within d at deceleration a (R82). -/
def curve (v a d : Nat) : Nat := isqrt (v * v + 2 * a * d)

/-- The smallest of a bound and the curve values of the points given (R83). -/
def leastCurve (bound a h u : Nat) (points : List (Nat × Nat)) : Nat :=
  points.foldl (fun m p => min m (curve p.2 a (pointDistance h u p.1))) bound

/-- v_perm at a known position, for a set and its deceleration (R79, R81 to R83). -/
def permittedSpeed (l : List Segment) (set a h u hEnd : Nat) (d : Direction) : Nat :=
  leastCurve ((segmentAt l h).limit set) a h u (segmentPoints l set h d ++ endPoint h hEnd d)

end Sys2Proof.Machine
end

