-- ==== Sys2Proof/Machine/Haulage.lean ====
section
/-! DEFINITION. The trip controller of the DRIVE (Chapter 7): what it does at the entry of each state,
at each sample event, at a key, at a change of the level and at an accepted brake reset, with the
berth synchronisation it asks of the measurement block (R32). Nothing here raises a demand. -/

namespace Sys2Proof.Machine

open Sys2Proof

/-! ## Setting the position (R30, R32, R33) -/

/-- Whether a haul position lies outside [0, L]. -/
def UnitConfig.offTrack (c : UnitConfig) (h : Int) : Bool := decide (h < 0 ∨ (c.lineLength : Int) < h)

/-- The unclamped haul position that a unit's accumulator stands for (R28). -/
def UnitConfig.rawHaul (c : UnitConfig) (acc : Int) : Int :=
  match c.identity with
  | .car .b => (c.lineLength : Int) - acc.tdiv 1000
  | _ => acc.tdiv 1000

/-- The position is set: the accumulator, the haul position of the record, u with its residue cleared.
A u of u_max or below ends POSITION_DEGRADED (R29), and a position on the track ends END_OF_TRACK
(R34). -/
def State.setPosition (acc rawH : Int) (u : Nat) (s : State) : State :=
  { s with meas := { s.meas with
      acc := acc
      known := true
      h := s.conf.clampPosition rawH
      u := u
      residue := 0
      degraded := s.meas.degraded && decide (s.k .uMax < u)
      outside := s.meas.outside && s.conf.offTrack rawH } }

/-- Berth synchronisation at a haul position (R32). -/
def State.synchronise (h : Nat) (s : State) : State :=
  let s1 := s.setPosition ((h : Int) * 1000) h 0
  { s1 with meas := { s1.meas with synchronised := true } }

/-- The h_stop of a stop. -/
def State.hStop (s : State) (k : Nat) : Nat := ((s.conf.stop? k).getD default).h

/-! ## Parts of the trip controller -/

/-- A change of the trip controller's own state. -/
def State.setTrip (f : TripController → TripController) (s : State) : State :=
  { s with trip := f s.trip }

def State.setHaulage (st : Haulage) (s : State) : State := s.setTrip ({ · with haulage := st })

/-- A reason is recorded with the unit time (R117). -/
def State.setReason (r : Reason) (s : State) : State :=
  s.setTrip ({ · with lastReason := some (r, s.unitTime) })

/-- The dwell timer starts at the configured dwell (R120). -/
def State.startDwell (s : State) : State :=
  s.setTrip ({ · with dwellDue := some (s.after (1000 * s.k .dwell)), dwellExpired := false })

/-- AT_STOP is entered at a stop, with the dwell started (R119, R129, R130). -/
def State.enterAtStop (k : Nat) (s : State) : State :=
  (s.setTrip ({ · with haulage := .atStop, currentStop := some k, retryDue := none })).startDwell

/-- Synchronisation at a stop, and AT_STOP there. -/
def State.arriveAt (k : Nat) (s : State) : State := (s.synchronise (s.hStop k)).enterAtStop k

/-- The trip record is cleared (R117). -/
def State.clearTrip (s : State) : State := s.setTrip ({ · with trip := none, requeue := false })

/-- The trip ends, and the supervision block returns to the track ends (R89, R117). -/
def State.endTrip (s : State) : State :=
  let s1 := s.clearTrip
  { s1 with sup := { s1.sup with authority := none } }

/-- The TRIP NOTICE of a trip record (R124, R131). -/
def TripRecord.notice (r : TripRecord) : TripNotice :=
  { number := r.number, revision := r.revision
    fromStop := if r.recovery then none else r.fromStop
    toStop := if r.recovery then none else r.target
    direction := r.direction, set := r.set, pending := r.pending, hEnd := r.hEnd
    recovery := r.recovery }

/-- The latest notice of the trip in force is queued. -/
def State.queueNotice (s : State) : State :=
  match s.trip.trip with
  | some r => (s.setTrip ({ · with requeue := false })).enqueue (.tripNotice r.notice)
  | none => s

/-- A trip starts: the record is taken, the counter advances, the supervision block takes the authority,
and the notice is queued (R89, R124). -/
def State.startTrip (r : TripRecord) (s : State) : State :=
  let s1 := s.setTrip ({ · with trip := some r, counter := (s.trip.counter + 1) % 256 })
  let s2 := { s1 with sup := { s1.sup with
    authority := some { hEnd := r.hEnd, direction := r.direction, trip := r.number } } }
  s2.queueNotice

/-- The set that the reduced-speed key selects (R13). -/
def State.keySet (s : State) : Nat := if s.reducedKey then 1 else 0

/-- Whether a ready check derates the trip (R123). -/
def State.derates (s : State) : Bool :=
  decide (s.k .imbalance < distance (s.carLoad .a) (s.carLoad .b)) || s.meas.status == .fallback

/-- The authority end for a target: h_stop with the overrun allowance, clamped (R124). -/
def State.endFor (s : State) (target : Nat) : Direction → Nat
  | .up => s.conf.clampPosition ((s.hStop target : Int) + s.k .overrun)
  | .down => s.conf.clampPosition ((s.hStop target : Int) - s.k .overrun)

/-! ## Torque proof (R125, R131) -/

/-- Torque is proved: RELEASING goes on to RUNNING, and a recovery trip asks for the service brake
hold. -/
def State.torqueProof (s : State) : State :=
  match s.trip.haulage with
  | .releasing =>
      s.setTrip ({ · with
        haulage := .running, torqueDue := none, askService := true, setpoint := 0 })
  | .recovery =>
      if s.trip.torqueProved then s
      else s.setTrip ({ · with
        torqueProved := true, torqueDue := none, askService := true, setpoint := 0 })
  | _ => s

/-- RELEASING, or the same steps in RECOVERY, is entered: drive enable asked for, the service brake
applied, setpoint 0, the torque proof timer at 2,000 ms; torque already established proves at once. -/
def State.startRelease (st : Haulage) (s : State) : State :=
  let s1 := s.setTrip ({ · with
    haulage := st, askEnable := true, askService := false, setpoint := 0, torqueProved := false
    torqueDue := some (s.after 2000) })
  if s1.torqueEstablished then s1.torqueProof else s1

/-- The last steps of HOLDING: setpoint 0, the service brake hold and then drive enable no longer asked
for (R127). -/
def State.standHolding (s : State) : State :=
  s.setTrip ({ · with haulage := .holding, setpoint := 0, askService := false, askEnable := false })

/-- AT_STOP again after a departure that failed: the dwell stays expired, and in AUTO the retry timer
starts at 1 s (R122, R125). -/
def State.returnToStop (s : State) : State :=
  s.setTrip ({ · with
    haulage := .atStop, dwellDue := none, dwellExpired := true
    retryDue := if s.modeAuto then some (s.after 1000) else none })

/-- The torque proof timer has expired (R125, R131). -/
def State.torqueTimeout (s : State) : State :=
  let s1 := ((s.setTrip ({ · with torqueDue := none, askEnable := false })).setReason
    .driveNotReady).bump .torqueTimeouts
  match s.trip.haulage with
  | .releasing =>
      if s.trip.resumption then s1.standHolding
      else
        ((s1.setTrip ({ · with currentStop := s.trip.trip.bind (·.fromStop) })).endTrip).returnToStop
  | .recovery =>
      let unknown := match s.trip.trip with
        | some r => r.target.isNone
        | none => true
      if unknown then s1.endTrip.setTrip ({ · with haulage := .unsynced, resetSeen := false })
      else s1.endTrip.setHaulage .stranded
  | _ => s

/-! ## Departure (R120 to R124) -/

/-- The departure begins (R121). -/
def State.enterDoorClosing (s : State) : State :=
  s.setTrip ({ · with
    haulage := .doorClosing, retryDue := none, dwellDue := none
    doorCloseDue := some (s.after (1000 * s.k .doorCloseTimeout)) })

/-- The closing conditions are judged in DOOR_CLOSING (R121). -/
def State.judgeClosing (s : State) : State :=
  if s.trip.haulage == .doorClosing && s.closingConditions then
    s.setTrip ({ · with haulage := .readyCheck, doorCloseDue := none, resumption := false })
  else s

/-- The door close timer has expired (R121). -/
def State.doorCloseTimeout (s : State) : State :=
  (((s.setTrip ({ · with haulage := .atStop, doorCloseDue := none })).setReason
    .doorsNotClosed).bump .doorCloseTimeouts).startDwell

/-- The dwell timer has expired (R120). -/
def State.dwellExpiry (s : State) : State :=
  let s1 := s.setTrip ({ · with dwellDue := none, dwellExpired := true })
  if s1.modeAuto then s1.enterDoorClosing else s1

/-- The direction of a departure from a stop (R124). -/
def State.departureDirection (s : State) (k : Nat) : Direction :=
  if k = 0 then .up else if k = s.conf.lastStop then .down else s.trip.heldDir

/-- The target of a departure: the next stop, or with the express key the stop after an intermediate
one (R124). -/
def State.departureTarget (s : State) (k : Nat) (d : Direction) : Nat :=
  let next := (s.conf.nextStop k d).getD k
  if s.expressKey && !(next == 0) && !(next == s.conf.lastStop) then
    (s.conf.nextStop next d).getD next
  else next

/-- A ready check of a departure has passed (R123, R124). -/
def State.depart (s : State) : State :=
  let k := s.trip.currentStop.getD 0
  let d := s.departureDirection k
  let target := s.departureTarget k d
  let s1 := s.startTrip
    { number := s.trip.counter, revision := 0, set := s.keySet, pending := false
      fromStop := some k, target := some target, direction := d, hEnd := s.endFor target d
      derated := s.derates, recovery := false }
  (s1.setTrip ({ · with
    currentStop := none, heldDir := d, resumption := false })).startRelease .releasing

/-- A resumption check has passed: a new trip number, the set and the derate latched anew (R127). -/
def State.resume (r : TripRecord) (s : State) : State :=
  (s.startTrip { r with
    number := s.trip.counter, revision := 0, set := s.keySet, pending := false
    derated := s.derates }).startRelease .releasing

/-- The ready check is judged (R122). -/
def State.judgeReady (s : State) : State :=
  match firstFailing (s.readyConditions (!s.trip.resumption)) with
  | some r =>
      let s1 := (s.setReason r).bump .readyCheckFailures
      if s.trip.resumption then s1.standHolding else s1.returnToStop
  | none =>
      if s.trip.resumption then
        match s.trip.trip with
        | some r => s.resume r
        | none => s.standHolding
      else s.depart

/-! ## The setpoint (R126, R127, R129) -/

/-- The setpoint set of a trip (R13). -/
def TripRecord.setpointSet (r : TripRecord) : Nat := if r.set = 1 ∨ r.pending then 1 else 0

/-- A value of the setpoint set, derated where the trip is (R123). -/
def State.derate (s : State) (r : TripRecord) (x : Nat) : Nat :=
  if r.derated then x * s.k .derate / 1000 else x

/-- The cruise of a trip (R123, R131). -/
def State.tripCruise (s : State) (r : TripRecord) : Nat :=
  if r.recovery then s.k .recoverySpeed
  else s.derate r (s.conf.setConstants r.setpointSet).cruise

/-- d_stop: the distance to the target, negative once h has passed it (R126). -/
def State.dStop (s : State) (target : Nat) : Direction → Int
  | .up => (s.hStop target : Int) - s.meas.h
  | .down => (s.meas.h : Int) - s.hStop target

/-- The cap v_cap of a trip (R126); without a target, the terms of R131. -/
def State.speedCap (s : State) (r : TripRecord) : Nat :=
  let set := r.setpointSet
  let service := (s.conf.setConstants set).service
  match r.target with
  | none => min (s.tripCruise r) (lineMinimum s.prof.merged set)
  | some target =>
      let d := s.dStop target r.direction
      if d ≤ s.k .creepDistance then s.k .vCreep
      else
        min (min (s.tripCruise r)
            (curve (s.k .vCreep) service (d - s.k .creepDistance).toNat))
          (leastCurve ((segmentAt s.prof.merged s.meas.h).limit set) service s.meas.h s.meas.u
            (segmentPoints s.prof.merged set s.meas.h r.direction))

/-- v_perm of the latest sample, in µm/s. -/
def State.permitted (s : State) : Nat :=
  match s.sup.result with
  | some r => r.vPerm * 1000
  | none => 0

/-- A setpoint magnitude with the sign of the trip's direction. -/
def signedSetpoint (d : Direction) (magnitude : Nat) : Int :=
  match d with
  | .up => magnitude
  | .down => -magnitude

/-- The new held setpoint magnitude of a sample in RUNNING or RECOVERY (R126). -/
def State.runSetpoint (s : State) (r : TripRecord) : Nat :=
  let cap := s.speedCap r * 1000
  let previous := s.trip.setpoint.natAbs
  let accel := s.derate r (s.conf.setConstants r.setpointSet).accel
  min (if s.sup.warning then min cap previous else min cap (previous + accel * s.conf.samplePeriod))
    s.permitted

/-- Some berth that the stop names answers FRESH with presence. -/
def State.presenceAt (s : State) (k : Nat) : Bool :=
  match s.conf.stop? k with
  | some st => (stopBerths st).any s.berthPresence
  | none => false

/-- Whether the run ends with entry to STOPPING, the setpoint having been formed (R127, R131). -/
def State.runEnds (s : State) (r : TripRecord) : Bool :=
  match r.target with
  | none => !s.matchingStops.isEmpty
  | some target =>
      let d := s.dStop target r.direction
      decide (d ≤ s.k .stopTolerance) ||
        (decide (d ≤ s.k .creepDistance) && s.presenceAt target) || s.trip.setpoint == 0

/-- One sample in RUNNING, or in RECOVERY after torque proof (R126, R127). -/
def State.runSample (s : State) : State :=
  match s.trip.trip with
  | some r =>
      let s1 := s.setTrip ({ · with setpoint := signedSetpoint r.direction (s.runSetpoint r) })
      if s1.runEnds r then s1.setTrip ({ · with haulage := .stopping, setpoint := 0 }) else s1
  | none => s.setTrip ({ · with setpoint := 0 })

/-- The stop at which a recovery trip without a target synchronises: the matching stop furthest in its
direction (R131). -/
def State.furthestMatch (s : State) : Direction → Option Nat
  | .up => s.matchingStops.getLast?
  | .down => s.matchingStops.head?

/-- The held direction after an arrival (R129). -/
def State.arrivalDirection (s : State) (k : Nat) (d : Direction) : Direction :=
  if k = s.conf.lastStop then .down else if k = 0 then .up else d

/-- Arrival at a stop at the completion of STOPPING (R129). -/
def State.arrive (k : Nat) (d : Direction) (s : State) : State :=
  (s.endTrip.setTrip ({ · with heldDir := s.arrivalDirection k d })).arriveAt k

/-- STOPPING completes (R129, R131). -/
def State.completeStop (s : State) : State :=
  let s1 := s.setTrip ({ · with askService := false, askEnable := false })
  match s.trip.trip with
  | some r =>
      match r.target with
      | some target =>
          if s.dStop target r.direction ≤ s.k .creepDistance ∨ s.presenceAt target = true then
            s1.arrive target r.direction
          else (s1.endTrip.setReason .stopShort).setHaulage .stranded
      | none =>
          match s.furthestMatch r.direction with
          | some k => s1.arrive k r.direction
          | none =>
              (s1.endTrip.setReason .syncLost).setTrip
                ({ · with haulage := .unsynced, resetSeen := false })
  | none => s1.setHaulage .stranded

/-- One sample in HOLDING (R127). -/
def State.holdSample (s : State) : State :=
  if s.meas.standstill then s.standHolding
  else
    match s.trip.trip with
    | some r =>
        let brake := (s.conf.setConstants r.setpointSet).service * s.conf.samplePeriod
        s.setTrip ({ · with
          setpoint := signedSetpoint r.direction
            (min (s.trip.setpoint.natAbs - brake) s.permitted) })
    | none => s.setTrip ({ · with setpoint := 0 })

/-- Berth synchronisation is judged in UNSYNCED (R119). -/
def State.judgeSync (s : State) : State :=
  if s.meas.standstill && s.trip.resetSeen && decide (s.brake.effective ≤ 1) then
    match s.matchingStops with
    | [] => s
    | [k] => s.arriveAt k
    | _ => s.setReason .syncAmbiguous
  else s

/-- The setpoint of the sample, in mm/s, rounded toward zero (section 7.6). -/
def State.setpointSpeed (s : State) : Int := s.trip.setpoint.tdiv 1000

/-- The analog code of a setpoint (R129). -/
def analogCode (setpoint : Int) (fullScale : Nat) : Int :=
  max (-32767) (min 32767 ((setpoint * 32767).tdiv fullScale))

/-- What the trip controller does in its state at a sample event, the receive buffer having been applied
where R122 asks for it. -/
def State.haulageSample (s : State) : State :=
  match s.trip.haulage with
  | .unsynced => s.judgeSync
  | .doorClosing => s.judgeClosing
  | .readyCheck => s.judgeReady
  | .running => s.runSample
  | .recovery => if s.trip.torqueProved then s.runSample else s
  | .stopping => if s.meas.standstill then s.completeStop else s
  | .holding => s.holdSample
  | _ => s

/-- The trip whose latest notice has been reported not sent, and is owed at the next sample event (R14,
R124). -/
def State.owedNotice (s : State) : Option TripRecord :=
  if s.trip.requeue then s.trip.trip else none

/-- The notice owed when the sample event came is queued again, unless a later revision has been queued
within the sample (R14, R124). -/
def State.requeueNotice (owed : Option TripRecord) (s : State) : State :=
  if owed.isSome && s.trip.trip == owed then s.queueNotice else s

/-- The setpoint of the state is 0 in Table 7-2. -/
def TripController.rests (t : TripController) : Bool :=
  match t.haulage with
  | .running | .holding => false
  | .recovery => !t.torqueProved
  | _ => true

/-- In states whose entry in Table 7-2 is 0 the setpoint is 0 (R129). -/
def State.restSetpoint (s : State) : State :=
  if s.trip.rests then s.setTrip ({ · with setpoint := 0 }) else s

/-- The setpoint of the sample is kept, and its analog code is set (R129, R134). -/
def State.setAnalogCode (s : State) : State :=
  let s1 := s.setTrip ({ · with latestSetpoint := s.setpointSpeed })
  { s1 with term := { s1.term with setCode := analogCode s.setpointSpeed (s.k .fullScale) } }

/-! ## The level and the brake reset (R127, R128, R130) -/

/-- TRIPPED is entered (R128). The current stop is that of AT_STOP, DOOR_CLOSING and READY_CHECK alone
(R117). -/
def State.enterTripped (s : State) : State :=
  s.setTrip ({ · with
    haulage := .tripped, askEnable := false, askService := false, setpoint := 0, dwellDue := none
    doorCloseDue := none, retryDue := none, torqueDue := none, currentStop := none })

/-- The trip controller is told that the effective level has risen to a level (R125, R127, R128,
R132). At level 1 an unproved start stops its torque proof timer (notes/assumptions/37.md). -/
def State.tripRise (level : Nat) (s : State) : State :=
  if 2 ≤ level then
    match s.trip.haulage with
    | .unsynced | .parked | .tripped => s
    | _ => s.enterTripped
  else
    match s.trip.haulage with
    | .running => s.setHaulage .holding
    | .recovery =>
        if s.trip.torqueProved then s.setHaulage .holding
        else (s.setTrip ({ · with torqueDue := none })).standHolding
    | .releasing => (s.setTrip ({ · with torqueDue := none })).standHolding
    | _ => s

/-- The matching stop within whose window h lies (R130). -/
def State.stopHere (s : State) : Option Nat :=
  s.conf.nearestOf s.meas.h (s.matchingStops.filter (fun k =>
    match s.conf.stop? k with
    | some st => s.conf.inStopWindow st s.meas.h
    | none => false))

/-- The trip controller is told of an accepted brake reset: Table of R130, where STRANDED and UNSYNCED ask
for nothing and hold a setpoint of 0 (Table 7-2); the last evacuation replies are cleared (R133). -/
def State.tripReset (s0 : State) : State :=
  let s := s0.setTrip ({ · with replyA := none, replyB := none })
  match s.trip.haulage with
  | .tripped =>
      if s.meas.known then
        match s.stopHere with
        | some k => s.clearTrip.arriveAt k
        | none => s.clearTrip.setHaulage .stranded
      else s.clearTrip.setTrip ({ · with haulage := .unsynced, resetSeen := true })
  | .holding =>
      match s.trip.trip with
      | some r =>
          if r.recovery then
            let s1 := s.standHolding.clearTrip
            if s.meas.known then s1.setHaulage .stranded
            else s1.setTrip ({ · with haulage := .unsynced, resetSeen := true })
          else s
      | none => s
  | .unsynced => s.setTrip ({ · with resetSeen := true })
  | .parked =>
      if s.parkKey then s else (s.setHaulage .atStop).startDwell
  | _ => s

/-! ## Keys (R118 to R120, R127, R131 to R133, R14) -/

/-- The dispatch key has become active (R118, R120, R127). -/
def State.dispatchKey (s : State) : State :=
  match s.trip.haulage with
  | .atStop =>
      if !s.modeAuto && s.trip.dwellExpired then s.enterDoorClosing else s.bump .ignoredDispatch
  | .holding =>
      match s.trip.trip with
      | some r =>
          if s.meas.standstill && !r.recovery then
            s.setTrip ({ · with
              haulage := .readyCheck, resumption := true, setpoint := 0, askService := false
              askEnable := false })
          else s.bump .ignoredDispatch
      | none => s.bump .ignoredDispatch
  | _ => s.bump .ignoredDispatch

/-- The mode key has changed (R120). -/
def State.modeKey (s : State) : State :=
  if s.modeAuto then
    if s.trip.haulage == .atStop && s.trip.dwellExpired then s.enterDoorClosing else s
  else s.setTrip ({ · with retryDue := none })

/-- The reduced-speed key has become active (R14). -/
def State.reducedSpeedKey (s : State) : State :=
  match s.trip.trip with
  | some r =>
      if r.set = 0 ∧ r.pending = false then
        (s.setTrip ({ · with
          trip := some { r with pending := true, revision := (r.revision + 1) % 16 } })).queueNotice
      else s
  | none => s

/-- Set 1 is declared in force (R14). -/
def State.declareSet1 (s : State) : State :=
  match s.trip.trip with
  | some r =>
      (s.setTrip ({ · with
        trip := some { r with
          set := 1, pending := false, revision := (r.revision + 1) % 16 } })).queueNotice
  | none => s

/-- What fails of the recovery key's requirements: standstill, then conditions 1, 2, 3, 5 and 6 of R122
(R119, R131). -/
def State.recoveryFailure (s : State) : Option Reason :=
  firstFailing ((s.meas.standstill, .notStandstill) :: s.readyConditions false)

/-- A recovery trip starts (R131). -/
def State.startRecovery (d : Direction) (target : Option Nat) (s : State) : State :=
  let s1 := s.startTrip
    { number := s.trip.counter, revision := 0, set := 1, pending := false, fromStop := none
      target := target, direction := d
      hEnd := match target, d with
        | some k, d => s.endFor k d
        | none, .up => s.conf.lineLength
        | none, .down => 0
      derated := false, recovery := true }
  (s1.setTrip ({ · with
    heldDir := d, currentStop := none, resumption := false })).startRelease .recovery

/-- The recovery key is refused with a reason (R119, R131). -/
def State.refuseRecovery (r : Reason) (s : State) : State :=
  (s.setReason r).bump .recoveryRefusals

/-- Of the matching stops, the one from which a direction leads away (R119). -/
def State.syncChoice (s : State) : Direction → Option Nat
  | .up => s.matchingStops.head?
  | .down => s.matchingStops.getLast?

/-- The recovery key has become active (R118, R119, R131). -/
def State.recoveryKey (s : State) : State :=
  match s.directionSelector with
  | none => s.bump .ignoredRecovery
  | some d =>
      match s.trip.haulage with
      | .unsynced =>
          match s.recoveryFailure with
          | some r => s.refuseRecovery r
          | none =>
              match s.syncChoice d with
              | some k => (s.setTrip ({ · with heldDir := d })).arriveAt k
              | none => s.startRecovery d none
      | .stranded =>
          match s.recoveryFailure with
          | some r => s.refuseRecovery r
          | none =>
              match s.conf.nextStopFrom s.meas.h d with
              | some k => s.startRecovery d (some k)
              | none => s.refuseRecovery .noTarget
      | _ => s.bump .ignoredRecovery

/-- The evacuation key has become active (R118, R133). -/
def State.evacuationKey (s : State) : State :=
  match s.carSelector, s.sideSelector with
  | some car, some side =>
      match s.trip.haulage with
      | .tripped | .stranded => s.enqueue (.evacuationOrder car side)
      | _ => s.bump .ignoredEvacuation
  | _, _ => s.bump .ignoredEvacuation

/-- The park key has become active (R118, R132). -/
def State.parkKeyOn (s : State) : State :=
  match s.trip.haulage with
  | .atStop =>
      s.setTrip ({ · with
        haulage := .parked, askEnable := false, askService := false, dwellDue := none
        retryDue := none })
  | _ => s.bump .ignoredPark

/-- An EVACUATION REPLY is delivered (R133). -/
def State.recordReply (car : CarId) (side : DoorSide) (result : EvacResult) (s : State) : State :=
  let r : EvacReplyRecord := { side := side, result := result, time := s.unitTime }
  match car with
  | .a => s.setTrip ({ · with replyA := some r })
  | .b => s.setTrip ({ · with replyB := some r })

end Sys2Proof.Machine
end

