-- ==== Sys2Proof/Machine/Brake.lean ====
section
/-! DEFINITION. The brake block (Chapter 6): raising, orders, the effective level and who is told of it,
brake proof, brake reset, and the brake record list. -/

namespace Sys2Proof.Machine

open Sys2Proof

def State.setBrake (f : Brake → Brake) (s : State) : State := { s with brake := f s.brake }

/-! ## Brake records (R113, R114) -/

/-- The brake record list holds up to 16 records. -/
def recordCapacity : Nat := 16

/-- The trip number of a brake record. -/
def State.recordTrip (s : State) : Option Nat :=
  match s.role with
  | .drive => s.trip.trip.map (·.number)
  | .car => s.prof.carTrip.map (·.number)
  | _ => none

/-- A brake record joins at the head; of more than 16, the oldest leaves. -/
def State.writeRecord (cause : Cause) (level : Nat) (s : State) : State :=
  let r : BrakeRecord :=
    { cause := cause, level := level, h := s.reportedH
      v := if s.supervises then s.meas.v else 0
      trip := s.recordTrip, time := s.unitTime }
  s.setBrake (fun b => { b with records := (r :: b.records).take recordCapacity })

/-! ## Brake proof (R106, R107) -/

/-- A proof starts, in place of one in progress. -/
def State.startProof (level speed : Nat) (s : State) : State :=
  s.setBrake ({ · with
    proof := some { level := level, speed := speed, due := s.after (s.k .proofTime) } })

/-- The proof that a rise of the effective level starts (R106). -/
def proofLevel (role : Role) (before after : Nat) : Option Nat :=
  match role with
  | .drive =>
      if before = 0 ∧ after = 1 then some 1
      else if before ≤ 1 ∧ 2 ≤ after then some 2
      else none
  | .car => if before ≤ 2 ∧ after = 3 then some 3 else none
  | _ => none

/-- A proof requested with DRIVE_SILENT starts while none is in progress (R94, R106). -/
def State.requestProof (s : State) : State :=
  if s.brake.proof.isSome then s else s.startProof 1 s.absV

/-! ## The effective level (R105) -/

/-- The level that the demands and the received-level table give. -/
def State.formedLevel (s : State) : Nat := max s.highestOwn s.highestHeard

/-- The proof that a change of the effective level starts (R105, step 2). -/
def State.proofAtChange (before : Nat) (s : State) : State :=
  match proofLevel s.role before s.brake.effective with
  | some l => s.startProof l s.absV
  | none => s

/-- The trip controller, the door block or the gate block is told the new level (R105, step 3). -/
def State.tellLevel (before : Nat) (s : State) : State :=
  match s.role with
  | .drive => if before < s.brake.effective then s.tripRise s.brake.effective else s
  | .car => if s.brake.effective < 2 then s.endEvacuation else s
  | .gate => s.gateLevel
  | .berth => s

/-- What follows a change of the effective level (R105, steps 2, 3 and 5). The outputs and the level-1
indicator follow the level at the end of the step. In CONFIG_FAULT the blocks do not act. -/
def State.levelChanged (before : Nat) (s : State) : State :=
  if s.running then ((s.proofAtChange before).tellLevel before).queueAllStates else s

/-- The effective level is formed anew (R105). -/
def State.reform (s : State) : State :=
  let level := s.formedLevel
  if level = s.brake.effective then s
  else (s.setBrake ({ · with effective := level })).levelChanged s.brake.effective

/-! ## Raising (R100, R103) -/

/-- Whether a cause comes before another as the cause of an order: greater level, or equal level and
lower code. -/
def causeBefore (a b : Cause × Nat) : Bool :=
  decide (b.2 < a.2 ∨ (b.2 = a.2 ∧ causeCode a.1 < causeCode b.1))

/-- Of the causes given with their levels, the one that an order carries. -/
def orderCause (l : List (Cause × Nat)) : Option (Cause × Nat) :=
  l.foldl (fun best x =>
    match best with
    | none => some x
    | some b => if causeBefore x b then some x else some b) none

/-- A BRAKE ORDER is queued (R103). -/
def State.queueOrder (level : Nat) (cause : Cause) (s : State) : State :=
  s.enqueue (.brakeOrder level cause s.reportedH (s.brake.held.getD 0))

/-- Whether the demands raised since it was last judged make a rise of the highest own demand is judged,
with what a rise does (R100). -/
def State.judgeRise (s : State) : State :=
  let highest := s.highestOwn
  let s1 := s.setBrake ({ · with judged := highest, raised := [] })
  if s.brake.judged < highest then
    match orderCause s.brake.raised with
    | some (cause, _) => ((s1.queueOrder highest cause).writeRecord cause highest).reform
    | none => s1.reform
  else s1

/-- A demand raised outside a sample event, and judged at once (R100). -/
def State.raise (c : Cause) (level : Nat) (s : State) : State := (s.latch c level).judgeRise

/-- START is raised at level 2 (R101). -/
def State.raiseStart (s : State) : State := s.raise .start 2

/-! ## Received levels (R104) -/

def State.levelRow (s : State) (addr : Nat) : LevelRow := s.brake.rows.getD addr LevelRow.zero

/-- A BRAKE ORDER is passed to the brake block. -/
def State.takeOrder (addr level : Nat) (cause : Cause) (h : Option Nat) (number : Nat) (s : State) :
    State :=
  let s1 := match s.brake.held with
    | some n => if n = number then s else s.bump .lateOrders
    | none => s
  (s1.setBrake (fun b => { b with
    rows := b.rows.modify addr (fun r =>
      if r.order < level then
        { r with order := level, cause := some cause, h := h, number := number } else r) })).reform

/-- The effective level of a STATE common part is passed to the brake block. -/
def State.takeAnnounced (addr level : Nat) (s : State) : State :=
  (s.setBrake (fun b => { b with
    rows := b.rows.modify addr (fun r => { r with announced := max r.announced level }) })).reform

/-! ## Brake reset (R108, R110 to R112) -/

/-- Latched demands whose cause is not present are released (R111, steps 3 and 4). -/
def State.releaseAbsent (s : State) : State :=
  let s1 := s.syncPresence
  s1.setBrake (fun b => { b with
    demands := b.demands.map (fun d => if d.present then d else { d with level := 0 }) })

/-- The latched demands, with their causes. -/
def State.latchedCauses (s : State) : List (Cause × Nat) :=
  (demandCauses.zip (s.brake.demands.map (·.level))).filter (fun e => !(e.2 == 0))

/-- The first row of R90 applies: the DRIVE is FRESH and shows the trip whose notice is stored. -/
def State.noticeMatches (s : State) : Bool :=
  match s.driveTrip, s.prof.notice with
  | some t, some n => t.number == n.number
  | _, _ => false

/-- The supervision block is told of an accepted reset (R89, R90). A CAR judges the first row of R90 at the
acceptance (notes/assumptions/69.md). -/
def State.authorityReset (s : State) : State :=
  let ends := match s.role with
    | .drive => s.trip.trip.isNone
    | .car => !s.noticeMatches
    | _ => true
  if ends then { s with sup := { s.sup with authority := none } } else s

/-- The trip controller, the supervision block and the door block are told of an accepted reset (R111,
step 7). A level of 2 or more that a kept demand leaves enters TRIPPED again (R130). -/
def State.tellReset (s : State) : State :=
  match s.role with
  | .drive =>
      let s1 := s.tripReset
      (if 2 ≤ s1.brake.effective then s1.tripRise s1.brake.effective else s1).authorityReset
  | .car => s.authorityReset.endEvacuation
  | _ => s

/-- The re-order of a reset that has kept demands (R112). -/
def State.reOrder (s : State) : State :=
  match orderCause s.latchedCauses with
  | some (cause, level) => s.queueOrder level cause
  | none => s

/-- A BRAKE RESET is accepted (R111). -/
def State.acceptReset (number : Nat) (s : State) : State :=
  let s1 := (s.setBrake ({ · with
    held := some number, rows := List.replicate 32 LevelRow.zero })).releaseAbsent
  let s2 := s1.setBrake (fun b => { b with proof := none, judged := min b.judged s1.highestOwn })
  s2.reform.tellReset.reOrder

/-- A BRAKE RESET is judged (R110). -/
def State.judgeReset (number : Nat) (s : State) : State :=
  if s.brake.held = some number then s.bump .repeatedResets
  else if s.meas.standstill then s.acceptReset number
  else s.bump .resetsWhileMoving

/-- The held reset number becomes none (R110). -/
def State.clearHeld (s : State) : State := s.setBrake ({ · with held := none })

/-- A BRAKE RESET of this DRIVE is in the transmit queue. -/
def State.resetQueued (s : State) : Bool :=
  s.bus.queue.any (fun f => f.payload.kind == .brakeReset)

/-- The brake reset key of the DRIVE has become active (R108). -/
def State.resetKey (s : State) : State :=
  if s.operating && s.meas.standstill && s.carStanding .a && s.carStanding .b && !s.resetQueued then
    let number := (s.brake.issue + 1) % 256
    (s.setBrake ({ · with issue := number })).enqueue (.brakeReset number)
  else s.bump .resetKeyRefusals

/-! ## Judging a proof (R107) -/

/-- Whether a proof passes at the speed of the latest sample record. -/
def State.proofPasses (s : State) (p : BrakeProof) : Bool :=
  decide (s.absV < 20 ∨ s.absV + s.k .proofDecrement ≤ p.speed)

/-- The effect of a failed proof. -/
def State.proofFailed (p : BrakeProof) (s : State) : State :=
  let s1 := s.bump .proofFailures
  match s.role, p.level with
  | .drive, 1 => s1.raise .brakeProof 2
  | .drive, _ => s1.raise .brakeProof 3
  | _, 3 => (s1.writeRecord .trackBrakeFault 3).bump .trackBrakeFaults
  | _, _ => s1.raise .brakeProof 3

/-- The brake proof timer has expired: the proof is judged and ends. -/
def State.judgeProof (p : BrakeProof) (s : State) : State :=
  let s1 := s.setBrake ({ · with proof := none })
  if s.proofPasses p then s1 else s1.proofFailed p

end Sys2Proof.Machine
end

