-- ==== Sys2Proof/Machine/Grant.lean ====
section
/-! DEFINITION. The grant table of a BERTH (R137, R142 to R144, R149). -/

namespace Sys2Proof.Machine

open Sys2Proof

def State.setGrant (f : GrantTable → GrantTable) (s : State) : State :=
  { s with grant := f s.grant }

/-- The berth of this unit. -/
def State.berthConfig (s : State) : Berth := (s.conf.berth? s.conf.ownBerth).getD default

/-- The grant conditions for a car (R142). -/
def State.grantConditions (s : State) (c : CarId) : Bool :=
  s.presenceInput && s.platformGatesClosed && s.carStanding c

/-- The record returns to NONE, its other fields void (R137). -/
def State.dropRecord (s : State) : State :=
  s.setGrant (fun g => { GrantTable.reset with counter := g.counter })

/-- The stop in hand names this berth for a car (Table 8-3). -/
def State.namesOwnBerth (s : State) (c : CarId) : Bool :=
  match s.stopInHand.bind s.conf.stop? with
  | some st => stopBerthOf st c == some s.conf.ownBerth
  | none => false

/-- The first of the refusal tests 1 to 3 that fails (R142). -/
def State.standingRefusal (s : State) (c : CarId) (side : DoorSide) : Option RefusalReason :=
  if s.stopInHand.isNone then some .notAtStop
  else if !s.namesOwnBerth c || !(side == s.berthConfig.side) then some .wrongBerth
  else if s.stopButton then some .stopButton
  else none

/-- The record is free for a new request of a car (R142, test 4). -/
def State.recordFree (s : State) (c : CarId) : Bool :=
  s.grant.state == .none ||
    (s.grant.car == c && (s.grant.state == .pending || s.grant.state == .ready))

/-- The first of the four refusal tests that fails (R142). -/
def State.requestRefusal (s : State) (c : CarId) (side : DoorSide) : Option RefusalReason :=
  match s.standingRefusal c side with
  | some r => some r
  | none => if s.recordFree c then none else some .berthBusy

/-- A RELEASE REFUSAL is answered. -/
def State.refuseRequest (c : CarId) (number : Nat) (r : RefusalReason) (s : State) : State :=
  (s.enqueue (.releaseRefusal s.conf.ownBerth c number r)).bump .refusalsSent

/-- The RELEASE GRANT of the record is queued. -/
def State.sendGrant (s : State) : State :=
  s.enqueue (.releaseGrant s.conf.ownBerth s.grant.car s.grant.side s.grant.number s.grant.grantId)

/-- The grant is issued (R142). -/
def State.issueGrant (s : State) : State :=
  ((s.setGrant (fun g => { g with
    counter := g.grantId, state := .granted, discardDue := none })).sendGrant).bump .grantsIssued

/-- The record waits, and the discard timer starts at the discard time (R142, R143). -/
def State.waitForGrant (s : State) : State :=
  s.setGrant ({ · with state := .pending, discardDue := some (s.after (s.k .discardTime)) })

/-- A new request is judged (R142). -/
def State.newRequest (c : CarId) (side : DoorSide) (number : Nat) (s : State) : State :=
  match s.requestRefusal c side with
  | some r => s.refuseRequest c number r
  | none =>
      let s1 := s.setGrant (fun g => { g with
        car := c, side := side, number := number, grantId := (g.counter + 1) % 256
        reason := none })
      if s1.grantConditions c then s1.issueGrant else s1.waitForGrant

/-- The RELEASE WITHDRAWAL of the record is queued. -/
def State.sendWithdrawal (reason : WithdrawReason) (s : State) : State :=
  s.enqueue (.releaseWithdrawal s.conf.ownBerth s.grant.car s.grant.grantId reason)

/-- GRANTED becomes WITHDRAWING with a reason (R149). -/
def State.startWithdrawing (reason : WithdrawReason) (s : State) : State :=
  s.setGrant ({ · with state := .withdrawing, reason := some reason })

/-- WITHDRAWING ends when the platform gates show closed-and-locked (R149). -/
def State.leaveWithdrawing (s : State) : State :=
  if s.grant.state == .withdrawing && s.platformGatesClosed then s.dropRecord else s

/-- A repeat of the record's request (R143, R144). -/
def State.repeatRequest (c : CarId) (side : DoorSide) (number : Nat) (s : State) : State :=
  match s.grant.state with
  | .granted => s.sendGrant
  | .withdrawing => s.sendWithdrawal (s.grant.reason.getD .superseded)
  | .pending =>
      match s.standingRefusal c side with
      | some r => s.dropRecord.refuseRequest c number r
      | none => s.waitForGrant
  | .ready =>
      match s.standingRefusal c side with
      | some r => s.dropRecord.refuseRequest c number r
      | none => if s.grantConditions c then s.issueGrant else s.waitForGrant
  | .none => s

/-- A RELEASE REQUEST is delivered (R142 to R144). -/
def State.takeRequest (c : CarId) (side : DoorSide) (number : Nat) (s : State) : State :=
  if !(s.grant.state == .none) && s.grant.car == c && s.grant.number == number then
    s.repeatRequest c side number
  else if s.grant.state == .granted && s.grant.car == c then
    (((s.startWithdrawing .superseded).sendWithdrawal .superseded).newRequest c side
      number).leaveWithdrawing
  else s.newRequest c side number

/-- A RELEASE WITHDRAWAL of a car is delivered (R149); one of the other car is ignored and counted as stale
(notes/assumptions/63.md). -/
def State.takeCarWithdrawal (c : CarId) (grantId : Nat) (reason : WithdrawReason) (s : State) :
    State :=
  if s.grant.state == .granted && s.grant.car == c && s.grant.grantId == grantId then
    (s.startWithdrawing reason).leaveWithdrawing
  else s.bump .staleWithdrawals

/-- The record loses its car: PRESENCE_LOST raises a demand, CAR_NOT_STANDING does not (R149). -/
def State.judgeGranted (s : State) : State :=
  if !s.presenceInput then
    (((((s.startWithdrawing .presenceLost).sendWithdrawal .presenceLost).bump
      .presenceLosses).raise .grantLostPresence 1)).leaveWithdrawing
  else if !s.carStanding s.grant.car then
    ((s.startWithdrawing .carNotStanding).sendWithdrawal .carNotStanding).leaveWithdrawing
  else s

/-- The record is judged at a change of the presence input, of the platform gate input or of the entry of
its car (R143, R149). -/
def State.judgeGrant (s : State) : State :=
  match s.grant.state with
  | .pending =>
      if s.grantConditions s.grant.car then s.setGrant ({ · with state := .ready }) else s
  | .ready =>
      if s.grantConditions s.grant.car then s else s.setGrant ({ · with state := .pending })
  | .granted => s.judgeGranted
  | .withdrawing => s.leaveWithdrawing
  | .none => s

/-- The discard timer has expired (R143). -/
def State.discardExpiry (s : State) : State :=
  match s.grant.state with
  | .pending | .ready => s.dropRecord.bump .discardExpiries
  | _ => s.setGrant ({ · with discardDue := none })

end Sys2Proof.Machine
end

