-- ==== Sys2Proof/Machine/Measurement.lean ====
section
/-! DEFINITION. The measurement block (Chapter 2): edges and marks as they arrive, the stages of a
sample, and REFERENCE RESTORE. Demands are latched here; the rise they make is judged by the caller
(R100). -/

namespace Sys2Proof.Machine

open Sys2Proof

def State.setMeas (f : Measurement → Measurement) (s : State) : State := { s with meas := f s.meas }

/-! ## Channels (R19, R20) -/

def otherChannel : ChannelId → ChannelId
  | .e0 => .e1
  | .e1 => .e0

def Measurement.channel (m : Measurement) : ChannelId → Channel
  | .e0 => m.e0
  | .e1 => m.e1

def Measurement.setChannel (m : Measurement) (ch : ChannelId) (f : Channel → Channel) : Measurement :=
  match ch with
  | .e0 => { m with e0 := f m.e0 }
  | .e1 => { m with e1 := f m.e1 }

def State.setChannel (ch : ChannelId) (f : Channel → Channel) (s : State) : State :=
  s.setMeas (fun m => m.setChannel ch f)

/-- The configured primary channel. -/
def UnitConfig.primary (c : UnitConfig) : ChannelId := if c.const .primary = 1 then .e1 else .e0

def State.countLength (s : State) : ChannelId → Nat
  | .e0 => s.k .countLength0
  | .e1 => s.k .countLength1

def State.senseInverted (s : State) : ChannelId → Bool
  | .e0 => s.conf.const .sense0 == 1
  | .e1 => s.conf.const .sense1 == 1

/-- The time without an edge that voids the interval and brings the speed to 0, in µs (R19, R20). -/
def edgeSilence : Nat := 500000

/-- An edge at a time, forward or backward, moves the accumulator by the count length; the interval is
valid at the second edge after it was void (R19). -/
def Channel.edge (c : Channel) (len : Nat) (forward : Bool) (now : Nat) : Channel :=
  { c with
    acc := if forward then c.acc + len else c.acc - len
    interval := match c.lastEdge with
      | some t => if c.edgeOpen && decide (now < t + edgeSilence) then some (now - t) else none
      | none => none
    lastEdge := some now, edgeOpen := true, forward := forward, edges := c.edges + 1 }

/-- An illegal transition: its time is recorded; the newest 16 decide R23. -/
def Channel.illegal (c : Channel) (now : Nat) : Channel :=
  { c with illegalTimes := (now :: c.illegalTimes).take 16 }

def illegalCount : ChannelId → Count
  | .e0 => .illegalE0
  | .e1 => .illegalE1

/-- What an edge moves the accumulator by: the count length, and 1 before an image has passed, when the
count lengths are not known (notes/assumptions/64.md). -/
def State.edgeLength (s : State) (ch : ChannelId) : Nat :=
  if s.cfg.isSome then s.countLength ch else 1

/-- The edges counted before the image passed take their count length and direction sense
(notes/assumptions/64.md). -/
def Channel.calibrate (c : Channel) (len : Nat) (inverted : Bool) : Channel :=
  { c with
    acc := if inverted then -(c.acc * len) else c.acc * len
    forward := c.forward != inverted }

/-- A quadrature transition (R19). -/
def State.transition (ch : ChannelId) (tr : QuadTransition) (s : State) : State :=
  let edge (forward : Bool) : State :=
    s.setChannel ch (fun c => c.edge (s.edgeLength ch) forward s.clock)
  match tr with
  | .normalOrder => edge (!s.senseInverted ch)
  | .reverseOrder => edge (s.senseInverted ch)
  | .bothChanged => (s.setChannel ch (fun c => c.illegal s.clock)).bump (illegalCount ch)

/-- The interval becomes void when 500 ms have passed without an edge (R19). -/
def Channel.voidInterval (c : Channel) (now : Nat) : Channel :=
  if ranFor c.lastEdge now 500 then { c with interval := none, edgeOpen := false } else c

/-- A magnitude with the sign of a direction. -/
def signed (forward : Bool) (magnitude : Nat) : Int := if forward then magnitude else -magnitude

/-- The speed by the interval formula (R20); at an interval of 0 µs a free value. -/
def intervalSpeed (len interval : Nat) (forward : Bool) : Int :=
  if interval = 0 then Config.zeroIntervalSpeed (signed forward len)
  else signed forward (len * 1000 / interval)

/-- The channel speed of the sample just ended (R20). -/
def Channel.sampleSpeed (c : Channel) (len period now : Nat) : Int :=
  saturateSpeed
    (match c.lastEdge with
     | none => 0
     | some t =>
         if t + edgeSilence ≤ now then 0
         else
           match c.interval with
           | some i =>
               if 4 ≤ c.edges then (c.acc - c.accAtSample).tdiv period
               else intervalSpeed len (max i (now - t)) c.forward
           | none => (c.acc - c.accAtSample).tdiv period)

/-- Stage 1: the channel speeds. -/
def State.sampleSpeeds (s : State) : State :=
  let one (ch : ChannelId) (c : Channel) : Channel :=
    { c with speed := c.sampleSpeed (s.countLength ch) s.conf.samplePeriod s.clock }
  s.setMeas (fun m => { m with e0 := one .e0 m.e0, e1 := one .e1 m.e1 })

/-! ## Loss criteria and loss (R23, R24) -/

/-- The zero timer runs while the channel's speed is 0 and the other's is 200 mm/s or more (R23). -/
def Channel.runZeroTimer (c : Channel) (other : Int) (now : Nat) : Channel :=
  { c with
    zeroSince :=
      if c.speed = 0 ∧ 200 ≤ other.natAbs then some (c.zeroSince.getD now) else none }

/-- The criterion "silent while moving" at a sample (R23). -/
def Channel.silentAt (c : Channel) (sample : Nat) : Bool := ranFor c.zeroSince sample 1000

/-- The criterion "illegal transitions" at a sample: 16 or more within the 1,000 ms that end there. -/
def Channel.illegalAt (c : Channel) (sample : Nat) : Bool :=
  decide (16 ≤ (c.illegalTimes.filter (fun t => decide (t ≤ sample ∧ sample ≤ t + 1000000))).length)

def Channel.faultAt (c : Channel) (sample : Nat) : Bool := c.silentAt sample || c.illegalAt sample

/-- The status that results with the channels in service given (R24). -/
def lossStatus (m : Measurement) : RefStatus :=
  if m.e0.inService && m.e1.inService then m.status
  else if m.e0.inService || m.e1.inService then .fallback
  else .none

/-- The reference after a loss: the channel in service; with none, the last reference (R24). -/
def lossReference (m : Measurement) : ChannelId :=
  if m.e0.inService && m.e1.inService then m.reference
  else if m.e0.inService then .e0
  else if m.e1.inService then .e1
  else m.reference

/-- The channels given as meeting a criterion are judged: fault times, loss, status, and REFERENCE_LOST
(R23, R24). -/
def State.judgeLoss (fault0 fault1 : Bool) (s : State) : State :=
  let m := s.meas
  let lost0 := m.e0.inService && fault0
  let lost1 := m.e1.inService && fault1
  let mark (fault : Bool) (c : Channel) : Channel :=
    if fault then { c with inService := false, lastFault := some s.unitTime } else c
  let m1 := { m with e0 := mark fault0 m.e0, e1 := mark fault1 m.e1 }
  let s1 := s.setMeas (fun _ => m1)
  if lost0 || lost1 then
    let s2 := s1.setMeas (fun m => { m with
      status := lossStatus m1, reference := lossReference m1
      disagreeSince := none, agreeSince := none })
    let s3 := if lost0 then s2.bump .channelLosses else s2
    let s4 := if lost1 then s3.bump .channelLosses else s3
    if s4.meas.status == .none && s4.supervises then s4.latch .referenceLost 2 else s4
  else s1

/-- Stage 2, the loss criteria of both channels. -/
def State.sampleLoss (s : State) : State :=
  let s1 := s.setMeas (fun m => { m with
    e0 := m.e0.runZeroTimer m.e1.speed s.clock, e1 := m.e1.runZeroTimer m.e0.speed s.clock })
  s1.judgeLoss (s1.meas.e0.faultAt s.clock) (s1.meas.e1.faultAt s.clock)

/-! ## Disagreement (R25) -/

/-- The two channel speeds differ by more than the tolerance. -/
def State.speedsDisagree (s : State) : Bool :=
  decide (s.k .disagreeTolerance < (s.meas.e0.speed - s.meas.e1.speed).natAbs)

/-- NORMAL becomes DISAGREE when the disagreement timer has run 500 ms at a sample. -/
def State.judgeDisagree (sample : Nat) (s : State) : State :=
  if s.meas.status == .normal && ranFor s.meas.disagreeSince sample 500 then
    (s.setMeas ({ · with status := .disagree })).latch .referenceDisagree 1
  else s

/-- DISAGREE becomes NORMAL when the agreement timer has run 500 ms at a sample. -/
def State.judgeAgree (sample : Nat) (s : State) : State :=
  if s.meas.status == .disagree && ranFor s.meas.agreeSince sample 500 then
    s.setMeas ({ · with status := .normal })
  else s

/-- Stage 2, the comparison of the channels. -/
def State.sampleDisagree (s : State) : State :=
  if s.supervises && s.meas.e0.inService && s.meas.e1.inService then
    ((s.setMeas (fun m => { m with
      disagreeSince := if s.speedsDisagree then some (m.disagreeSince.getD s.clock) else none
      agreeSince := if s.speedsDisagree then none else some (m.agreeSince.getD s.clock) }))
      |>.judgeDisagree s.clock).judgeAgree s.clock
  else s

/-! ## Position and uncertainty (R28, R29) -/

/-- The change of a channel's accumulator since the last sample event, in µm. -/
def Channel.travel (c : Channel) : Int := c.acc - c.accAtSample

/-- Stage 3: the accumulator moves by the travel of the channel that was the reference in the sample, u
grows with it while the position is known, and both channels start a new sample. -/
def State.samplePosition (reference : ChannelId) (s : State) : State :=
  let travel := (s.meas.channel reference).travel
  let acc := s.meas.acc + travel
  let grown := s.meas.residue + travel.natAbs * s.k .drift
  let next (c : Channel) : Channel := { c with accAtSample := c.acc, edges := 0 }
  s.setMeas (fun m => { m with
    acc := acc
    h := s.conf.clampPosition (s.conf.rawHaul acc)
    u := if m.known then min 65535 (m.u + grown / 1000000) else m.u
    residue := if m.known then grown % 1000000 else m.residue
    e0 := next m.e0, e1 := next m.e1 })

/-! ## Published speed and standstill (R26, R22) -/

/-- Of two channel speeds the one of larger magnitude; of equal magnitudes the reference's. -/
def largerSpeed (reference other : Int) : Int :=
  if reference.natAbs < other.natAbs then other else reference

/-- The larger magnitude with the sign of the reference's speed (R25). A reference speed of 0 has no
sign: with a positive monitor the speed is positive as in Table 2-4, with a negative one its sign is a
free value. -/
def withReferenceSign (reference other : Int) : Int :=
  let magnitude : Int := (largerSpeed reference other).natAbs
  if reference < 0 then -magnitude
  else if 0 < reference then magnitude
  else if 0 ≤ other then magnitude
  else if Config.zeroPrimaryNegative other then -magnitude else magnitude

/-- The speed in the unit's own coordinate, by reference status (Table 2-3). -/
def Measurement.ownSpeed (m : Measurement) : Int :=
  let reference := (m.channel m.reference).speed
  let other := (m.channel (otherChannel m.reference)).speed
  match m.status with
  | .normal | .fallback => reference
  | .disagree => withReferenceSign reference other
  | .none => largerSpeed reference other

/-- The published speed: haul-position sense, saturated (R26). -/
def State.publishedSpeed (s : State) : Int :=
  saturateSpeed
    (match s.conf.identity with
     | .car .b => -s.meas.ownSpeed
     | _ => s.meas.ownSpeed)

/-- The standstill flag becomes true when the timer has run 500 ms at a sample (R22). The door context
keeps the time at which it did (R136). -/
def State.judgeStandstill (sample : Nat) (s : State) : State :=
  if ranFor s.meas.slowSince sample 500 && !s.meas.standstill then
    (s.setMeas ({ · with standstill := true })).setDoor
      ({ · with standstillTime := some s.unitTime })
  else s

/-- Stage 4: published speed and standstill. -/
def State.sampleStandstill (s : State) : State :=
  let v := s.publishedSpeed
  if v.natAbs < 20 then
    (s.setMeas (fun m => { m with
      v := v, slowSince := some (m.slowSince.getD s.clock) })).judgeStandstill s.clock
  else s.setMeas ({ · with v := v, slowSince := none, standstill := false })

/-! ## Marks (R30, R31) -/

/-- Whether the present direction of travel is up-travel: the sign of v, or where v is 0 the sign last
remembered; with none, up-travel (notes/assumptions/21.md). -/
def Measurement.travelsUp (m : Measurement) : Bool :=
  if 0 < m.v then true else if m.v < 0 then false else m.lastSign.getD true

/-- Whether the present direction of own track travel is rising. -/
def State.ownTravelUp (s : State) : Bool :=
  match s.conf.car with
  | .a => s.meas.travelsUp
  | .b => !s.meas.travelsUp

/-- The expected mark becomes the first candidate ahead of a track position (R31). -/
def State.expectFrom (p : Int) (s : State) : State :=
  s.setMeas ({ · with
    expected := firstAhead (s.conf.candidates s.conf.car) p s.ownTravelUp
    expectedUp := s.ownTravelUp })

/-- The capture window in use: the configured one or u, whichever is larger (R30). -/
def State.captureWindow (s : State) : Nat := max (s.k .captureWindow) s.meas.u

/-- The edge-time estimate of the track position, in mm (R30). -/
def State.edgeEstimate (s : State) : Int :=
  (s.meas.acc + (s.meas.channel s.meas.reference).travel).tdiv 1000

/-- The edge matches a mark: the track position at the edge becomes the mark's, and the counts since the
last sample event are allowed for (R30). -/
def State.matchMark (m : Mark) (s : State) : State :=
  let acc : Int := (m.position : Int) * 1000
  let s1 := s.setPosition acc (s.conf.rawHaul acc) (s.k .markTolerance)
  let s2 := s1.setMeas (fun x => { x with
    acc := acc - (x.channel x.reference).travel, misses := 0 })
  s2.expectFrom m.position

/-- A leading edge of the mark detector of a CAR (R30). -/
def State.markEdge (s : State) : State :=
  if s.meas.known then
    match nearestMark (s.conf.candidates s.conf.car) s.edgeEstimate with
    | some (_, m) =>
        if ((m.position : Int) - s.edgeEstimate).natAbs ≤ s.captureWindow then s.matchMark m
        else s.bump .unexpectedMarks
    | none => s.bump .unexpectedMarks
  else s.bump .unexpectedMarks

/-- The sign of v differs from the one remembered; with none remembered, at |v| of 20 mm/s or more (R31,
R38). A v of 0 has no sign. -/
def Measurement.signDiffers (m : Measurement) : Bool :=
  match m.lastSign with
  | some up => decide (m.v ≠ 0) && !(decide (0 < m.v) == up)
  | none => decide (20 ≤ m.v.natAbs)

/-- The car's track position lies beyond the expected mark by more than the capture window (R31). -/
def State.beyondExpected (s : State) (m : Mark) : Bool :=
  if s.meas.expectedUp then decide (m.position + s.captureWindow < s.ownTrack)
  else decide (s.ownTrack + s.captureWindow < m.position)

/-- A missed mark (R31). -/
def State.missMark (i : Nat) (s : State) : State :=
  let s1 := (s.setMeas (fun m => { m with
    misses := m.misses + 1
    expected := nextMark (s.conf.candidates s.conf.car) i m.expectedUp })).bump .missedMarks
  if s1.meas.misses = 2 then s1.latch .missedMarks 1 else s1

/-- Missed marks of a sample (R31). -/
def State.sampleMarks (s : State) : State :=
  let s1 := if s.meas.signDiffers then s.expectFrom s.ownTrack else s
  match s1.meas.expected with
  | some i =>
      match (s1.conf.candidates s1.conf.car)[i]? with
      | some m => if s1.beyondExpected m then s1.missMark i else s1
      | none => s1
  | none => s1

/-- The sign of v at a sample with |v| of 20 mm/s or more is remembered (R31). -/
def State.rememberSign (s : State) : State :=
  s.setMeas (fun m =>
    if 20 ≤ m.v.natAbs then { m with lastSign := some (decide (0 < m.v)) } else m)

/-! ## Adoption (R33) -/

/-- The h and u of the MOTION from which a CAR may adopt; one of unknown h gives none
(notes/assumptions/67.md). -/
def State.adoptable (s : State) : Option (Nat × Nat) :=
  match s.driveMotion with
  | some m =>
      if m.synchronised && m.standstill then m.h.map (fun h => (h, m.u)) else none
  | none => none

/-- A CAR of unknown position at standstill adopts the DRIVE's (R33). -/
def State.sampleAdoption (s : State) : State :=
  if s.role == .car && !s.meas.known && s.meas.standstill then
    match s.adoptable with
    | some (h, u) =>
        let p : Nat := s.conf.mirror s.conf.car h
        let s1 := s.setPosition ((p : Int) * 1000) h (min 65535 (u + 500))
        s1.expectFrom p
    | none => s
  else s

/-! ## End of track and the uncertainty limit (R34, R29) -/

/-- END_OF_TRACK of a sample. -/
def State.sampleEndOfTrack (s : State) : State :=
  let outside := s.conf.offTrack (s.conf.rawHaul s.meas.acc)
  let s1 := s.setMeas ({ · with outside := outside })
  if outside && !s.meas.outside then s1.latch .endOfTrack 2 else s1

/-- POSITION_DEGRADED of a sample. -/
def State.sampleDegraded (s : State) : State :=
  let above := decide (s.k .uMax < s.meas.u)
  let s1 := s.setMeas ({ · with degraded := above })
  if above && !s.meas.degraded then s1.latch .positionDegraded 1 else s1

/-- Stage 5, at a known position of a DRIVE or CAR. -/
def State.sampleLimits (s : State) : State :=
  let s1 :=
    if s.meas.known && s.supervises then
      let s' := s.sampleEndOfTrack
      (if s'.role == .car then s'.sampleMarks else s').sampleDegraded
    else s
  s1.rememberSign

/-! ## Load (R35, R36) -/

/-- The load of a raw reading, in kg (R35). -/
def State.loadOf (s : State) (r : Int) : Nat :=
  let corrected := ((r + s.conf.const .loadOffset) * s.k .loadGain).tdiv 16384
  (min corrected.toNat 65535) * s.k .gramsPerCount / 1000

/-- A sample load joins the filter: of more than 8 the oldest leaves; 8 held give the published load
(R36). -/
def Measurement.weigh (m : Measurement) (first : Bool) (load : Nat) : Measurement :=
  let joined := (if first then [] else m.filter) ++ [load]
  let filter := joined.drop (joined.length - 8)
  if filter.length = 8 then
    { m with filter := filter, published := filter.sum / 8, established := true }
  else { m with filter := filter }

/-- Stage 6: the load sample of a CAR. `stood` is the standstill flag of the sample before. -/
def State.sampleLoad (stood : Bool) (reading : BitVec 16) (s : State) : State :=
  if s.role == .car && s.meas.standstill then
    s.setMeas (fun m => m.weigh (!stood) (s.loadOf reading.toInt))
  else s

/-! ## The sample of the measurement block (R21) -/

/-- The six stages, and the time of the sample. Adoption (R33) comes after the fourth, before the fifth
(notes/assumptions/54.md). -/
def State.sampleMeasurement (reading : BitVec 16) (s : State) : State :=
  (((s.sampleSpeeds.sampleLoss.sampleDisagree.samplePosition s.meas.reference).sampleStandstill
    |>.sampleAdoption).sampleLimits.sampleLoad s.meas.standstill reading).setMeas
    ({ · with lastSample := some s.clock })

/-! ## REFERENCE RESTORE (R27) -/

/-- A channel is clean: no fault time, or one 1,000 ms or more in the past (R23). -/
def State.channelClean (s : State) (c : Channel) : Bool :=
  match c.lastFault with
  | some t => decide (1000 ≤ s.elapsed t)
  | none => true

/-- The reference is restored. The primary then moves the position by its counts of the whole sample in
progress (notes/assumptions/55.md), and MOTION and STATUS show NORMAL at once
(notes/assumptions/66.md). -/
def State.restoreReference (s : State) : State :=
  let clean (c : Channel) : Channel :=
    { c with inService := true, zeroSince := none, lastFault := none }
  s.setMeas (fun m => { m with
    e0 := clean m.e0, e1 := clean m.e1, status := .normal, reference := s.conf.primary
    disagreeSince := none, agreeSince := none })

end Sys2Proof.Machine
end

