-- ==== Sys2Proof/Machine/PeerView.lean ====
section
/-! DEFINITION. The peer view (Chapter 4) with the sequence check of R56: taking a frame, freshness and
conflict, silence, delivery and notices. -/

namespace Sys2Proof.Machine

open Sys2Proof

def State.setEntry (addr : Nat) (f : PeerEntry → PeerEntry) (s : State) : State :=
  { s with peers := s.peers.modify addr f }

/-! ## The sequence check (R56) -/

/-- A CONTROL frame is a duplicate of the last one applied for its source and kind. -/
def State.duplicate (s : State) (f : Frame) : Bool :=
  match (s.entry f.source).controlSeq.getD (f.payload.kind.code - 1) none with
  | some (n, t) => n == f.seq && decide (s.elapsed t < 400)
  | none => false

/-- The sequence number of a STATE frame is neither the last received nor the next; with no last number held
there is no gap (notes/assumptions/56.md). -/
def sequenceGap (last : Option Nat) (seq : Nat) : Bool :=
  match last with
  | some n => !(seq == n) && !(seq == (n + 1) % 16)
  | none => false

/-- The sequence data take a STATE frame's number, and a gap is counted. -/
def State.passState (f : Frame) (s : State) : State :=
  let i := f.payload.kind.code - 9
  let s1 := s.setEntry f.source (fun e => { e with stateSeq := e.stateSeq.set i (some f.seq) })
  if sequenceGap ((s.entry f.source).stateSeq.getD i none) f.seq then s1.bump .sequenceGaps else s1

/-- The sequence data take a CONTROL frame's number with the unit time. -/
def State.passControl (f : Frame) (s : State) : State :=
  s.setEntry f.source (fun e => { e with
    controlSeq := e.controlSeq.set (f.payload.kind.code - 1) (some (f.seq, s.unitTime)) })

/-! ## Freshness (R62, R63, R65) -/

/-- Another entry, not LOST, holds an announcement. An UNKNOWN entry holds none. -/
def State.heldElsewhere (s : State) (addr : Nat) (a : Identity) : Bool :=
  s.peers.zipIdx.any (fun (e, i) =>
    !(i == addr) && e.announcement == some a && !(e.freshness == .lost)
      && !(e.freshness == .unknown))

/-- The announcement of an entry is in conflict (R65). -/
def State.inConflict (s : State) (addr : Nat) (a : Identity) : Bool :=
  a == s.conf.identity || s.heldElsewhere addr a

/-- The digest of an entry differs from the unit's own. -/
def State.mismatched (s : State) (e : PeerEntry) : Bool :=
  match e.digest with
  | some d => !(d == s.prof.digest)
  | none => false

/-- The freshness of an entry at a frame taken (R63). -/
def State.judgeFreshness (s : State) (addr : Nat) : Freshness :=
  let e := s.entry addr
  match e.announcement with
  | some a =>
      if s.inConflict addr a then .conflict else if s.mismatched e then .mismatched else .fresh
  | none => if s.mismatched e then .mismatched else .unknown

/-- Every other entry with the announcement of an entry in CONFLICT, and not LOST, is in CONFLICT with it
(R65). -/
def State.spreadConflict (addr : Nat) (s : State) : State :=
  match (s.entry addr).freshness, (s.entry addr).announcement with
  | .conflict, some a =>
      { s with peers := s.peers.map (fun e =>
          if e.announcement == some a && !(e.freshness == .lost) then { e with freshness := .conflict }
          else e) }
  | _, _ => s

/-- What an entry that leaves CONFLICT becomes (R65). -/
def State.afterConflict (s : State) (e : PeerEntry) : Freshness :=
  if s.mismatched e then .mismatched
  else if s.silence e < e.staleTime then .fresh
  else .stale

/-- Conflicts that have ended are left (R65). -/
def State.endConflicts (s : State) : State :=
  { s with peers := s.peers.zipIdx.map (fun (e, i) =>
      match e.freshness, e.announcement with
      | .conflict, some a =>
          if s.inConflict i a then e else { e with freshness := s.afterConflict e }
      | _, _ => e) }

/-- The number of entries that are in a freshness state now and were not before. -/
def entered (f : Freshness) (before after : List PeerEntry) : Nat :=
  ((before.zip after).filter (fun (a, b) => !(a.freshness == f) && b.freshness == f)).length

/-- A count increased by a number of events. -/
def State.bumps (c : Count) (n : Nat) (s : State) : State := (List.replicate n ()).foldl (fun t _ => t.bump c) s

/-- Entries that have entered MISMATCHED or CONFLICT since `before` are counted (R63, R65). -/
def State.countEntered (before : List PeerEntry) (s : State) : State :=
  (s.bumps .digestMismatches (entered .mismatched before s.peers)).bumps .roleConflicts
    (entered .conflict before s.peers)

/-- An entry after a judgement of its freshness, with its rejoins (R63). -/
def PeerEntry.become (e : PeerEntry) (f : Freshness) : PeerEntry :=
  { e with
    freshness := f
    rejoins := if e.freshness = .lost ∧ f = .fresh then satInc e.rejoins else e.rejoins }

/-- Steps 1 to 3 of taking a frame: age, announcement and digest, freshness (R62). -/
def State.renewEntry (f : Frame) (s : State) : State :=
  let s1 := s.setEntry f.source (fun e =>
    match f.payload.common with
    | some c => { e with
        age := some s.unitTime, announcement := some c.identity, digest := some c.digest }
    | none => { e with age := some s.unitTime })
  ((((s1.setEntry f.source (fun e => e.become (s1.judgeFreshness f.source))).spreadConflict
    f.source).endConflicts).countEntered s.peers)

/-! ## Records and brake information (R69, R70) -/

/-- The record of a frame is stored in an entry. -/
def PeerEntry.store (e : PeerEntry) : Payload → PeerEntry
  | .motion c m => { e with motion := some m, level := some c.level }
  | .doorState c d => { e with door := some d, level := some c.level }
  | .berthState c b => { e with berth := some b, level := some c.level }
  | .loadReport c l => { e with load := some l, level := some c.level }
  | .admissionReport c a => { e with admission := some a, level := some c.level }
  | .brakeOrder level cause _ _ => { e with lastOrder := some (level, cause) }
  | _ => e

/-- The entry is FRESH and announces an identity. -/
def PeerEntry.believed (e : PeerEntry) (id : Identity) : Bool :=
  e.freshness == .fresh && e.announcement == some id

/-- Brake information is passed to the brake block whatever the freshness (R70); a START order of the
FRESH DRIVE clears the held reset number (R110). -/
def State.passBrake (f : Frame) (s : State) : State :=
  match f.payload with
  | .brakeOrder level cause h number =>
      let s1 := s.takeOrder f.source level cause h number
      if cause = .start ∧ (s1.entry f.source).believed .drive = true then s1.clearHeld else s1
  | p =>
      match p.common with
      | some c => s.takeAnnounced f.source c.level
      | none => s

/-! ## The notice store of a CAR (R15, R17) -/

/-- The stops and the direction of a notice are consistent with the stop plan (R15). -/
def State.noticeConsistent (s : State) (n : TripNotice) : Bool :=
  n.recovery ||
    (match n.fromStop, n.toStop with
     | some a, some b =>
         decide (a < s.conf.stops.length ∧ b < s.conf.stops.length ∧ a ≠ b) &&
           (n.direction == if s.hStop a < s.hStop b then Direction.up else .down)
     | _, _ => false)

/-- A TRIP NOTICE is delivered to the profile store (R15); one of revision 0 without the recovery flag
forms the cycle opening (R157). The count of rejected notices saturates as the others do
(notes/assumptions/72.md). -/
def State.takeNotice (n : TripNotice) (s : State) : State :=
  if s.noticeConsistent n then
    let s1 := { s with prof := { s.prof with notice := some n } }
    match n.toStop with
    | some k => if n.revision = 0 ∧ n.recovery = false then s1.judgeOpening k n.direction else s1
    | none => s1
  else s.bump .rejectedNotices

/-- The notice store is emptied. -/
def State.emptyNotice (s : State) : State := { s with prof := { s.prof with notice := none } }

/-- Whether a FRESH MOTION of the DRIVE empties the notice store (R17). -/
def emptiesNotice (m : Motion) (stored : Option TripNotice) : Bool :=
  m.status == .haulage .unsynced ||
    (match m.trip, stored with
     | some t, some n => !(t.number == n.number) && !((t.number + 1) % 256 == n.number)
     | _, _ => false)

/-- A CAR takes a FRESH MOTION of the DRIVE (R17, R139, R148). The notice store is judged here, at a MOTION
taken, and at no other change of the entry (notes/assumptions/53.md). -/
def State.takeDriveMotion (m : Motion) (s : State) : State :=
  let s1 := if emptiesNotice m s.prof.notice then s.emptyNotice else s
  match m.status with
  | .haulage st => s1.doorDriveMotion st
  | .doorsLocked _ => s1

/-! ## Delivery (R71, R72) -/

/-- A frame that names this unit is delivered if its source's entry is FRESH with the identity required,
and is otherwise counted unrouted (R72). -/
def State.route (source : Nat) (required : Identity) (deliver : State → State) (s : State) : State :=
  if (s.entry source).believed required then deliver s else s.bump .unroutedFrames

/-- Delivery of a RELEASE WITHDRAWAL, whose sender is told by the announcement of its entry (R72); one that
announces neither a CAR nor a BERTH names both units of its fields (notes/assumptions/58.md). -/
def State.routeWithdrawal (source berth : Nat) (car : CarId) (grantId : Nat)
    (reason : WithdrawReason) (s : State) : State :=
  let atBerth := s.conf.identity == .berth berth
  let atCar := s.conf.identity == .car car
  match (s.entry source).announcement with
  | some (.car _) =>
      if atBerth then s.route source (.car car) (·.takeCarWithdrawal car grantId reason) else s
  | some (.berth _) =>
      if atCar then s.route source (.berth berth) (·.takeBerthWithdrawal berth grantId) else s
  | _ => if atBerth || atCar then s.bump .unroutedFrames else s

/-- Delivery of a CONTROL frame (R72, Table 4-4). -/
def State.deliver (f : Frame) (s : State) : State :=
  let own := s.conf.identity
  match f.payload with
  | .brakeReset number => s.route f.source .drive (·.judgeReset number)
  | .tripNotice n =>
      if s.role == .car then s.route f.source .drive (·.takeNotice n) else s
  | .evacuationOrder car side =>
      if own == .car car then s.route f.source .drive (·.takeEvacuation side) else s
  | .evacuationReply car side result =>
      if own == .drive then s.route f.source (.car car) (·.recordReply car side result) else s
  | .releaseRequest berth car side number =>
      if own == .berth berth then s.route f.source (.car car) (·.takeRequest car side number) else s
  | .releaseGrant berth car side number grantId =>
      if own == .car car then
        s.route f.source (.berth berth) (·.takeGrant berth side number grantId) else s
  | .releaseRefusal berth car number reason =>
      if own == .car car then
        s.route f.source (.berth berth) (·.takeRefusal berth number reason) else s
  | .releaseWithdrawal berth car grantId reason =>
      s.routeWithdrawal f.source berth car grantId reason
  | _ => s

/-- What a unit does with a STATE record that has been stored, beside the notices: a CAR with a FRESH
MOTION of the DRIVE; a GATE with the records of the cars and of the other gates of its berth (R71, R158,
R159). -/
def State.takeRecord (f : Frame) (s : State) : State :=
  let e := s.entry f.source
  let fresh := e.freshness == .fresh
  match s.role, e.announcement, f.payload with
  | .car, some .drive, .motion _ m => if fresh then s.takeDriveMotion m else s
  | .gate, some (.car c), .loadReport _ l => if fresh then s.judgeLoadReport c l else s
  | .gate, some (.car c), .doorState _ d => s.judgeDoorState c fresh d
  | .gate, some (.gate b i), .admissionReport _ a =>
      if fresh && b == s.conf.ownBerth && !(i == s.conf.ownIndex) then s.takeAdmission a i else s
  | _, _, _ => s

/-! ## Notices (R73, Table 4-5) -/

/-- A berth that a stop of the plan names. -/
def UnitConfig.plansBerth (c : UnitConfig) (n : Nat) : Bool :=
  c.stops.any (fun st => (stopBerths st).contains n)

/-- The blocks that read the entry of an identity are notified of a change. -/
def State.notice (id : Identity) (s : State) : State :=
  match s.role, id with
  | .drive, .car _ => s.judgeClosing
  | .drive, .berth n => if s.conf.plansBerth n then s.judgeClosing else s
  | .car, .drive => s.doorDriveNotice
  | .car, .berth n => if s.checkedBerth == some n then s.doorBerthNotice else s
  | .berth, .car c => if s.grant.car == c then s.judgeGrant else s
  | _, _ => s

/-- The identities that entries announce or announced whose freshness has changed since `before`. -/
def changedIdentities (before after : List PeerEntry) : List Identity :=
  ((before.zip after).filter (fun (a, b) => !(a.freshness == b.freshness))).flatMap
    (fun (a, b) => a.announcement.toList ++ b.announcement.toList)

/-- Every reading block is notified of each change since `before`; `stored` adds the identities of an
entry whose record has been stored (R73). -/
def State.noticeChanges (before : List PeerEntry) (stored : List Identity) (s : State) : State :=
  (stored ++ changedIdentities before s.peers).eraseDups.foldl (fun t id => t.notice id) s

/-! ## Taking a frame (R62) -/

/-- The identities of the source of a STATE frame, before and after it. -/
def storedIdentities (f : Frame) (before : PeerEntry) : List Identity :=
  match f.payload.common with
  | some c => before.announcement.toList ++ [c.identity]
  | none => []

/-- A frame that has passed the sequence check is taken (R62). -/
def State.applyFrame (f : Frame) (s : State) : State :=
  let s1 := (s.renewEntry f).setEntry f.source (·.store f.payload)
  (((s1.passBrake f).takeRecord f).deliver f).noticeChanges s.peers
    (storedIdentities f (s.entry f.source))

/-- The sequence check of a frame, and its taking where it passes (R56). -/
def State.takeChecked (f : Frame) (s : State) : State :=
  match f.payload.cls with
  | .control =>
      if s.duplicate f then s.bump .duplicates else (s.passControl f).applyFrame f
  | .state => (s.passState f).applyFrame f
  | .safety => s.applyFrame f

/-- The peer view takes the oldest frame of the receive buffer. -/
def State.takeOne (s : State) : State :=
  match s.bus.rx with
  | [] => s
  | f :: rest => ({ s with bus := { s.bus with rx := rest } }).takeChecked f

/-- A number of frames are taken, oldest first. -/
def State.takeFrames : Nat → State → State
  | 0, s => s
  | n + 1, s => s.takeOne.takeFrames n

/-- Every frame held at the moment of asking is applied (R56). -/
def State.takeAll (s : State) : State := s.takeFrames s.bus.rx.length

/-- A HELD ticket of a GATE is decided anew, every frame held having been applied (R163). -/
def State.redecide (s : State) : State :=
  if s.role == .gate then
    match s.gate.ticket with
    | .held _ _ => s.takeAll.decideAgain
    | _ => s
  else s

/-! ## Silence (R64) -/

/-- The stale timer of an entry has expired. -/
def State.goStale (addr : Nat) (s : State) : State :=
  (s.setEntry addr ({ · with freshness := .stale })).noticeChanges s.peers []

/-- An entry runs a lost timer. -/
def runsLostTimer : Freshness → Bool
  | .fresh | .stale | .mismatched | .conflict => true
  | _ => false

/-- The lost timer of an entry has expired: conflicts may end, and the DRIVE's entry going LOST empties
the notice store of a CAR and clears the held reset number (R17, R65, R110). -/
def State.goLost (addr : Nat) (s : State) : State :=
  let s1 := ((s.setEntry addr ({ · with freshness := .lost })).endConflicts).countEntered s.peers
  let s2 :=
    if s.answer .drive = some addr then
      let s' := s1.clearHeld
      if s'.role == .car then s'.emptyNotice else s'
    else s1
  s2.noticeChanges s.peers []

end Sys2Proof.Machine
end

