-- ==== Sys2Proof/Machine/LineBus.lean ====
section
/-! DEFINITION. The line bus controller (Chapter 3): offers and the four ends of an attempt, reception,
slips, receive errors and address conflict, with the commands of the bus. -/

namespace Sys2Proof.Machine

open Sys2Proof

def State.setBus (f : LineBus → LineBus) (s : State) : State := { s with bus := f s.bus }

/-! ## Idle and offers (R39, R47, R109) -/

/-- The bus is idle: a receiver that has been enabled gains its footing (R39). -/
def State.busIdle (s : State) : State :=
  if s.running then s.setBus ({ · with footing := true }) else s

/-- A BRAKE RESET waits in the receive buffer, so no frame is offered (R109). -/
def State.heldOff (s : State) : Bool :=
  s.bus.rx.any (fun f => f.payload.kind == .brakeReset)

/-- The head is offered: its attempt begins, and the unit state of a STATE frame is filled (R42, R47). -/
def State.offerHead (s : State) : State :=
  match s.bus.queue with
  | [] => s
  | f :: rest =>
      s.setBus ({ · with
        queue := { f with onBus := true } :: rest
        attempt := some { f with payload := f.payload.withUnitState (some .operating), onBus := true }
        abortPlaced := false })

/-- At an idle, the head is offered where the controller may send (R57). -/
def State.offer (s : State) : State :=
  let s1 := s.busIdle
  if s1.operating && s1.bus.attempt.isNone && !s1.heldOff then s1.offerHead else s1

/-! ## The ends of an attempt (R43 to R46, R58) -/

/-- The attempt is over; the frame on the bus no longer is. -/
def State.endAttempt (s : State) : State :=
  s.setBus (fun b => { b with
    attempt := none, queue := b.queue.map (fun f => { f with onBus := false }) })

/-- The frame on the bus, if it is still in the queue. -/
def State.onBus (s : State) : Option TxFrame := s.bus.queue.find? (·.onBus)

/-- The frame on the bus leaves the queue. -/
def State.removeOnBus (s : State) : State :=
  s.setBus (fun b => { b with queue := b.queue.eraseP (·.onBus) })

/-- A frame given up exceeds the retry limit; SAFETY frames are never given up (R46). -/
def State.givesUp (s : State) (f : TxFrame) : Bool :=
  !f.isOrder && !(s.conf.retryLimit == 0) && decide (s.conf.retryLimit < f.failed + 1)

/-- One failed attempt of the frame on the bus: retry or give-up (R46). -/
def State.failAttempt (s : State) : State :=
  match s.onBus with
  | none => s.endAttempt
  | some f =>
      if s.givesUp f then ((s.removeOnBus.endAttempt).bump .giveUps).tellNotSent f.payload
      else
        (s.setBus (fun b => { b with
          queue := b.queue.map (fun g => if g.onBus then { g with failed := g.failed + 1 } else g) })
          ).endAttempt

/-- The CONTROL frames leave the queue, and each block is told "not sent" (R58). -/
def State.removeControls (s : State) : State :=
  (s.bus.queue.filter TxFrame.isControl).foldl (fun t f => t.tellNotSent f.payload)
    (s.setBus (fun b => { b with queue := b.queue.filter (fun f => !f.isControl) }))

/-- ADDRESS_CONFLICT is entered (R58). -/
def State.enterConflict (s : State) : State :=
  ((({ s with phase := .configured .addressConflict } : State).raise .addressConflict
    2).removeControls).redecide

/-- The field is the source field or a later one (R58). -/
def countsForConflict : BitField → Bool
  | .startBit | .classField => false
  | _ => true

/-- A bit error changes the conflict run, which at 3 leads to ADDRESS_CONFLICT (R58). -/
def State.conflictError (field : BitField) (s : State) : State :=
  if countsForConflict field then
    let run := min 3 (s.bus.conflictRun + 1)
    let s1 := s.setBus ({ · with conflictRun := run })
    if run = 3 then s1.enterConflict else s1
  else s

/-- An attempt ends in a bit error (R44, R45). -/
def State.bitError (field : BitField) (s : State) : State :=
  if s.bus.attempt.isSome then
    (((s.bump .bitErrors).setBus ({ · with abortPlaced := true })).failAttempt).conflictError field
  else s

/-- An attempt ends in an arbitration loss: the frame keeps its place (R43, R45). -/
def State.loseArbitration (s : State) : State :=
  if s.bus.attempt.isSome then (s.bump .arbitrationLosses).endAttempt else s

/-- The controller of a GATE announces to the gate block each attempt of one of its ADMISSION REPORTs whose
ack slot was recessive, as it announces a slip, whatever has become of the frame (R170). What R45 says of a
frame superseded or dropped is read of its outcome, sent or not sent (notes/assumptions/15.md). -/
def State.announcesNoAck (a : TxFrame) (s : State) : Bool :=
  s.role == .gate && a.payload.kind == .admissionReport

/-- An attempt ends with the ack slot recessive (R45, R58, R170). -/
def State.noAck (s : State) : State :=
  match s.bus.attempt with
  | some a =>
      let s1 := (((s.bump .noAckAttempts).setBus ({ · with conflictRun := 0 })).failAttempt)
      if s.announcesNoAck a then s1.gateDoubt else s1
  | none => s

/-- A block is told "sent" of one of its frames: the gate block (R168) and the brake block of the DRIVE
(R108). -/
def State.tellSent (p : Payload) (s : State) : State :=
  match p with
  | .admissionReport _ a => if s.role == .gate then (s.reportSent a).redecide else s
  | .brakeReset number => if s.role == .drive then s.judgeReset number else s
  | _ => s

/-- An attempt ends with the ack slot dominant: the frame is sent (R45). -/
def State.sent (s : State) : State :=
  if s.bus.attempt.isSome then
    let s1 := (s.bump .framesSent).setBus ({ · with conflictRun := 0 })
    match s1.onBus with
    | some f => (s1.removeOnBus.endAttempt).tellSent f.payload
    | none => s1.endAttempt
  else s

/-! ## Reception (R40, R53 to R55) -/

/-- The controller receives: it runs, has its footing, and is not sending. -/
def State.receives (s : State) : Bool := s.running && s.bus.footing && s.bus.attempt.isNone

/-- The class of lowest priority among frames (R54). -/
def lowestClass (l : List Frame) : Nat := l.foldl (fun m f => max m f.payload.cls.code) 0

/-- What is left of the held frames and the arriving one after a slip: the oldest held frame of the lowest
class is dropped, or the arriving one when it is alone in that class (R54). -/
def slipped (held : List Frame) (arriving : Frame) : List Frame :=
  let lowest := lowestClass (arriving :: held)
  if held.any (fun f => f.payload.cls.code == lowest) then
    held.eraseP (fun f => f.payload.cls.code == lowest) ++ [arriving]
  else held

/-- A frame is offered to the receive buffer (R53, R54). -/
def State.store (f : Frame) (s : State) : State :=
  if s.bus.rx.length < rxCapacity then s.setBus (fun b => { b with rx := b.rx ++ [f] })
  else
    let s1 := (s.setBus (fun b => { b with rx := slipped b.rx f })).bump .slips
    if s1.role == .gate then s1.gateDoubt else s1

def errorCount : ReceiveError → Count
  | .check => .checkErrors
  | .form => .formErrors
  | .aborted => .abortedFrames

/-- A receive error is counted, and a GATE is told of it as of a slip (R55, R170). -/
def State.takeError (e : ReceiveError) (s : State) : State :=
  let s1 := (s.bump (errorCount e)).setBus ({ · with ackDriven := false })
  if s1.role == .gate then s1.gateDoubt else s1

/-- A frame is judged at its end. A correct one is acknowledged in OPERATING alone (R57); one with the own
address is counted and discarded (R53). -/
def State.complete (raw : RawFrame) (s : State) : State :=
  match raw.judge with
  | .error e => s.takeError e
  | .correct f =>
      let s1 := s.setBus ({ · with ackDriven := s.operating })
      if f.source = s.conf.address then s1.bump .ownAddress else s1.store f

/-! ## The commands of the bus -/

/-- OFFER_TO_ARBITRATION. -/
def execOfferToArbitration (dt : Nat) (s : State) : Host.Outcome State Fault Refusal :=
  .next (s.advance dt).offer.settle

/-- ARBITRATION_LOSS. -/
def execArbitrationLoss (dt : Nat) (s : State) : Host.Outcome State Fault Refusal :=
  .next (s.advance dt).loseArbitration.settle

/-- BIT_ERROR. -/
def execBitError (dt : Nat) (field : BitField) (s : State) : Host.Outcome State Fault Refusal :=
  .next ((s.advance dt).bitError field).settle

/-- FRAME_SENT. -/
def execFrameSent (dt : Nat) (s : State) : Host.Outcome State Fault Refusal :=
  .next (s.advance dt).sent.settle

/-- NO_ACK_ATTEMPT. -/
def execNoAckAttempt (dt : Nat) (s : State) : Host.Outcome State Fault Refusal :=
  .next (s.advance dt).noAck.settle

/-- FRAME_COMPLETE. -/
def execFrameComplete (dt : Nat) (raw : RawFrame) (s : State) : Host.Outcome State Fault Refusal :=
  let s1 := s.advance dt
  .next (if s1.receives then s1.complete raw else s1).settle

/-- RECEIVE_ERROR. -/
def execReceiveError (dt : Nat) (kind : ReceiveError) (s : State) :
    Host.Outcome State Fault Refusal :=
  let s1 := s.advance dt
  .next (if s1.receives then s1.takeError kind else s1).settle

/-- BUS_IDLE. -/
def execBusIdle (dt : Nat) (s : State) : Host.Outcome State Fault Refusal :=
  .next (s.advance dt).busIdle.settle

/-- TAKE_FRAME. -/
def execTakeFrame (dt : Nat) (s : State) : Host.Outcome State Fault Refusal :=
  let s1 := s.advance dt
  .next (if s1.running && !s1.bus.rx.isEmpty then s1.takeOne.redecide else s1).settle

/-- STATE_PERIOD_EXPIRY: the timer of a kind that the role sends has expired (R52). -/
def execStatePeriodExpiry (dt : Nat) (kind : StateKind) (s : State) :
    Host.Outcome State Fault Refusal :=
  let s1 := s.advance dt
  .next (if s1.running && (stateKinds s1.role).contains kind
      && s1.due (s1.bus.periodDue.getD kind.index none) then s1.queueState kind else s1).settle

/-- STALE_TIMER_EXPIRY: a FRESH entry silent for its stale time (R64). -/
def execStaleTimerExpiry (dt addr : Nat) (s : State) : Host.Outcome State Fault Refusal :=
  let s1 := s.advance dt
  let e := s1.entry addr
  .next (if s1.running && e.freshness == .fresh && decide (e.staleTime ≤ s1.silence e) then
      s1.goStale addr else s1).settle

/-- LOST_TIMER_EXPIRY: an entry silent for 5,000 ms (R64). -/
def execLostTimerExpiry (dt addr : Nat) (s : State) : Host.Outcome State Fault Refusal :=
  let s1 := s.advance dt
  let e := s1.entry addr
  .next (if s1.running && runsLostTimer e.freshness && decide (5000 ≤ s1.silence e) then
      s1.goLost addr else s1).settle

/-- BRAKE_PROOF_TIMER_EXPIRY (R107). -/
def execBrakeProofTimerExpiry (dt : Nat) (s : State) : Host.Outcome State Fault Refusal :=
  let s1 := s.advance dt
  .next (match s1.brake.proof with
    | some p => if s1.running && decide (p.due ≤ s1.clock) then s1.judgeProof p else s1
    | none => s1).settle

end Sys2Proof.Machine
end

