-- ==== Sys2Proof/Machine/Supervision.lean ====
section
/-! DEFINITION. The set in force of a CAR (R16) and the supervision sample of a DRIVE or CAR (Chapter 5).
Demands are latched here; the rise they make is judged at the end of the sample (R100). -/

namespace Sys2Proof.Machine

open Sys2Proof

def State.setSup (f : Supervision → Supervision) (s : State) : State := { s with sup := f s.sup }

/-! ## Set in force and authority of a CAR (R16, R90) -/

/-- Table 1-7: the set in force and the trip and revision of the CAR's MOTION. -/
def State.sampleSet (s : State) : State :=
  match s.driveTrip, s.prof.notice with
  | some t, some n =>
      if t.number = n.number then
        { s with prof := { s.prof with
            setInForce := n.set, carTrip := some { number := n.number, revision := n.revision } } }
      else { s with prof := { s.prof with setInForce := 1, carTrip := none } }
  | _, _ => { s with prof := { s.prof with setInForce := 1, carTrip := none } }

/-- The authority of a CAR after its table of R90. -/
def State.carAuthority (s : State) : Option TripAuthority :=
  match s.fresh .drive with
  | none => s.sup.authority
  | some _ =>
      match s.driveTrip with
      | none => none
      | some t =>
          let held := s.sup.authority.filter (fun a => a.trip == t.number)
          match s.prof.notice with
          | some n =>
              if n.number = t.number then
                some { hEnd := n.hEnd, direction := n.direction, trip := n.number }
              else held
          | none => held

/-! ## Inputs of the sample (R78) -/

/-- The direction of the sample. -/
def State.sampleDirection (s : State) : Direction :=
  match s.sup.authority with
  | some a => a.direction
  | none =>
      if 20 ≤ s.absV then (if 0 < s.meas.v then .up else .down) else s.sup.lastDir

/-- The authority end of the sample. -/
def State.sampleEnd (s : State) : Nat :=
  match s.sup.authority with
  | some a => a.hEnd
  | none =>
      match s.sampleDirection with
      | .up => s.conf.lineLength
      | .down => 0

/-- v_cur for a set: the limit at h, or at an unknown position the line minimum (R79, R80). -/
def State.currentLimit (s : State) (set : Nat) : Nat :=
  if s.meas.known then (segmentAt s.prof.merged s.meas.h).limit set
  else lineMinimum s.prof.merged set

/-- v_perm of the sample for a set (R79 to R83). -/
def State.samplePermitted (s : State) (set : Nat) : Nat :=
  if s.meas.known then
    permittedSpeed s.prof.merged set (s.conf.setConstants set).superv s.meas.h s.meas.u s.sampleEnd
      s.sampleDirection
  else lineMinimum s.prof.merged set

/-- A threshold saturates at 16,383 (R83). -/
def threshold (v off : Nat) : Nat := min 16383 (v + off)

/-- The result of a sample in a set (R83). -/
def State.sampleResult (s : State) (set : Nat) : SupervisionResult :=
  let v := s.samplePermitted set
  let c := s.conf.setConstants set
  { set := set, vPerm := v, w := threshold v c.offW, s := threshold v c.offS
    e := threshold v c.offE, t := threshold v c.offT }

/-- Set 1 is declared in force at the first sample whose |v| is no greater than its v_perm (R14). -/
def State.judgeDeclaration (s : State) : State :=
  match s.trip.trip with
  | some r => if r.pending && decide (s.absV ≤ s.samplePermitted 1) then s.declareSet1 else s
  | none => s

/-- The set of the sample (R78). -/
def State.sampleSetNumber (s : State) : Nat :=
  match s.role with
  | .drive =>
      match s.trip.trip with
      | some r => r.set
      | none => 1
  | _ => s.prof.setInForce

/-! ## Causes (R85 to R95) -/

/-- The level of a cause of this chapter. -/
def supervisionLevel : Cause → Nat
  | .overspeedTrack | .ropeSlip => 3
  | .overspeedSafety | .overrun | .rollback => 2
  | _ => 1

/-- OVERRUN is present (R86). -/
def State.overrun (s : State) : Bool :=
  match s.sup.authority with
  | some a =>
      s.meas.known &&
        (match a.direction with
         | .up => decide (a.hEnd < s.meas.h)
         | .down => decide (s.meas.h < a.hEnd))
  | none => false

/-- ROLLBACK is present (R87, R88). -/
def State.rollback (s : State) : Bool :=
  if s.role == .drive && s.trip.haulage == .parked then decide (20 < s.absV)
  else
    match s.sup.authority with
    | some a =>
        decide (s.k .rollbackTolerance < s.absV) &&
          (match a.direction with
           | .up => decide (s.meas.v < 0)
           | .down => decide (0 < s.meas.v))
    | none => false

/-- The speeds of the car and of the FRESH DRIVE differ by more than the slip tolerance (R92). -/
def State.slipping (s : State) : Bool :=
  match s.driveMotion with
  | some m => decide (s.k .slipTolerance < (s.meas.v - m.v).natAbs)
  | none => false

/-- POSITION_DISAGREE is present (R93). -/
def State.positionDisagree (s : State) : Bool :=
  match s.driveMotion with
  | some m =>
      match m.h with
      | some h => s.meas.known && decide (s.meas.u + m.u + s.k .ropeStretch < distance s.meas.h h)
      | none => false
  | none => false

/-- The causes of this chapter present at the sample. -/
def State.presentCauses (r : SupervisionResult) (s : State) : List Cause :=
  let moving := s.sup.armed && !s.meas.standstill
  let car := s.role == .car
  ([(decide (r.s < s.absV), Cause.overspeedService),
    (decide (r.e < s.absV), .overspeedSafety),
    (decide (r.t < s.absV), .overspeedTrack),
    (s.overrun, .overrun),
    (s.rollback, .rollback),
    (car && ranFor s.sup.slipSince s.clock (s.k .slipTime), .ropeSlip),
    (car && s.positionDisagree, .positionDisagree),
    (car && moving && (s.fresh .drive).isNone, .driveSilent),
    (!car && moving && !(s.carFresh .a && s.carFresh .b), .carSilent)].filter (·.1)).map (·.2)

/-- A cause newly present is raised; DRIVE_SILENT asks for a brake proof with it (R77, R94). -/
def State.raiseCause (c : Cause) (s : State) : State :=
  let s1 := s.latch c (supervisionLevel c)
  if c = .driveSilent then s1.requestProof else s1

/-- The causes present become those given, and those newly present are raised (R77). -/
def State.takePresent (causes : List Cause) (s : State) : State :=
  (causes.filter (fun c => !s.sup.present.contains c)).foldl (fun t c => t.raiseCause c)
    (s.setSup ({ · with present := causes }))

/-! ## The supervision sample (R77) -/

/-- Stage 1: a CAR's set and authority, the DRIVE's declaration of set 1. -/
def State.supervisionInputs (s : State) : State :=
  match s.role with
  | .car =>
      let s1 := s.sampleSet
      s1.setSup ({ · with authority := s1.carAuthority })
  | _ => s.judgeDeclaration

/-- What a sample renews beside its result: the last motion direction, the arming of the silence checks
and the rope-slip timer (R78, R91, R92). -/
def State.supervisionTimers (s : State) : State :=
  s.setSup (fun p => { p with
    lastDir := if 20 ≤ s.absV then (if 0 < s.meas.v then .up else .down) else p.lastDir
    armed := p.armed || s.meas.standstill || decide (20 ≤ s.absV)
    slipSince :=
      if s.role == .car && s.slipping then some (p.slipSince.getD s.clock) else none })

/-- The result of the sample with the speed warning (R83, R84). -/
def State.takeResult (r : SupervisionResult) (s : State) : State :=
  let warning := decide (r.w < s.absV)
  let s1 := s.setSup ({ · with result := some r, warning := warning })
  if warning && !s.sup.warning then s1.bump .speedWarnings else s1

/-- One supervision sample of a DRIVE or CAR. -/
def State.supervisionSample (s : State) : State :=
  let s1 := s.supervisionInputs.supervisionTimers
  let r := s1.sampleResult s1.sampleSetNumber
  let s2 := s1.takeResult r
  s2.takePresent (s2.presentCauses r)

end Sys2Proof.Machine
end

