-- ==== Sys2Proof/Machine/Sample.lean ====
section
/-! DEFINITION. The sample event (R21, R77, R129, R177) with the expiries that are judged on the latest
sample, and the commands of the encoder and mark terminals. -/

namespace Sys2Proof.Machine

open Sys2Proof

def State.setTerm (f : Terminal → Terminal) (s : State) : State := { s with term := f s.term }

/-- The trip controller's part of a sample event, with the notice owed when the event came. In READY_CHECK
every frame held is applied first, and the check is judged if the state has remained (R122). -/
def State.tripSample (owed : Option TripRecord) (s : State) : State :=
  let s1 := s.requeueNotice owed
  (if s1.trip.haulage == .readyCheck then
      let s2 := s1.takeAll
      if s2.trip.haulage == .readyCheck then s2.judgeReady else s2
    else s1.haulageSample).restSetpoint.setAnalogCode

/-- The part of the role: the trip controller of a DRIVE; the door block of a CAR, and its brake block,
which asks for the track brake hold (R99). -/
def State.roleSample (owed : Option TripRecord) (s : State) : State :=
  match s.role with
  | .drive => s.tripSample owed
  | .car => s.doorSample.setBrake ({ · with trackAsk := true })
  | _ => s

/-- A DRIVE or CAR queues a MOTION at each sample while it is not at standstill (R52). -/
def State.queueMotion (s : State) : State :=
  if s.supervises && !s.meas.standstill then s.queueState .motion else s

/-- The output hold timer runs again at 3 × T_s, the analog input is read, and the next sample event falls
due after T_s (R177, R178, R184). -/
def State.restartSample (reading : BitVec 16) (s : State) : State :=
  let period := s.conf.samplePeriod
  let s1 := s.setTerm ({ · with
    hold := .running (s.after (3 * period)), analogIn := reading.toInt })
  { s1 with sampleDue := some (s.after period) }

/-- One sample event, all blocks. The rise of the highest own demand is judged once, at the end (R100). -/
def State.sample (reading : BitVec 16) (s : State) : State :=
  let s1 := (s.restartSample reading).sampleMeasurement reading
  (((if s1.supervises then s1.supervisionSample else s1).roleSample
    s.owedNotice).judgeRise).queueMotion

/-- SAMPLE_EVENT: the next one falls due T_s after the last (R184). -/
def execSampleEvent (dt : Nat) (reading : BitVec 16) (s : State) : Host.Outcome State Fault Refusal :=
  let s1 := s.advance dt
  .next (if s1.running && s1.due s1.sampleDue then s1.sample reading else s1).settle

/-! ## Expiries judged on the latest sample -/

/-- A judgement on the latest sample, where one has been taken; its demands are judged at once. -/
def State.onLatestSample (f : Nat → State → State) (s : State) : State :=
  match s.meas.lastSample with
  | some t => if s.running then (f t s).judgeRise else s
  | none => s

/-- The channel given is judged as meeting a loss criterion. -/
def State.judgeLossOf (ch : ChannelId) (s : State) : State := s.judgeLoss (ch == .e0) (ch == .e1)

/-- ZERO_TIMER_EXPIRY: the criterion "silent while moving" is met at the latest sample (R23, R24). -/
def execZeroTimerExpiry (dt : Nat) (ch : ChannelId) (s : State) : Host.Outcome State Fault Refusal :=
  .next ((s.advance dt).onLatestSample (fun t s =>
    let c := s.meas.channel ch
    if c.inService && c.silentAt t then s.judgeLossOf ch else s)).settle

/-- ILLEGAL_TRANSITION_LIMIT: the criterion "illegal transitions" is met at the latest sample (R23,
R24). -/
def execIllegalTransitionLimit (dt : Nat) (ch : ChannelId) (s : State) :
    Host.Outcome State Fault Refusal :=
  .next ((s.advance dt).onLatestSample (fun t s =>
    let c := s.meas.channel ch
    if c.inService && c.illegalAt t then s.judgeLossOf ch else s)).settle

/-- Both channels are in service at a unit that compares them (R25). -/
def State.comparesChannels (s : State) : Bool :=
  s.supervises && s.meas.e0.inService && s.meas.e1.inService

/-- DISAGREEMENT_TIMER_EXPIRY (R25). -/
def execDisagreementTimerExpiry (dt : Nat) (s : State) : Host.Outcome State Fault Refusal :=
  .next ((s.advance dt).onLatestSample (fun t s =>
    if s.comparesChannels then s.judgeDisagree t else s)).settle

/-- AGREEMENT_TIMER_EXPIRY (R25). -/
def execAgreementTimerExpiry (dt : Nat) (s : State) : Host.Outcome State Fault Refusal :=
  .next ((s.advance dt).onLatestSample (fun t s =>
    if s.comparesChannels then s.judgeAgree t else s)).settle

/-- STANDSTILL_TIMER_EXPIRY (R22). -/
def execStandstillTimerExpiry (dt : Nat) (s : State) : Host.Outcome State Fault Refusal :=
  .next ((s.advance dt).onLatestSample (fun t s => s.judgeStandstill t)).settle

/-- ROPE_SLIP is raised where the rope-slip timer has run the slip time at a sample (R92). -/
def State.judgeSlip (sample : Nat) (s : State) : State :=
  if s.role == .car && ranFor s.sup.slipSince sample (s.k .slipTime)
      && !s.sup.present.contains .ropeSlip then
    (s.setSup (fun p => { p with present := p.present ++ [.ropeSlip] })).latch .ropeSlip 3
  else s

/-- ROPE_SLIP_TIMER_EXPIRY (R92). -/
def execRopeSlipTimerExpiry (dt : Nat) (s : State) : Host.Outcome State Fault Refusal :=
  .next ((s.advance dt).onLatestSample (fun t s => s.judgeSlip t)).settle

/-! ## Encoder and mark terminals (R19, R30) -/

/-- QUADRATURE_TRANSITION. Both channels count at all times (R19): while the configuration is read and in
CONFIG_FAULT too. -/
def execQuadratureTransition (dt : Nat) (ch : ChannelId) (tr : QuadTransition) (s : State) :
    Host.Outcome State Fault Refusal :=
  let s1 := s.advance dt
  .next (if s1.alive then s1.transition ch tr else s1).settle

/-- EDGE_INTERVAL_VOID. -/
def execEdgeIntervalVoid (dt : Nat) (ch : ChannelId) (s : State) : Host.Outcome State Fault Refusal :=
  let s1 := s.advance dt
  .next (if s1.alive then s1.setChannel ch (fun c => c.voidInterval s1.clock) else s1).settle

/-- The mark detector input is active at a raw level, after its configured polarity (R30). -/
def State.markActive (s : State) (high : Bool) : Bool := high != s.conf.markInverted

/-- MARK_DETECTOR_EDGE: the leading edge acts, at a CAR alone (R30). -/
def execMarkDetectorEdge (dt : Nat) (high : Bool) (s : State) : Host.Outcome State Fault Refusal :=
  let s1 := s.advance dt
  .next (if s1.running && s1.role == .car && s1.markActive high then s1.markEdge else s1).settle

end Sys2Proof.Machine
end

