-- ==== Sys2Proof/Machine/Terminal.lean ====
section
/-! DEFINITION. The terminal block (Chapter 10): debouncing and the report of each change to the blocks,
the output hold timer, the reader line; with their commands and those of the timers of the trip
controller, the door block, the grant table and the gate block. -/

namespace Sys2Proof.Machine

open Sys2Proof

/-! ## Digital inputs (R174, R175) -/

/-- The raw logical level of an input, after its polarity. -/
def State.rawActive (s : State) (i : Nat) : Bool :=
  (s.term.rawHigh.getD i false) != (s.conf.inputs.getD i default).inverted

/-- The debounce timer of an input follows its raw level: it starts when that differs from the debounced
state and it is not running, and is cleared when that does not (R175). -/
def State.followRaw (i : Nat) (s : State) : State :=
  s.setTerm (fun t => { t with
    debounceDue := t.debounceDue.modify i (fun due =>
      if s.rawActive i == s.input i then none
      else some (due.getD (s.after (s.conf.inputs.getD i default).debounce))) })

/-- The role reads an input. -/
def State.readsInput (s : State) (i : Nat) : Bool := (inputsRead s.role).contains i

/-- A raw level changes (R175). -/
def State.rawChange (i : Nat) (high : Bool) (s : State) : State :=
  let s1 := s.setTerm (fun t => { t with rawHigh := t.rawHigh.set i high })
  if s1.running && s1.readsInput i then s1.followRaw i else s1

/-- Debouncing starts at entry to LISTENING, of every input the role reads (R175). -/
def State.startDebounce (s : State) : State :=
  (inputsRead s.role).foldl (fun t i => t.followRaw i) s

/-- A momentary key acts at its change to active, in OPERATING and ADDRESS_CONFLICT (R118). -/
def State.momentary (active : Bool) (act : State → State) (s : State) : State :=
  if active && s.keysJudged then act s else s

/-- STOP_BUTTON is raised at the configured level (R102). -/
def State.raiseStopButton (s : State) : State := s.raise .stopButton (s.k .stopButtonLevel)

/-- A change of a door locked input (R148, R150). -/
def State.doorLockedChange (s : State) : State := (s.lockClosing.judgeOpenMoving).judgeRise

/-- A debounced change is reported to the blocks that read the input (R174). -/
def State.inputChanged (i : Nat) (active : Bool) (s : State) : State :=
  match s.role, i with
  | .drive, 0 => if active then s.torqueProof else s
  | .drive, 1 => s.momentary active State.dispatchKey
  | .drive, 2 => if s.keysJudged then s.modeKey else s
  | .drive, 3 => s.momentary active State.reducedSpeedKey
  | .drive, 5 => s.momentary active State.recoveryKey
  | .drive, 8 => s.momentary active State.evacuationKey
  | .drive, 14 => s.momentary active State.parkKeyOn
  | .drive, 15 => if active then s.resetKey else s
  | .car, 0 => s.doorLockedChange
  | .car, 1 => s.doorLockedChange
  | .car, 2 => if active then s.doorButton else s
  | .car, 3 => if active then s.raiseStopButton else s
  | .berth, 0 => s.judgeGrant
  | .berth, 1 => s.judgeGrant
  | .berth, 2 => if active then s.raiseStopButton else s
  | .gate, 0 => if active then s.passage else s
  | _, _ => s

/-- The debounce timer of an input has run: the debounced state takes the raw level, and the change is
reported (R175). -/
def State.debounce (i : Nat) (s : State) : State :=
  let active := s.rawActive i
  (s.setTerm (fun t => { t with
    debounced := t.debounced.set i active
    debounceDue := t.debounceDue.set i none })).inputChanged i active

/-- RAW_INPUT_CHANGE. The wires keep their level whatever the unit does. -/
def execRawInputChange (dt input : Nat) (high : Bool) (s : State) : Host.Outcome State Fault Refusal :=
  .next ((s.advance dt).rawChange input high).settle

/-- DEBOUNCE_TIMER_EXPIRY. -/
def execDebounceTimerExpiry (dt input : Nat) (s : State) : Host.Outcome State Fault Refusal :=
  let s1 := s.advance dt
  .next (if s1.running && s1.due (s1.term.debounceDue.getD input none) then s1.debounce input
    else s1).settle

/-! ## The output hold timer (R177) -/

/-- The output hold timer has fallen due. -/
def State.holdDue (s : State) : Bool :=
  match s.term.hold with
  | .running due => decide (due ≤ s.clock)
  | _ => false

/-- OUTPUT_HOLD_TIMER_EXPIRY. -/
def execOutputHoldTimerExpiry (dt : Nat) (s : State) : Host.Outcome State Fault Refusal :=
  let s1 := s.advance dt
  .next (if s1.holdDue then (s1.setTerm ({ · with hold := .expired })).bump .holdExpiries
    else s1).settle

/-! ## Timers of the trip controller -/

/-- DWELL_TIMER_EXPIRY (R120). -/
def execDwellTimerExpiry (dt : Nat) (s : State) : Host.Outcome State Fault Refusal :=
  let s1 := s.advance dt
  .next (if s1.running && s1.due s1.trip.dwellDue then s1.dwellExpiry else s1).settle

/-- DOOR_CLOSE_TIMER_EXPIRY (R121). -/
def execDoorCloseTimerExpiry (dt : Nat) (s : State) : Host.Outcome State Fault Refusal :=
  let s1 := s.advance dt
  .next (if s1.running && s1.due s1.trip.doorCloseDue then s1.doorCloseTimeout else s1).settle

/-- RETRY_TIMER_EXPIRY: the departure begins again (R120, R122). -/
def execRetryTimerExpiry (dt : Nat) (s : State) : Host.Outcome State Fault Refusal :=
  let s1 := s.advance dt
  .next (if s1.running && s1.due s1.trip.retryDue then s1.enterDoorClosing else s1).settle

/-- TORQUE_PROOF_TIMER_EXPIRY (R125, R131). -/
def execTorqueProofTimerExpiry (dt : Nat) (s : State) : Host.Outcome State Fault Refusal :=
  let s1 := s.advance dt
  .next (if s1.running && s1.due s1.trip.torqueDue then s1.torqueTimeout else s1).settle

/-! ## Timers of the door block and the grant table -/

/-- REPEAT_TIMER_EXPIRY (R140). -/
def execRepeatTimerExpiry (dt : Nat) (s : State) : Host.Outcome State Fault Refusal :=
  let s1 := s.advance dt
  .next (if s1.running && s1.due s1.door.repeatDue then s1.repeatExpiry else s1).settle

/-- CONFIRMATION_TIMER_EXPIRY: the hold is judged (R146). -/
def execConfirmationTimerExpiry (dt : Nat) (s : State) : Host.Outcome State Fault Refusal :=
  let s1 := s.advance dt
  .next (if s1.running && s1.due s1.door.confirmDue then s1.judgeHold.lockClosing else s1).settle

/-- DISCARD_TIMER_EXPIRY (R143). -/
def execDiscardTimerExpiry (dt : Nat) (s : State) : Host.Outcome State Fault Refusal :=
  let s1 := s.advance dt
  .next (if s1.running && s1.due s1.grant.discardDue then s1.discardExpiry else s1).settle

/-! ## The reader line (R179) -/

/-- The unit takes characters from the reader line: a GATE outside CONFIG_FAULT. -/
def State.readsReader (s : State) : Bool := s.running && s.role == .gate

/-- A well-formed ticket record is presented: BUSY while another ticket is in process, else every frame
held is applied and the ticket is decided (R161). -/
def State.present (t : Ticket) (s : State) : State :=
  match s.gate.ticket with
  | .none => s.takeAll.firstDecision t
  | _ => s.reply .busy

/-- A record is delivered to the gate block, which judges its form (R155). -/
def State.deliverRecord (record : List Byte) (s : State) : State :=
  match readTicket record with
  | some t => s.present t
  | none => s.replyFormat

def State.setAssembling (l : List Byte) (s : State) : State :=
  s.setTerm ({ · with assembling := l, lastChar := s.clock })

/-- A character outside a record: the mark starts one, any other is line noise. -/
def State.outsideChar (c : ReaderChar) (s : State) : State :=
  if c.value = readerMark then s.setAssembling [c.value] else s.bump .lineNoise

/-- A character within a record joins it; the tenth completes it. -/
def State.joinChar (c : ReaderChar) (s : State) : State :=
  let record := s.term.assembling ++ [c.value]
  if record.length < 10 then s.setAssembling record
  else (s.setAssembling []).deliverRecord record

/-- The longest gap within a record, in µs. -/
def readerGap : Nat := 20000

/-- The time since the last character of the record exceeds the gap allowed. -/
def State.gapExceeded (s : State) : Bool := decide (s.term.lastChar + readerGap < s.clock)

/-- The framing is broken: the record assembled so far is answered FORMAT. -/
def State.breakFraming (s : State) : State := (s.setAssembling []).replyFormat

/-- A character arrives on the reader line. -/
def State.readerChar (c : ReaderChar) (s : State) : State :=
  if s.term.assembling.isEmpty then s.outsideChar c
  else if !c.stopOk || s.gapExceeded then s.breakFraming.outsideChar c
  else s.joinChar c

/-- TICKET_RECORD: the characters of a record arrive. -/
def execTicketRecord (dt : Nat) (chars : List ReaderChar) (s : State) :
    Host.Outcome State Fault Refusal :=
  let s1 := s.advance dt
  .next (if s1.readsReader then chars.foldl (fun t c => t.readerChar c) s1 else s1).settle

/-- READER_GAP_TIMEOUT: more than 20 ms have passed within a record. -/
def execReaderGapTimeout (dt : Nat) (s : State) : Host.Outcome State Fault Refusal :=
  let s1 := s.advance dt
  .next (if s1.readsReader && !s1.term.assembling.isEmpty && s1.gapExceeded then s1.breakFraming
    else s1).settle

/-- LINE_NOISE: one character arrives. -/
def execLineNoise (dt : Nat) (c : ReaderChar) (s : State) : Host.Outcome State Fault Refusal :=
  let s1 := s.advance dt
  .next (if s1.readsReader then s1.readerChar c else s1).settle

/-! ## Timers of the gate block -/

/-- The hold timer of the ticket in process has fallen due. -/
def State.ticketHoldDue (s : State) : Bool :=
  match s.gate.ticket with
  | .held _ due => decide (due ≤ s.clock)
  | _ => false

/-- The passage timer of the ticket in process has fallen due. -/
def State.passageDue (s : State) : Bool :=
  match s.gate.ticket with
  | .awaitingPassage _ due => decide (due ≤ s.clock)
  | _ => false

/-- HOLD_TIMER_EXPIRY (R163). -/
def execHoldTimerExpiry (dt : Nat) (s : State) : Host.Outcome State Fault Refusal :=
  let s1 := s.advance dt
  .next (if s1.running && s1.ticketHoldDue then s1.holdTimeout else s1).settle

/-- PASSAGE_TIMER_EXPIRY (R166). -/
def execPassageTimerExpiry (dt : Nat) (s : State) : Host.Outcome State Fault Refusal :=
  let s1 := s.advance dt
  .next (if s1.running && s1.passageDue then s1.passageTimeout else s1).settle

/-- RED_INDICATOR_TIMER_EXPIRY (R156). -/
def execRedIndicatorTimerExpiry (dt : Nat) (s : State) : Host.Outcome State Fault Refusal :=
  let s1 := s.advance dt
  .next (if s1.running && s1.due s1.gate.redDue then s1.setGate ({ · with redDue := none })
    else s1).settle

/-- PASSBACK_ENTRY_EXPIRY (R171). -/
def execPassbackEntryExpiry (dt : Nat) (s : State) : Host.Outcome State Fault Refusal :=
  let s1 := s.advance dt
  .next (if s1.readsReader then s1.expirePassback else s1).settle

end Sys2Proof.Machine
end

