-- ==== Sys2Proof/Machine/Startup.lean ====
section
/-! DEFINITION. The configuration checks (R182), the entry to CONFIG_FAULT, LISTENING and OPERATING (R183,
R184), and the resets (R185), with their commands. -/

namespace Sys2Proof.Machine

open Sys2Proof

/-! ## Parts of the checks -/

/-- A check fails without an index or item. -/
def failIf (bad : Bool) (c : Check) : Option CheckFailure :=
  if bad then some { check := c, item := .none } else none

/-- A check fails at the first entry of a list that is bad, with its index. -/
def failAt {α : Type} (l : List α) (bad : Nat → α → Bool) (c : Check) : Option CheckFailure :=
  (l.zipIdx.find? (fun (x, i) => bad i x)).map (fun (_, i) => { check := c, item := .index i })

/-- The first failure of a list of checks. -/
def firstFailure : List (Option CheckFailure) → Option CheckFailure
  | [] => none
  | some f :: _ => some f
  | none :: rest => firstFailure rest

/-- Whether a value lies in a range, both ends included. -/
def within (lo hi x : Nat) : Bool := decide (lo ≤ x ∧ x ≤ hi)

/-! ## READ, FORMAT, CRC -/

def checkRead (i : Image) : Option CheckFailure :=
  failIf (match i.header with
    | some h => decide (i.delivered < h.length)
    | none => true) .read

def checkFormat (i : Image) : Option CheckFailure :=
  match i.header with
  | some h => if h.format = Config.formatCode then none else some { check := .format, item := .none }
  | none => none

def checkCrc (i : Image) : Option CheckFailure :=
  failIf (match i.header with
    | some h => !(crc32 i.body == h.crc)
    | none => true) .crc

/-! ## UNIT and LINE -/

/-- The identity of a unit record, where it is valid for the role. -/
def imageIdentity (i : Image) : Option Identity :=
  match i.role, i.identity with
  | some .drive, .absent => some .drive
  | some .car, .car c => some (.car c)
  | some .berth, .berth n => if n ≤ 5 then some (.berth n) else none
  | some .gate, .gate n k => if n ≤ 5 ∧ k ≤ 7 then some (.gate n k) else none
  | _, _ => none

def checkUnit (i : Image) : Option CheckFailure :=
  failIf (decide (31 < i.address) || (imageIdentity i).isNone) .unitRecord

def checkLine (i : Image) : Option CheckFailure :=
  failIf (!within 100000 4194303 i.lineLength || !(i.samplePeriod == 10 || i.samplePeriod == 20)
    || !([0, 4, 16, 64].contains i.retryLimit)) .line

/-! ## ZONES, SETS, BERTHS, STOPS, MARKS -/

/-- Where a zone must start: at 0, or where the one before it ends. -/
def zoneStart (zones : List Zone) (i : Nat) : Nat :=
  if i = 0 then 0 else (zones.getD (i - 1) default).stop

def badZone (img : Image) (i : Nat) (z : Zone) : Bool :=
  !(z.start == zoneStart img.zones i) || decide (z.stop ≤ z.start) ||
    (i + 1 == img.zones.length && !(z.stop == img.lineLength)) ||
    decide (16000 < z.limit0) || decide (16000 < z.limit1) || decide (z.limit0 < z.limit1)

def checkZones (i : Image) : Option CheckFailure :=
  (failIf (!within 1 32 i.zones.length) .zones).orElse (fun _ => failAt i.zones (badZone i) .zones)

def badSet (s : SetConstants) : Bool :=
  decide (16000 < s.cruise) || !within 32 1023 s.accel || !within 32 1023 s.service
    || !within 32 1023 s.superv || decide (s.superv < s.service) || decide (2000 < s.offT)
    || !decide (s.offW ≤ s.offS ∧ s.offS ≤ s.offE ∧ s.offE ≤ s.offT)

def checkSets (i : Image) : Option CheckFailure := failIf (badSet i.set0 || badSet i.set1) .sets

def badBerth (img : Image) (i : Nat) (b : Berth) : Bool :=
  decide (5 < b.number) || (!(i == 0) && decide (b.number ≤ (img.berths.getD (i - 1) default).number))
    || decide (img.lineLength < b.position) || !within 50 1000 b.halfWidth
    || !(b.servesUp || b.servesDown) || decide (8 < b.gates) || !within 2 4 b.allowance

/-- A berth number is configured. -/
def imageHasBerth (i : Image) (n : Nat) : Bool := i.berths.any (fun b => b.number == n)

def checkBerths (i : Image) : Option CheckFailure :=
  ((failIf (decide (6 < i.berths.length)) .berths).orElse
    (fun _ => failAt i.berths (badBerth i) .berths)).orElse
    (fun _ => failIf (match imageIdentity i with
      | some (.berth n) => !imageHasBerth i n
      | _ => false) .berths)

def badStop (img : Image) (i : Nat) (s : Stop) : Bool :=
  decide (img.lineLength < s.h) || (!(i == 0) && decide (s.h ≤ (img.stops.getD (i - 1) default).h))
    || !((stopBerths s).all (imageHasBerth img))

def checkStops (i : Image) : Option CheckFailure :=
  (failIf (!within 2 4 i.stops.length) .stops).orElse (fun _ => failAt i.stops (badStop i) .stops)

/-- A mark is kept in the order of R11 after the one before it. -/
def marksOrdered (a b : Mark) : Bool :=
  decide (a.position < b.position ∨
    (a.position = b.position ∧ markSideCode a.side ≤ markSideCode b.side))

def badMark (img : Image) (i : Nat) (m : Mark) : Bool :=
  decide (img.lineLength < m.position) ||
    (!(i == 0) && !marksOrdered (img.marks.getD (i - 1) default) m)

def checkMarks (i : Image) : Option CheckFailure :=
  (failIf (decide (64 < i.marks.length)) .marks).orElse (fun _ => failAt i.marks (badMark i) .marks)

/-! ## ROLE, CREEP, GATE, INPUTS, OUTPUTS -/

/-- The roles that use a constant (Tables 2-1, 5-1, 6-1, 7-1, 8-1 and 9-1). -/
def constRoles : ConstName → List Role
  | .countLength0 | .countLength1 | .sense0 | .sense1 | .primary => [.drive, .car, .berth, .gate]
  | .disagreeTolerance | .drift | .uMax | .rollbackTolerance | .proofTime | .proofDecrement =>
      [.drive, .car]
  | .captureWindow | .markTolerance | .loadOffset | .loadGain | .gramsPerCount | .placeMass
  | .ratedPlaces | .slipTolerance | .slipTime | .ropeStretch | .halfLength => [.car]
  | .stopButtonLevel => [.car, .berth]
  | .dwell | .doorCloseTimeout | .ratedLoad | .imbalance | .derate | .overrun | .creepDistance
  | .vCreep | .stopTolerance | .recoverySpeed | .fullScale => [.drive]
  | .discardTime => [.berth]
  | .passbackTime | .holdTime | .passageTime => [.gate]

/-- The range of a constant (the same tables). -/
def constRange : ConstName → Int × Int
  | .countLength0 | .countLength1 => (1, 65535)
  | .sense0 | .sense1 | .primary => (0, 1)
  | .disagreeTolerance => (50, 2000)
  | .drift => (1, 50)
  | .uMax => (200, 60000)
  | .captureWindow => (10, 5000)
  | .markTolerance => (1, 1000)
  | .loadOffset => (-2048, 2047)
  | .loadGain => (0, 65535)
  | .gramsPerCount => (1, 1000)
  | .placeMass => (50, 150)
  | .ratedPlaces => (1, 250)
  | .rollbackTolerance => (20, 500)
  | .slipTolerance => (100, 2000)
  | .slipTime => (200, 2000)
  | .ropeStretch => (0, 20000)
  | .proofTime => (300, 3000)
  | .proofDecrement => (50, 2000)
  | .stopButtonLevel => (1, 2)
  | .dwell => (10, 600)
  | .doorCloseTimeout => (5, 120)
  | .ratedLoad => (1000, 65000)
  | .imbalance => (0, 20000)
  | .derate => (300, 1000)
  | .overrun => (100, 5000)
  | .creepDistance => (0, 5000)
  | .vCreep => (20, 1000)
  | .stopTolerance => (1, 200)
  | .recoverySpeed => (50, 2000)
  | .fullScale => (1000, 16383)
  | .halfLength => (1000, 20000)
  | .discardTime => (500, 5000)
  | .passbackTime => (1, 60)
  | .holdTime => (500, 5000)
  | .passageTime => (1, 20)

/-- Every constant, in the order of the tables. -/
def allConstants : List ConstName :=
  [.countLength0, .countLength1, .sense0, .sense1, .primary, .disagreeTolerance, .drift, .uMax,
   .captureWindow, .markTolerance, .loadOffset, .loadGain, .gramsPerCount, .placeMass, .ratedPlaces,
   .rollbackTolerance, .slipTolerance, .slipTime, .ropeStretch, .proofTime, .proofDecrement,
   .stopButtonLevel, .dwell, .doorCloseTimeout, .ratedLoad, .imbalance, .derate, .overrun,
   .creepDistance, .vCreep, .stopTolerance, .recoverySpeed, .fullScale, .halfLength, .discardTime,
   .passbackTime, .holdTime, .passageTime]

/-- A constant is absent or outside its range. -/
def badConstant (l : List (ConstName × Int)) (n : ConstName) : Bool :=
  match l.find? (fun e => e.1 == n) with
  | some (_, v) => !decide ((constRange n).1 ≤ v ∧ v ≤ (constRange n).2)
  | none => true

def checkRole (i : Image) : Option CheckFailure :=
  match i.role with
  | some r =>
      (allConstants.find? (fun n => (constRoles n).contains r && badConstant i.constants n)).map
        (fun n => { check := .roleConstants, item := .constant n })
  | none => failIf true .roleConstants

/-- A role constant of an image that is not negative. -/
def imageConst (i : Image) (n : ConstName) : Nat :=
  match i.constants.find? (fun e => e.1 == n) with
  | some (_, v) => v.toNat
  | none => 0

/-- v_creep is above what the overrun allowance permits at a service deceleration. -/
def creepTooFast (i : Image) (service : Nat) : Bool :=
  decide (isqrt (2 * service * imageConst i .overrun) < imageConst i .vCreep)

def checkCreep (i : Image) : Option CheckFailure :=
  failIf (i.role == some .drive && (creepTooFast i i.set0.service || creepTooFast i i.set1.service))
    .creep

def checkGate (i : Image) : Option CheckFailure :=
  failIf (match imageIdentity i with
    | some (.gate n k) => !(i.berths.any (fun b => b.number == n && decide (k < b.gates)))
    | _ => false) .gate

def checkInputs (i : Image) : Option CheckFailure :=
  match i.role with
  | some r =>
      failAt i.inputs (fun n x => (inputsRead r).contains n && !within 2 100 x.debounce) .inputs
  | none => none

def checkOutputs (i : Image) : Option CheckFailure :=
  match i.role with
  | some r =>
      failAt i.outputs (fun _ o =>
        match o.signal with
        | some sig => !((signalsOf r).contains sig) || (isSafetyHold sig && o.inverted)
        | none => false) .outputs
  | none => none

/-- The checks of the records, after READ, FORMAT and CRC, in the order of Table 11-2. -/
def checkRecords (i : Image) : Option CheckFailure :=
  firstFailure [checkUnit i, checkLine i, checkZones i, checkSets i, checkBerths i, checkStops i,
    checkMarks i, checkRole i, checkCreep i, checkGate i, checkInputs i, checkOutputs i]

/-- The first check of Table 11-2 that fails (R182). -/
def checkImage (i : Image) : Option CheckFailure :=
  firstFailure [checkRead i, checkFormat i, checkCrc i, checkRecords i]

/-- The configuration that an image which passes gives. -/
def imageConfig (i : Image) (id : Identity) : UnitConfig :=
  { address := i.address, identity := id, lineLength := i.lineLength
    samplePeriod := i.samplePeriod, retryLimit := i.retryLimit, zones := i.zones, stops := i.stops
    berths := i.berths, marks := i.marks, set0 := i.set0, set1 := i.set1, constants := i.constants
    inputs := i.inputs, markInverted := i.markInverted, outputs := i.outputs }

/-! ## Unit states at start (R183, R184) -/

/-- CONFIG_FAULT is entered with the failing check (R183). -/
def State.enterConfigFault (f : CheckFailure) (s : State) : State :=
  ({ s with phase := .configured .configFault, failure := some f } : State).raiseStart

/-- The profile is built, and every block takes its constants (R18, R182), the channels theirs (R19). -/
def State.takeConfig (c : UnitConfig) (s : State) : State :=
  let s1 := { s with
    cfg := some c
    prof := { s.prof with merged := c.mergedList, digest := c.computeDigest } }
  s1.setMeas (fun m => { m with
    reference := c.primary
    e0 := m.e0.calibrate (s1.countLength .e0) (s1.senseInverted .e0)
    e1 := m.e1.calibrate (s1.countLength .e1) (s1.senseInverted .e1) })

/-- LISTENING is entered: START, the period timers taken as expired, debouncing, the first sample event
(R60, R184). -/
def State.enterListening (reading : BitVec 16) (s : State) : State :=
  let s1 : State := { s with
    phase := .configured .listening, listenDue := some (s.after 500) }
  s1.raiseStart.queueAllStates.startDebounce.sample reading

/-- The read and the checks end (R182). -/
def State.configRead (i : Image) (reading : BitVec 16) (s : State) : State :=
  match checkImage i, imageIdentity i with
  | none, some id => (s.takeConfig (imageConfig i id)).enterListening reading
  | some f, _ => s.enterConfigFault f
  | none, none => s.enterConfigFault { check := .unitRecord, item := .none }

/-- CONFIGURATION_READ_COMPLETE. -/
def execConfigurationReadComplete (dt : Nat) (image : Image) (reading : BitVec 16) (s : State) :
    Host.Outcome State Fault Refusal :=
  let s1 := s.advance dt
  .next (if s1.phase == .starting then s1.configRead image reading else s1).settle

/-- LISTENING_TIMER_EXPIRY: OPERATING is entered (R184). -/
def execListeningTimerExpiry (dt : Nat) (s : State) : Host.Outcome State Fault Refusal :=
  let s1 := s.advance dt
  .next (if s1.phase == .configured .listening && s1.due s1.listenDue then
      { s1 with phase := .configured .operating, listenDue := none }
    else s1).settle

/-! ## Resets (R185) -/

/-- Every block at its reset value, with the records kept or emptied; what stands outside the blocks is
kept: the waiting commands and the levels of the wires. -/
def State.resetTo (phase : Phase) (pin : Bool) (records : List BrakeRecord) (s : State) : State :=
  State.afterReset s.pending phase pin s.term.rawHigh records

/-- The supply has reached its working level: the brake record list is emptied. With the reset terminal
active the unit stays in reset. -/
def State.powerOn (s : State) : State :=
  s.resetTo (if s.resetPin then .inReset else .starting) s.resetPin []

/-- The reset terminal is released: the brake record list is kept. Without supply nothing starts. -/
def State.pinRelease (s : State) : State :=
  if s.phase == .unpowered then { s with resetPin := false }
  else s.resetTo .starting false s.brake.records

/-- The reset terminal becomes active: the unit stops at once and stays in reset. -/
def State.pinActive (s : State) : State :=
  if s.phase == .unpowered then { s with resetPin := true }
  else s.resetTo .inReset true s.brake.records

/-- The supply falls below its working level: the unit stops at once. -/
def State.powerOff (s : State) : State := s.resetTo .unpowered s.resetPin s.brake.records

/-- POWER_ON_RESET. -/
def execPowerOnReset (dt : Nat) (s : State) : Host.Outcome State Fault Refusal :=
  .next (s.advance dt).powerOn

/-- PIN_RESET. -/
def execPinReset (dt : Nat) (s : State) : Host.Outcome State Fault Refusal :=
  .next (s.advance dt).pinRelease

/-- RESET_TERMINAL_ACTIVE. -/
def execResetTerminalActive (dt : Nat) (s : State) : Host.Outcome State Fault Refusal :=
  .next (s.advance dt).pinActive

/-- SUPPLY_BELOW_WORKING_LEVEL. -/
def execSupplyBelowWorkingLevel (dt : Nat) (s : State) : Host.Outcome State Fault Refusal :=
  .next (s.advance dt).powerOff

end Sys2Proof.Machine
end

