-- ==== Sys2Proof/Machine/Service.lean ====
section
/-! DEFINITION. The service port (R186, R187): which commands are taken, their answers, and the commands
themselves. -/

namespace Sys2Proof.Machine

open Sys2Proof

/-! ## Answers -/

/-- The time left on a timer, in ms, rounded down. -/
def State.leftMs (s : State) (due : Nat) : Nat := (due - s.clock) / 1000

def State.timerLeft (s : State) (due : Option Nat) : Option Nat := due.map s.leftMs

/-- R37. -/
def State.measurementStatus (s : State) : MeasurementStatus :=
  { reference := s.meas.status, h := s.reportedH, u := s.meas.u, v := s.meas.v }

/-- R96. -/
def State.supervisionStatus (s : State) : SupervisionStatus :=
  { result := s.sup.result, warning := s.sup.warning, authority := s.sup.authority
    present := s.sup.present }

/-- The own demands that are latched (R115). -/
def State.demandStatus (s : State) : List DemandStatus :=
  ((demandCauses.zip s.brake.demands).filter (fun e => !(e.2.level == 0))).map
    (fun e => { cause := e.1, level := e.2.level, present := e.2.present })

/-- The rows of the received-level table that are not 0, with their addresses (R115). -/
def State.rowStatus (s : State) : List (Nat × LevelRow) :=
  (s.brake.rows.zipIdx.filter (fun (r, _) => !(r.order == 0 && r.announced == 0))).map
    (fun (r, a) => (a, r))

/-- R115. -/
def State.brakeStatus (s : State) : BrakeStatus :=
  { effective := s.brake.effective, demands := s.demandStatus, rows := s.rowStatus
    held := s.brake.held
    issue := if s.cfg.isSome && s.role == .drive then some s.brake.issue else none
    proof := s.brake.proof.map (fun p =>
      { level := p.level, speed := p.speed, leftMs := s.leftMs p.due }) }

/-- R134. -/
def State.tripStatus (s : State) : TripStatus :=
  let t := s.trip
  { haulage := t.haulage, auto := s.modeAuto, trip := t.trip, counter := t.counter
    currentStop := t.currentStop, heldDir := t.heldDir, dwellLeft := s.timerLeft t.dwellDue
    doorLeft := s.timerLeft t.doorCloseDue, retryLeft := s.timerLeft t.retryDue
    torqueLeft := s.timerLeft t.torqueDue, setpoint := t.latestSetpoint, code := s.term.setCode
    lastReason := t.lastReason, replyA := t.replyA, replyB := t.replyB }

/-- R153, R172. -/
def State.doorStatus (s : State) : DoorStatus :=
  { context := s.door, releaseNotGranted := s.anySide .fault, opening := s.door.opening
    cycleCounter := s.door.cycleCounter }

/-- R180. -/
def State.terminalStatus (s : State) : TerminalStatus :=
  { inputs := (if s.cfg.isSome then inputsRead s.role else []).map (fun i => (i, s.input i))
    outputs := s.term.energised.zip (s.outputMap.map (·.signal))
    holdRunning := s.term.hold.isRunning, analogIn := s.term.analogIn
    analogOut := s.term.analogOut }

/-- What a role shows beside the common state: nothing before an image has passed. -/
def State.forRole {α : Type} (s : State) (roles : List Role) (a : α) : Option α :=
  if s.cfg.isSome && roles.contains s.role then some a else none

/-- The answer to STATUS (R187). In CONFIG_FAULT the address, role and identity are none, whatever check has
failed (notes/assumptions/71.md). -/
def State.statusAnswer (s : State) (st : UnitState) : StatusAnswer :=
  { state := st, address := s.cfg.map (·.address), identity := s.cfg.map (·.identity)
    digest := s.cfg.map (fun _ => s.prof.digest), failure := s.failure
    measurement := some s.measurementStatus
    supervision := s.forRole [.drive, .car] s.supervisionStatus
    brake := s.brakeStatus
    trip := s.forRole [.drive] s.tripStatus
    door := s.forRole [.car] s.doorStatus
    grant := s.forRole [.berth] s.grant
    cycle := s.forRole [.gate] { state := s.gate.cycle.state, ref := s.gate.cycle.ref }
    terminal := s.terminalStatus }

/-- The answer to PEER n (R76). -/
def State.peerAnswer (s : State) (n : Nat) : PeerAnswer :=
  let e := s.entry n
  { freshness := e.freshness, announcement := e.announcement, digest := e.digest
    silence := e.age.map s.elapsed, motion := e.motion, door := e.door, berth := e.berth
    load := e.load, admission := e.admission, level := e.level, lastOrder := e.lastOrder
    rejoins := e.rejoins }

/-- The ticket in process with the time left on its timer (R172). -/
def State.ticketStatus (s : State) : TicketStatus :=
  match s.gate.ticket with
  | .none => .none
  | .held _ due => .held (s.leftMs due)
  | .awaitingPassage _ due => .awaitingPassage (s.leftMs due)

/-- The answer to CYCLE (R172). -/
def State.cycleAnswer (s : State) : CycleAnswer :=
  { cycle := s.gate.cycle, ticket := s.ticketStatus, carA := s.gate.carA, carB := s.gate.carB
    passback := s.gate.passback.length }

/-! ## Taking a command (R186) -/

/-- The commands of Table 11-4, and a line that names none. -/
inductive ServiceCommand where
  | status
  | peer (n : Option Nat)
  | counts
  | brakeRecords
  | cycle
  | clearCounts
  | referenceRestore
  | unknown
  deriving DecidableEq, Repr, Inhabited

/-- CONFIG_FAULT answers the command (R183). -/
def answeredInFault : ServiceCommand → Bool
  | .status | .brakeRecords => true
  | _ => false

/-- The refusals that a command draws before it is carried out, in the order of the table of R186. -/
def State.commandRefusal (s : State) (c : ServiceCommand) : Option RefusalCode :=
  if s.phase == .starting then some .starting
  else if s.phase == .configured .configFault && !answeredInFault c then some .notConfigured
  else
    match c with
    | .unknown => some .unknown
    | .peer none => some .range
    | .peer (some n) => if 31 < n then some .range else none
    | .cycle => if s.role == .gate then none else some .role
    | _ => none

/-- An answer is queued behind those not yet sent. -/
def State.answerWith (a : Answer) (ofCommand : Bool) (s : State) : State :=
  { s with answers := s.answers ++ [{ answer := a, ofCommand := ofCommand }] }

/-- A refusal is answered and counted (R186); the count saturates as the others do
(notes/assumptions/72.md). -/
def State.refuseWith (r : RefusalCode) (ofCommand : Bool) (s : State) : State :=
  (s.answerWith (.refused r) ofCommand).bump .serviceRefusals

/-- Every count is set to 0 (R187). -/
def State.clearAllCounts (s : State) : State :=
  { s with
    counts := List.replicate countsSize 0
    peers := s.peers.map (fun e => { e with rejoins := 0 }) }

/-- REFERENCE RESTORE is judged (R27). -/
def State.judgeRestore (s : State) : State :=
  if !s.meas.standstill then s.refuseWith .moving true
  else if !(s.channelClean s.meas.e0 && s.channelClean s.meas.e1) then
    s.refuseWith .channelFault true
  else s.restoreReference.answerWith .accepted true

/-- A command is carried out (R187). -/
def State.carryOut (c : ServiceCommand) (s : State) : State :=
  match c with
  | .status =>
      match s.phase with
      | .configured st => s.answerWith (.status (s.statusAnswer st)) true
      | _ => s
  | .peer n => s.answerWith (.peer (s.peerAnswer (n.getD 0))) true
  | .counts => s.answerWith (.counts s.counts (s.peers.map (·.rejoins))) true
  | .brakeRecords => s.answerWith (.brakeRecords s.brake.records) true
  | .cycle => s.answerWith (.cycle s.cycleAnswer) true
  | .clearCounts => s.clearAllCounts.answerWith .done true
  | .referenceRestore => s.judgeRestore
  | .unknown => s

/-- A command is in progress: its answer has not been sent whole. -/
def State.commandInProgress (s : State) : Bool := s.answers.any (·.ofCommand)

/-- A command arrives at the service port (R186). -/
def State.command (c : ServiceCommand) (s : State) : State :=
  if !s.alive then s
  else if s.commandInProgress then s.refuseWith .busy false
  else
    match s.commandRefusal c with
    | some r => s.refuseWith r true
    | none => s.carryOut c

/-! ## The commands -/

/-- STATUS. -/
def execStatus (dt : Nat) (s : State) : Host.Outcome State Fault Refusal :=
  .next ((s.advance dt).command .status).settle

/-- PEER n. -/
def execPeer (dt : Nat) (n : Option Nat) (s : State) : Host.Outcome State Fault Refusal :=
  .next ((s.advance dt).command (.peer n)).settle

/-- COUNTS. -/
def execCounts (dt : Nat) (s : State) : Host.Outcome State Fault Refusal :=
  .next ((s.advance dt).command .counts).settle

/-- BRAKE RECORDS. -/
def execBrakeRecords (dt : Nat) (s : State) : Host.Outcome State Fault Refusal :=
  .next ((s.advance dt).command .brakeRecords).settle

/-- CYCLE. -/
def execCycle (dt : Nat) (s : State) : Host.Outcome State Fault Refusal :=
  .next ((s.advance dt).command .cycle).settle

/-- CLEAR COUNTS. -/
def execClearCounts (dt : Nat) (s : State) : Host.Outcome State Fault Refusal :=
  .next ((s.advance dt).command .clearCounts).settle

/-- REFERENCE RESTORE. -/
def execReferenceRestore (dt : Nat) (s : State) : Host.Outcome State Fault Refusal :=
  .next ((s.advance dt).command .referenceRestore).settle

/-- A line that names no command, or has broken characters. -/
def execUnknownCommand (dt : Nat) (s : State) : Host.Outcome State Fault Refusal :=
  .next ((s.advance dt).command .unknown).settle

/-- SERVICE_ANSWER_SENT: the last character of the answer first in line has been sent (R186). -/
def execServiceAnswerSent (dt : Nat) (s : State) : Host.Outcome State Fault Refusal :=
  let s1 := s.advance dt
  .next ({ s1 with answers := s1.answers.tail } : State).settle

end Sys2Proof.Machine
end

