-- ==== Sys2Proof/Machine/Dispatch.lean ====
section
/-! DEFINITION. The dispatch: one arm per command, each a direct call of its meaning. -/

namespace Sys2Proof.Machine

open Sys2Proof

def exec (i : Instr) (s : State) : Host.Outcome State Fault Refusal :=
  match i with
  | .powerOnReset dt => Sys2Proof.Machine.execPowerOnReset dt s
  | .pinReset dt => Sys2Proof.Machine.execPinReset dt s
  | .configurationReadComplete dt image reading => Sys2Proof.Machine.execConfigurationReadComplete dt image reading s
  | .listeningTimerExpiry dt => Sys2Proof.Machine.execListeningTimerExpiry dt s
  | .quadratureTransition dt ch tr => Sys2Proof.Machine.execQuadratureTransition dt ch tr s
  | .edgeIntervalVoid dt ch => Sys2Proof.Machine.execEdgeIntervalVoid dt ch s
  | .sampleEvent dt reading => Sys2Proof.Machine.execSampleEvent dt reading s
  | .zeroTimerExpiry dt ch => Sys2Proof.Machine.execZeroTimerExpiry dt ch s
  | .illegalTransitionLimit dt ch => Sys2Proof.Machine.execIllegalTransitionLimit dt ch s
  | .disagreementTimerExpiry dt => Sys2Proof.Machine.execDisagreementTimerExpiry dt s
  | .agreementTimerExpiry dt => Sys2Proof.Machine.execAgreementTimerExpiry dt s
  | .standstillTimerExpiry dt => Sys2Proof.Machine.execStandstillTimerExpiry dt s
  | .ropeSlipTimerExpiry dt => Sys2Proof.Machine.execRopeSlipTimerExpiry dt s
  | .markDetectorEdge dt high => Sys2Proof.Machine.execMarkDetectorEdge dt high s
  | .offerToArbitration dt => Sys2Proof.Machine.execOfferToArbitration dt s
  | .arbitrationLoss dt => Sys2Proof.Machine.execArbitrationLoss dt s
  | .bitError dt field => Sys2Proof.Machine.execBitError dt field s
  | .frameSent dt => Sys2Proof.Machine.execFrameSent dt s
  | .noAckAttempt dt => Sys2Proof.Machine.execNoAckAttempt dt s
  | .frameComplete dt raw => Sys2Proof.Machine.execFrameComplete dt raw s
  | .receiveError dt kind => Sys2Proof.Machine.execReceiveError dt kind s
  | .takeFrame dt => Sys2Proof.Machine.execTakeFrame dt s
  | .statePeriodExpiry dt kind => Sys2Proof.Machine.execStatePeriodExpiry dt kind s
  | .staleTimerExpiry dt addr => Sys2Proof.Machine.execStaleTimerExpiry dt addr s
  | .lostTimerExpiry dt addr => Sys2Proof.Machine.execLostTimerExpiry dt addr s
  | .brakeProofTimerExpiry dt => Sys2Proof.Machine.execBrakeProofTimerExpiry dt s
  | .rawInputChange dt input high => Sys2Proof.Machine.execRawInputChange dt input high s
  | .debounceTimerExpiry dt input => Sys2Proof.Machine.execDebounceTimerExpiry dt input s
  | .dwellTimerExpiry dt => Sys2Proof.Machine.execDwellTimerExpiry dt s
  | .doorCloseTimerExpiry dt => Sys2Proof.Machine.execDoorCloseTimerExpiry dt s
  | .retryTimerExpiry dt => Sys2Proof.Machine.execRetryTimerExpiry dt s
  | .torqueProofTimerExpiry dt => Sys2Proof.Machine.execTorqueProofTimerExpiry dt s
  | .repeatTimerExpiry dt => Sys2Proof.Machine.execRepeatTimerExpiry dt s
  | .confirmationTimerExpiry dt => Sys2Proof.Machine.execConfirmationTimerExpiry dt s
  | .discardTimerExpiry dt => Sys2Proof.Machine.execDiscardTimerExpiry dt s
  | .ticketRecord dt chars => Sys2Proof.Machine.execTicketRecord dt chars s
  | .readerGapTimeout dt => Sys2Proof.Machine.execReaderGapTimeout dt s
  | .lineNoise dt c => Sys2Proof.Machine.execLineNoise dt c s
  | .holdTimerExpiry dt => Sys2Proof.Machine.execHoldTimerExpiry dt s
  | .passageTimerExpiry dt => Sys2Proof.Machine.execPassageTimerExpiry dt s
  | .redIndicatorTimerExpiry dt => Sys2Proof.Machine.execRedIndicatorTimerExpiry dt s
  | .passbackEntryExpiry dt => Sys2Proof.Machine.execPassbackEntryExpiry dt s
  | .outputHoldTimerExpiry dt => Sys2Proof.Machine.execOutputHoldTimerExpiry dt s
  | .status dt => Sys2Proof.Machine.execStatus dt s
  | .peer dt n => Sys2Proof.Machine.execPeer dt n s
  | .counts dt => Sys2Proof.Machine.execCounts dt s
  | .brakeRecords dt => Sys2Proof.Machine.execBrakeRecords dt s
  | .cycle dt => Sys2Proof.Machine.execCycle dt s
  | .clearCounts dt => Sys2Proof.Machine.execClearCounts dt s
  | .referenceRestore dt => Sys2Proof.Machine.execReferenceRestore dt s
  | .unknownCommand dt => Sys2Proof.Machine.execUnknownCommand dt s
  | .serviceAnswerSent dt => Sys2Proof.Machine.execServiceAnswerSent dt s
  | .resetTerminalActive dt => Sys2Proof.Machine.execResetTerminalActive dt s
  | .supplyBelowWorkingLevel dt => Sys2Proof.Machine.execSupplyBelowWorkingLevel dt s
  | .busIdle dt => Sys2Proof.Machine.execBusIdle dt s

end Sys2Proof.Machine
end

