-- ==== Sys2Proof/Safety.lean ====
section
/-! DEFINITION. What a safe state of a unit is: the laws of the device that the manual states over all
states, as predicates of one state; and how the state that a command answers stands to the state its
own effect gives. -/

namespace Sys2Proof.Machine

open Sys2Proof

/-! ## Laws of one state -/

/-- A transmit queue holds at most 8 frames and at most one BRAKE ORDER, and stands in the order of
priority: SAFETY before CONTROL before STATE (R47). -/
def QueueLaw (s : State) : Prop :=
  s.bus.queue.length ≤ 8 ∧ (s.bus.queue.filter TxFrame.isOrder).length ≤ 1 ∧
    s.bus.queue.Pairwise (fun f g => f.payload.cls.code ≤ g.payload.cls.code)

/-- The receive buffer holds at most 16 frames (R53, R54). -/
def BufferLaw (s : State) : Prop := s.bus.rx.length ≤ 16

/-- The brake record list holds at most 16 records (R114). -/
def RecordLaw (s : State) : Prop := s.brake.records.length ≤ 16

/-- The passback list holds at most 64 entries, no two with the same ticket id (R171). -/
def PassbackLaw (s : State) : Prop :=
  s.gate.passback.length ≤ 64 ∧ (s.gate.passback.map (·.ticket)).Nodup

/-- Every count, the rejoin counts of the peer view among them, lies within its saturation bound. -/
def CountLaw (s : State) : Prop :=
  (∀ n ∈ s.counts, n ≤ 65535) ∧ ∀ e ∈ s.peers, e.rejoins ≤ 65535

/-- The bounds of the buffers, lists and counts of a unit. -/
def BoundsLaw (s : State) : Prop :=
  QueueLaw s ∧ BufferLaw s ∧ RecordLaw s ∧ PassbackLaw s ∧ CountLaw s

/-- The brake block between two commands: an entry for each of the 20 causes and a row for each of the
32 addresses; the highest own demand judged and nothing raised left unjudged (R100); the effective level
the greatest of the own demands and the received levels (R105). -/
def BrakeLaw (s : State) : Prop :=
  s.brake.demands.length = 20 ∧ s.brake.rows.length = 32 ∧
    s.brake.judged = s.highestOwn ∧ s.brake.raised = [] ∧ s.brake.effective = s.formedLevel

/-- Every output shows what its signal gives, and the analog output its code (R176 to R178). -/
def OutputLaw (s : State) : Prop :=
  s.term.energised = s.outputMap.map s.outputEnergised ∧
    s.term.outOn = s.outputMap.map s.outputOn ∧
    s.term.analogOut =
      if s.running && s.role == .drive && !(s.term.hold == .expired) then s.term.setCode else 0

/-- The door release outputs of a CAR: one is asked for only at standstill, of a RELEASED side while the
stop berth shows the held grant, or of an EVACUATION side at level 2 or more (R145, R146, R151, R152).
What keeps it so: a side is not REQUESTING beside a RELEASED one, and a side that waits to withdraw its
grant at the lock stands beside neither (R139, R145, R148). Outside the running states both sides are
LOCKED (R154). -/
def DoorLaw (s : State) : Prop :=
  (s.running = false → ∀ d ∈ [Side.left, .right],
    (s.side d).state = .locked ∧ (s.side d).withdrawAtLock = false) ∧
  (s.running = true → s.role = .car →
    (∀ d ∈ [Side.left, .right], s.releaseAsked d = true → s.meas.standstill = true ∧
      ((s.side d).state = .released ∧ s.heldGrantShown = true ∨
        (s.side d).state = .evacuation ∧ 2 ≤ s.brake.effective)) ∧
    (s.anySide .released = true → s.anySide .requesting = false) ∧
    (∀ d ∈ [Side.left, .right], (s.side d).withdrawAtLock = true →
      s.anySide .released = false ∧ s.anySide .requesting = false))

/-- A record of a BERTH is GRANTED only while the presence input is active (R142, R149); outside the
running states there is none (R154). -/
def GrantLaw (s : State) : Prop :=
  (s.running = false → s.grant.state = .none) ∧
  (s.running = true → s.role = .berth → s.grant.state = .granted → s.presenceInput = true)

/-- The places of the ticket that awaits its passage. -/
def State.awaitedPlaces (s : State) : Nat :=
  match s.gate.ticket with
  | .awaitingPassage t _ => t.places
  | _ => 0

/-- The own unannounced and pending places of a GATE lie within its allowance, the pending ones being those
of the ticket that awaits its passage (R163, R165, R166); outside the running states there are none
(R173). -/
def GateLaw (s : State) : Prop :=
  (s.running = false →
    s.gate.ticket = .none ∧ s.gate.cycle.pending = 0 ∧ s.gate.cycle.unannounced = []) ∧
  (s.running = true → s.role = .gate → s.gate.cycle.pending = s.awaitedPlaces ∧
    s.gate.cycle.unannouncedPlaces + s.gate.cycle.pending ≤ s.allowance)

/-- The transmit queue takes a CONTROL frame: the unit runs outside ADDRESS_CONFLICT, and the queue has a
place (R47, R57, R58). -/
def TakesControl (s : State) : Prop :=
  s.running = true ∧ s.phase ≠ .configured .addressConflict ∧ s.bus.queue.length < 8

/-- The sample event of a DRIVE can neither set the position at a stop nor apply frames that wait: it is in
none of the states whose sample may (R119, R122, R129). -/
def Underway (s : State) : Prop :=
  s.role = .drive → s.trip.haulage ∉ [Haulage.unsynced, .stopping, .readyCheck]

/-! ## The end of a step -/

/-- `t` is `x` after what ends every step: STATE frames of changed content may be queued (R52), the
demand entries show whether their causes are present (R111), and the outputs follow (R176 to R178).
All else of `t` is as in `x`: every other block, the SAFETY and CONTROL frames of the queue with their
sequence counters, every count but that of dropped STATE frames, and every latched level. -/
def SettledFrom (x t : State) : Prop :=
  t = { x with
    bus := { x.bus with
      queue := t.bus.queue, seqNext := t.bus.seqNext, periodDue := t.bus.periodDue
      lastContent := t.bus.lastContent }
    brake := { x.brake with demands := t.brake.demands }
    term := { x.term with
      energised := t.term.energised, outOn := t.term.outOn, analogOut := t.term.analogOut }
    counts := t.counts } ∧
  t.bus.queue.filter (fun f => !f.isState) = x.bus.queue.filter (fun f => !f.isState) ∧
  (∀ k : FrameKind, k.cls ≠ .state → t.bus.nextSeq k = x.bus.nextSeq k) ∧
  (∀ c : Count, c ≠ .stateDrops → t.count c = x.count c) ∧
  (∀ c ∈ demandCauses, t.latched c = x.latched c)

/-! ## Commands that act only in LISTENING, OPERATING and ADDRESS_CONFLICT -/

/-- The time a command carries. -/
def commandTime : Instr → Nat
  | .powerOnReset dt | .pinReset dt | .configurationReadComplete dt _ _ | .listeningTimerExpiry dt
  | .quadratureTransition dt _ _ | .edgeIntervalVoid dt _ | .sampleEvent dt _
  | .zeroTimerExpiry dt _ | .illegalTransitionLimit dt _ | .disagreementTimerExpiry dt
  | .agreementTimerExpiry dt | .standstillTimerExpiry dt | .ropeSlipTimerExpiry dt
  | .markDetectorEdge dt _ | .offerToArbitration dt | .arbitrationLoss dt | .bitError dt _
  | .frameSent dt | .noAckAttempt dt | .frameComplete dt _ | .receiveError dt _ | .takeFrame dt
  | .statePeriodExpiry dt _ | .staleTimerExpiry dt _ | .lostTimerExpiry dt _
  | .brakeProofTimerExpiry dt | .rawInputChange dt _ _ | .debounceTimerExpiry dt _
  | .dwellTimerExpiry dt | .doorCloseTimerExpiry dt | .retryTimerExpiry dt
  | .torqueProofTimerExpiry dt | .repeatTimerExpiry dt | .confirmationTimerExpiry dt
  | .discardTimerExpiry dt | .ticketRecord dt _ | .readerGapTimeout dt | .lineNoise dt _
  | .holdTimerExpiry dt | .passageTimerExpiry dt | .redIndicatorTimerExpiry dt
  | .passbackEntryExpiry dt | .outputHoldTimerExpiry dt | .status dt | .peer dt _ | .counts dt
  | .brakeRecords dt | .cycle dt | .clearCounts dt | .referenceRestore dt | .unknownCommand dt
  | .serviceAnswerSent dt | .resetTerminalActive dt | .supplyBelowWorkingLevel dt | .busIdle dt => dt

/-- The commands that put the unit in reset or restart it: both resets, the reset terminal and the supply
(R185). -/
def isResetCommand : Instr → Bool
  | .powerOnReset _ | .pinReset _ | .resetTerminalActive _ | .supplyBelowWorkingLevel _ => true
  | _ => false

/-- The commands that act also outside LISTENING, OPERATING and ADDRESS_CONFLICT: the resets and the supply,
the end of the configuration read, the encoder channels, the raw inputs, the output hold timer, and the
service port. -/
def actsAlways : Instr → Bool
  | .powerOnReset _ | .pinReset _ | .configurationReadComplete _ _ _ | .quadratureTransition _ _ _
  | .edgeIntervalVoid _ _ | .rawInputChange _ _ _
  | .outputHoldTimerExpiry _ | .status _ | .peer _ _ | .counts _ | .brakeRecords _ | .cycle _
  | .clearCounts _ | .referenceRestore _ | .unknownCommand _ | .serviceAnswerSent _
  | .resetTerminalActive _ | .supplyBelowWorkingLevel _ => true
  | .listeningTimerExpiry _
  | .sampleEvent _ _ | .zeroTimerExpiry _ _ | .illegalTransitionLimit _ _
  | .disagreementTimerExpiry _ | .agreementTimerExpiry _ | .standstillTimerExpiry _
  | .ropeSlipTimerExpiry _ | .markDetectorEdge _ _ | .offerToArbitration _ | .arbitrationLoss _
  | .bitError _ _ | .frameSent _ | .noAckAttempt _ | .frameComplete _ _ | .receiveError _ _
  | .takeFrame _ | .statePeriodExpiry _ _ | .staleTimerExpiry _ _ | .lostTimerExpiry _ _
  | .brakeProofTimerExpiry _ | .debounceTimerExpiry _ _ | .dwellTimerExpiry _
  | .doorCloseTimerExpiry _ | .retryTimerExpiry _ | .torqueProofTimerExpiry _
  | .repeatTimerExpiry _ | .confirmationTimerExpiry _ | .discardTimerExpiry _ | .ticketRecord _ _
  | .readerGapTimeout _ | .lineNoise _ _ | .holdTimerExpiry _ | .passageTimerExpiry _
  | .redIndicatorTimerExpiry _ | .passbackEntryExpiry _ | .busIdle _ => false

end Sys2Proof.Machine
end

