-- ==== Sys2Proof/Certificates/Slice0/Obligations.lean ====
section
/-! DEFINITION. The statements about the unit, for the provers. Where a statement rests on a choice of
the model its docstring names the log entry; that outputs and changed content follow at the end of a
command (`SettledFrom`) is notes/assumptions/50.md for all of them. -/

open Sys2Proof Sys2Proof.Machine

/-! ## The machine as a whole -/

/-- A step carries out the command at the front of the queue, with the rest of the queue left waiting;
with no command waiting the unit idles, which is the model's choice (notes/assumptions/1.md). -/
def Obligations.StepRunsFront : Prop :=
  (∀ (c : Instr) (rest : List Instr) (s : State), s.pending = c :: rest →
    step s = exec c { s with pending := rest }) ∧
  ∀ s : State, s.pending = [] → step s = .next s

/-- No command stops the unit, and none touches the commands that wait. -/
def Obligations.EveryCommandAnswers : Prop :=
  ∀ (c : Instr) (s : State), ∃ t, exec c s = .next t ∧ t.pending = s.pending

/-- The laws of one state hold right after a power-on reset.
The model's choice in this: notes/assumptions/51.md. -/
def Obligations.LawsAtReset : Prop :=
  BoundsLaw State.reset ∧ BrakeLaw State.reset ∧ OutputLaw State.reset ∧
    DoorLaw State.reset ∧ GrantLaw State.reset ∧ GateLaw State.reset

/-- Every step keeps the bounds of the transmit queue (with its order of priority), the receive buffer,
the brake records, the passback list and the counts.
The model's choice in this, for the two counts whose rule states no bound: notes/assumptions/72.md. -/
def Obligations.StepKeepsBounds : Prop :=
  ∀ s t : State, BoundsLaw s → step s = .next t → BoundsLaw t

/-- Every step leaves the effective level the greatest of the own demands and the received levels, with
the highest own demand judged (R100, R105). On a step that is no reset and no loss of supply the effective
level falls only at standstill, and it does not fall where no BRAKE RESET is held or on the bus that could
be accepted: the first law of R105. -/
def Obligations.StepKeepsBrakeLaw : Prop :=
  ∀ s t : State, BrakeLaw s → step s = .next t → BrakeLaw t ∧
    ((∀ (c : Instr) (rest : List Instr), s.pending = c :: rest → isResetCommand c = false) →
      (t.brake.effective < s.brake.effective → t.meas.standstill = true) ∧
      ((∀ f ∈ s.bus.rx, f.payload.kind ≠ .brakeReset) →
        (∀ f, s.bus.queue.find? (·.onBus) = some f → f.payload.kind ≠ .brakeReset) →
        s.brake.effective ≤ t.brake.effective))

/-- Every step keeps each of these laws of the device. Each output shows what its signal gives, and the
analog output its code (R176 to R178). A CAR asks for a door release output only at standstill, of a
RELEASED side whose held grant the berth shows or of an EVACUATION side at level 2 or more (R145, R146,
R151, R152). A record of a BERTH is GRANTED only with presence (R149). The unannounced and pending places
of a GATE lie within its allowance (R165).
The model's choice in this: notes/assumptions/50.md. -/
def Obligations.StepKeepsOutputLaw : Prop :=
  ∀ s t : State, step s = .next t →
    (OutputLaw s → OutputLaw t) ∧ (DoorLaw s → DoorLaw t) ∧ (GrantLaw s → GrantLaw t) ∧
      (GateLaw s → GateLaw t)

/-- At level 2 or more no output gives drive enable or the safety brake hold, at level 3 none the track
brake hold (R99); without the output hold timer running none gives any safety hold signal (R177). A door
release output of a CAR is energised only at standstill, with a confirmed grant that the berth shows or for
an evacuation at level 2 or more (R146, R151). -/
def Obligations.SafetyOutputsWithheld : Prop :=
  (∀ (s : State) (i : Nat) (o : OutputConfig) (d : Side), OutputLaw s → DoorLaw s → s.role = .car →
    s.outputMap[i]? = some o →
    o.signal = some (match d with | .left => .doorReleaseLeft | .right => .doorReleaseRight) →
    s.term.energised[i]? = some true →
    s.meas.standstill = true ∧
      ((s.side d).state = .released ∧ (s.side d).confirmed = true ∧ s.heldGrantShown = true ∨
        (s.side d).state = .evacuation ∧ 2 ≤ s.brake.effective)) ∧
  ∀ (s : State) (i : Nat) (o : OutputConfig) (sig : Signal), OutputLaw s →
    s.outputMap[i]? = some o → o.signal = some sig → o.inverted = false →
    ((sig = .driveEnable ∨ sig = .safetyBrakeHold) ∧ 2 ≤ s.brake.effective ∨
      sig = .trackBrakeHold ∧ 3 ≤ s.brake.effective ∨
      isSafetyHold sig = true ∧ s.term.hold.isRunning = false) →
    s.term.energised[i]? = some false ∧ s.term.outOn[i]? = some false

/-- Outside LISTENING, OPERATING and ADDRESS_CONFLICT the commands of the blocks that run only there pass
time and do nothing else; no attempt is in progress there. For the configuration read and CONFIG_FAULT this
is R57, R60 and R183. That it holds also without supply and in reset, where the clock runs on, is the
model's choice (notes/assumptions/28.md), as it is that commands carry time (notes/assumptions/1.md). -/
def Obligations.NotRunningIgnores : Prop :=
  ∀ (c : Instr) (s : State), s.running = false → s.bus.attempt = none → actsAlways c = false →
    ∃ t, exec c s = .next t ∧ SettledFrom (s.advance (commandTime c)) t

/-- An expiry, a sample event or a service of a timer that has not fallen due passes time and does nothing
else. That commands arrive so is the model's convention (notes/assumptions/1.md). -/
def Obligations.EarlyExpiryPassesTime : Prop :=
  ∀ (dt i : Nat) (k : StateKind) (r : BitVec 16) (s : State),
    let n := s.advance dt
    let passes := fun (c : Instr) => ∃ t, exec c s = .next t ∧ SettledFrom n t
    (n.due s.sampleDue = false → passes (.sampleEvent dt r)) ∧
    (n.due s.listenDue = false → passes (.listeningTimerExpiry dt)) ∧
    (n.due (s.bus.periodDue.getD k.index none) = false → passes (.statePeriodExpiry dt k)) ∧
    (n.due (s.brake.proof.map (·.due)) = false → passes (.brakeProofTimerExpiry dt)) ∧
    (n.due (s.term.debounceDue.getD i none) = false → passes (.debounceTimerExpiry dt i)) ∧
    (n.due s.trip.dwellDue = false → passes (.dwellTimerExpiry dt)) ∧
    (n.due s.trip.doorCloseDue = false → passes (.doorCloseTimerExpiry dt)) ∧
    (n.due s.trip.retryDue = false → passes (.retryTimerExpiry dt)) ∧
    (n.due s.trip.torqueDue = false → passes (.torqueProofTimerExpiry dt)) ∧
    (n.due s.door.repeatDue = false → passes (.repeatTimerExpiry dt)) ∧
    (n.due s.door.confirmDue = false → passes (.confirmationTimerExpiry dt)) ∧
    (n.due s.grant.discardDue = false → passes (.discardTimerExpiry dt)) ∧
    (n.ticketHoldDue = false → passes (.holdTimerExpiry dt)) ∧
    (n.passageDue = false → passes (.passageTimerExpiry dt)) ∧
    (n.due s.gate.redDue = false → passes (.redIndicatorTimerExpiry dt)) ∧
    (n.holdDue = false → passes (.outputHoldTimerExpiry dt))

/-! ## Resets and start-up (Chapter 11) -/

/-- POWER_ON_RESET puts every block at its reset value and empties the brake record list; PIN_RESET does
the same and keeps the list (R185). Commands waiting and the levels of the wires stand outside the
unit.
The model's choices in this: notes/assumptions/5.md, notes/assumptions/28.md and notes/assumptions/51.md. -/
def Obligations.ResetsRestart : Prop :=
  ∀ (dt : Nat) (s : State),
    let fresh := { State.reset with
      pending := s.pending, term := { State.reset.term with rawHigh := s.term.rawHigh } }
    (s.resetPin = false → ∃ t, exec (.powerOnReset dt) s = .next t ∧ t = fresh ∧
      t.phase = .starting ∧ t.clock = 0 ∧ t.brake.records = [] ∧ t.brake.effective = 0 ∧
      t.brake.held = none ∧ t.meas.known = false ∧ t.meas.standstill = false ∧
      t.meas.synchronised = false ∧ t.meas.status = .normal ∧ t.prof.setInForce = 1 ∧
      t.prof.notice = none ∧ t.bus.queue = [] ∧ t.bus.rx = [] ∧ t.trip.haulage = .unsynced ∧
      t.trip.trip = none ∧ t.sup.authority = none ∧ t.door.left.state = .locked ∧
      t.door.right.state = .locked ∧ t.grant.state = .none ∧ t.gate.cycle.state = .none ∧
      t.gate.ticket = .none ∧ t.gate.passback = [] ∧ t.term.hold = .stopped ∧
      (∀ e ∈ t.peers, e.freshness = .unknown) ∧ (∀ n ∈ t.counts, n = 0)) ∧
    (s.phase ≠ .unpowered → ∃ t, exec (.pinReset dt) s = .next t ∧
      t = { fresh with brake := { State.reset.brake with records := s.brake.records } })

/-- While the reset terminal is active and while the supply is below its working level the unit stands
still with every block at its reset value, every output off and the brake record list kept (R185);
a supply that comes back while the terminal is active leaves the unit in reset.
The model's choices in this: notes/assumptions/5.md, notes/assumptions/28.md and notes/assumptions/51.md. -/
def Obligations.StopsAtOnce : Prop :=
  ∀ (dt : Nat) (s : State),
    let stopped := fun (phase : Phase) (pin : Bool) (records : List BrakeRecord) =>
      { State.reset with
        pending := s.pending, phase := phase, resetPin := pin
        term := { State.reset.term with rawHigh := s.term.rawHigh }
        brake := { State.reset.brake with records := records } }
    (s.phase ≠ .unpowered →
      exec (.resetTerminalActive dt) s = .next (stopped .inReset true s.brake.records)) ∧
    (s.phase = .unpowered →
      exec (.resetTerminalActive dt) s = .next { s.advance dt with resetPin := true }) ∧
    exec (.supplyBelowWorkingLevel dt) s = .next (stopped .unpowered s.resetPin s.brake.records) ∧
    (s.resetPin = true → exec (.powerOnReset dt) s = .next (stopped .inReset true [])) ∧
    (s.phase = .unpowered →
      exec (.pinReset dt) s = .next { s.advance dt with resetPin := false })

/-- An image that passes every check gives the unit its constants and profile, and leads to LISTENING
with START latched at level 2 or more, the LISTENING timer at 500 ms and the first sample taken (R101,
R182, R184).
The model's choices in this: notes/assumptions/7.md and notes/assumptions/10.md. -/
def Obligations.ConfigurationAccepted : Prop :=
  ∀ (dt clock : Nat) (pending : List Instr) (raw : List Bool) (records : List BrakeRecord)
    (image : Image) (reading : BitVec 16) (id : Identity),
    checkImage image = none → imageIdentity image = some id →
    let s := { State.afterReset pending .starting false raw records with clock := clock }
    let cfg := imageConfig image id
    ∃ t, exec (.configurationReadComplete dt image reading) s = .next t ∧
      t.phase = .configured .listening ∧ t.cfg = some cfg ∧ t.failure = none ∧
      t.prof.merged = cfg.mergedList ∧ t.prof.digest = cfg.computeDigest ∧
      t.listenDue = some (clock + dt + 500000) ∧
      t.sampleDue = some (clock + dt + 1000 * image.samplePeriod) ∧
      t.meas.lastSample = some (clock + dt) ∧
      2 ≤ t.latched .start ∧ 2 ≤ t.brake.effective ∧ t.brake.held = none ∧
      t.pending = pending ∧ t.term.rawHigh = raw ∧ t.resetPin = false

/-- An image that fails a check leads to CONFIG_FAULT: the failing check is kept, START is latched at
level 2 with its brake record, no block takes a constant, no frame is queued and every output stays off
(R101, R182, R183).
The model's choice in this: notes/assumptions/7.md. -/
def Obligations.ConfigurationRefused : Prop :=
  ∀ (dt clock : Nat) (pending : List Instr) (raw : List Bool) (records : List BrakeRecord)
    (image : Image) (reading : BitVec 16) (f : CheckFailure),
    checkImage image = some f →
    let s := { State.afterReset pending .starting false raw records with clock := clock }
    ∃ t, exec (.configurationReadComplete dt image reading) s = .next t ∧
      t.phase = .configured .configFault ∧ t.failure = some f ∧ t.cfg = none ∧
      t.latched .start = 2 ∧ t.brake.effective = 2 ∧
      t.brake.records = (BrakeRecord.mk .start 2 none 0 none (s.advance dt).unitTime
        :: records).take 16 ∧
      t.bus = s.bus ∧ t.term = s.term ∧ t.meas = s.meas ∧ t.trip = s.trip ∧ t.door = s.door ∧
      t.gate = s.gate ∧ t.grant = s.grant ∧ t.sup = s.sup ∧ t.prof = s.prof ∧ t.peers = s.peers ∧
      t.counts = s.counts ∧ t.pending = pending

/-- LISTENING_TIMER_EXPIRY leads from LISTENING to OPERATING (R184). -/
def Obligations.ListeningEnds : Prop :=
  ∀ (dt : Nat) (s : State), s.phase = .configured .listening →
    (s.advance dt).due s.listenDue = true →
    ∃ t, exec (.listeningTimerExpiry dt) s = .next t ∧
      SettledFrom { s.advance dt with phase := .configured .operating, listenDue := none } t

/-! ## Measurement (Chapter 2) -/

/-- An edge moves the accumulator of its channel by the count length, forward or backward by its direction
sense, and gives the channel its interval; an illegal transition moves nothing, its time being kept and
counted; 500 ms after the last edge the interval is void, and the next edge does not make it valid. Nothing
else changes (R19, R23). The channels count at all times: before an image has passed the accumulator holds
edges, and the accepted image gives them their count length and direction sense.
The model's choices in this: notes/assumptions/42.md, notes/assumptions/47.md and notes/assumptions/64.md. -/
def Obligations.QuadratureChannels : Prop :=
  (∀ (ch : ChannelId) (c : UnitConfig) (s : State),
    let t := s.takeConfig c
    let raw := s.meas.channel ch
    t.meas.channel ch = { raw with
      acc := if t.senseInverted ch = true then -(raw.acc * t.countLength ch)
        else raw.acc * t.countLength ch
      forward := raw.forward != t.senseInverted ch }) ∧
  ∀ (dt : Nat) (ch : ChannelId) (s : State), s.alive = true →
    let now := s.clock + dt
    let len : Int := if s.cfg.isSome = true then s.countLength ch else 1
    (∀ tr : QuadTransition, tr ≠ .bothChanged →
      let forward := decide (tr = .normalOrder) != s.senseInverted ch
      ∃ t, exec (.quadratureTransition dt ch tr) s = .next t ∧
        SettledFrom ((s.advance dt).setChannel ch (fun c => { c with
          acc := if forward = true then c.acc + len else c.acc - len
          interval := match c.lastEdge with
            | some e => if c.edgeOpen = true ∧ now < e + 500000 then some (now - e) else none
            | none => none
          lastEdge := some now, edgeOpen := true, forward := forward, edges := c.edges + 1 })) t) ∧
    (∃ t, exec (.quadratureTransition dt ch .bothChanged) s = .next t ∧
      SettledFrom (((s.advance dt).setChannel ch (fun c => { c with
        illegalTimes := (now :: c.illegalTimes).take 16 })).bump (illegalCount ch)) t) ∧
    (∀ e : Nat, (s.meas.channel ch).lastEdge = some e →
      ∃ t, exec (.edgeIntervalVoid dt ch) s = .next t ∧
        SettledFrom
          (if e + 500000 ≤ now then
            (s.advance dt).setChannel ch (fun c => { c with interval := none, edgeOpen := false })
          else s.advance dt) t)

/-- A sample event that is due restarts the output hold timer at 3 × T_s, reads the analog input, puts the
next sample T_s later, and starts a new sample in both channels with the accumulators as they stand
(R20, R177, R184). At a CAR it decides the set in force and the trip of the CAR's MOTION: the stored
notice's where the FRESH DRIVE shows the trip of that notice, and else set 1 and no trip (R16). A CAR of
unknown position adopts at standstill the h of a FRESH DRIVE that is synchronised and at standstill, with u
500 mm above the DRIVE's; otherwise its position stays unknown (R33). At a known position END_OF_TRACK is
present exactly when the unclamped position lies off the track, and POSITION_DEGRADED exactly above u_max;
newly present they are raised at levels 2 and 1 (R29, R34). A CAR of known position forms its expected mark
anew where the sign of v differs from the one remembered; else it misses the expected mark when it lies
beyond it by more than the capture window, and the second miss in a row raises MISSED_MARKS at level 1
(R31).
The model's choices in this: notes/assumptions/10.md, notes/assumptions/21.md, notes/assumptions/54.md and
notes/assumptions/67.md. -/
def Obligations.SampleRestarts : Prop :=
  ∀ (dt : Nat) (reading : BitVec 16) (s : State), s.running = true →
    (s.advance dt).due s.sampleDue = true →
    let now := s.clock + dt
    ∃ t, exec (.sampleEvent dt reading) s = .next t ∧
      t.clock = now ∧ t.sampleDue = some (now + 1000 * s.conf.samplePeriod) ∧
      t.term.hold = .running (now + 1000 * (3 * s.conf.samplePeriod)) ∧
      t.term.analogIn = reading.toInt ∧ t.meas.lastSample = some now ∧
      t.meas.e0.acc = s.meas.e0.acc ∧ t.meas.e0.accAtSample = s.meas.e0.acc ∧
      t.meas.e0.edges = 0 ∧ t.meas.e1.acc = s.meas.e1.acc ∧
      t.meas.e1.accAtSample = s.meas.e1.acc ∧ t.meas.e1.edges = 0 ∧
      t.phase = s.phase ∧ t.cfg = s.cfg ∧ t.pending = s.pending ∧ t.answers = s.answers ∧
      t.term.debounced = s.term.debounced ∧ t.term.rawHigh = s.term.rawHigh ∧
      t.meas.lastSign = (if 20 ≤ t.meas.v.natAbs then some (decide (0 < t.meas.v))
        else s.meas.lastSign) ∧
      (s.role = .car → t.prof.notice = s.prof.notice ∧
        (∀ (x : TripRef) (n : TripNotice), s.driveTrip = some x → s.prof.notice = some n →
          x.number = n.number →
          t.prof.setInForce = n.set ∧
          t.prof.carTrip = some { number := n.number, revision := n.revision }) ∧
        ((∀ (x : TripRef) (n : TripNotice), s.driveTrip = some x → s.prof.notice = some n →
            x.number ≠ n.number) →
          t.prof.setInForce = 1 ∧ t.prof.carTrip = none)) ∧
      (s.role = .car →
        (s.meas.known = true → t.meas.known = true) ∧
        (s.meas.known = false → t.meas.standstill = false → t.meas.known = false) ∧
        (s.meas.known = false → t.meas.standstill = true →
          (∀ (m : Motion) (h : Nat), s.driveMotion = some m → m.synchronised = true →
            m.standstill = true → m.h = some h → h ≤ s.conf.lineLength →
            t.meas.known = true ∧ t.meas.h = h ∧ t.meas.u = min 65535 (m.u + 500) ∧
              t.meas.residue = 0 ∧
              t.meas.acc = ((match s.conf.car with
                | .a => h
                | .b => s.conf.lineLength - h : Nat) : Int) * 1000 ∧
              t.meas.expected = firstAhead (s.conf.candidates s.conf.car) t.ownTrack t.ownTravelUp ∧
              t.meas.misses = s.meas.misses) ∧
          ((∀ m, s.driveMotion = some m →
              m.synchronised = false ∨ m.standstill = false ∨ m.h = none) →
            t.meas.known = false))) ∧
      (s.supervises = true → Underway s → t.meas.known = true →
        let raw := s.conf.rawHaul t.meas.acc
        (t.meas.outside = true ↔ raw < 0 ∨ (s.conf.lineLength : Int) < raw) ∧
        (t.meas.degraded = true ↔ s.k .uMax < t.meas.u) ∧
        (BrakeLaw s →
          (t.meas.outside = true → s.meas.outside = false →
            2 ≤ t.latched .endOfTrack ∧ 2 ≤ t.brake.effective) ∧
          (t.meas.degraded = true → s.meas.degraded = false →
            1 ≤ t.latched .positionDegraded ∧ 1 ≤ t.brake.effective))) ∧
      (s.role = .car → s.meas.known = true →
        let marks := s.conf.candidates s.conf.car
        let window := max (s.k .captureWindow) t.meas.u
        let differs := (∃ up, s.meas.lastSign = some up ∧ t.meas.v ≠ 0 ∧ decide (0 < t.meas.v) ≠ up) ∨
          s.meas.lastSign = none ∧ 20 ≤ t.meas.v.natAbs
        (differs → t.meas.expected = firstAhead marks t.ownTrack t.ownTravelUp ∧
          t.meas.expectedUp = t.ownTravelUp ∧ t.meas.misses = s.meas.misses) ∧
        (¬differs → t.meas.expectedUp = s.meas.expectedUp ∧
          (s.meas.expected = none → t.meas.expected = none ∧ t.meas.misses = s.meas.misses) ∧
          ∀ (i : Nat) (m : Mark), s.meas.expected = some i → marks[i]? = some m →
            let beyond := s.meas.expectedUp = true ∧ m.position + window < t.ownTrack ∨
              s.meas.expectedUp = false ∧ t.ownTrack + window < m.position
            (beyond → t.meas.misses = s.meas.misses + 1 ∧
              t.meas.expected = nextMark marks i s.meas.expectedUp ∧
              t.count .missedMarks = (s.bump .missedMarks).count .missedMarks ∧
              (BrakeLaw s → t.meas.misses = 2 →
                1 ≤ t.latched .missedMarks ∧ 1 ≤ t.brake.effective)) ∧
            (¬beyond → t.meas.misses = s.meas.misses ∧ t.meas.expected = some i ∧
              t.count .missedMarks = s.count .missedMarks)))

/-- A due sample measures. Each channel's speed is that of R20: 0 without an edge for 500 ms; with four
edges or more, or a void interval, the change of the accumulator over T_s, rounded toward zero; else the
count length × 1,000 over the larger of the interval and the time since the last edge, with the sign of the
last edge; saturated at ±16,383. A channel in service that meets a loss criterion leaves service; one left
is the reference in FALLBACK, none is NONE with REFERENCE_LOST at level 2 (R23, R24); two in service are
compared, 500 ms of disagreement giving DISAGREE and 500 ms of agreement NORMAL (R25). The published speed
is that of Table 2-3, in the sense of haul position, within ±16,383 mm/s (R26). The position accumulator
moves by the travel of the channel that was the reference in the sample, h is its clamped haul position, and
u grows at a known position by the drift of that travel with its residue carried (R28, R29); for the samples
that set the position anew see O16 and O42. Below 20 mm/s the standstill timer runs and standstill is shown
when it has run 500 ms; at 20 mm/s or more both end (R22).
The model's choices in this: notes/assumptions/4.md, notes/assumptions/20.md and
notes/assumptions/47.md. -/
def Obligations.SampleStandstill : Prop :=
  (∀ (c : Channel) (len period now : Nat),
    let v := c.sampleSpeed len period now
    let saturated := fun (x : Int) => max (-16383) (min 16383 x)
    (c.lastEdge = none → v = 0) ∧
    ∀ e : Nat, c.lastEdge = some e →
      (e + 500000 ≤ now → v = 0) ∧
      (now < e + 500000 →
        (c.interval = none ∨ 4 ≤ c.edges →
          v = saturated ((c.acc - c.accAtSample).tdiv (period : Int))) ∧
        ∀ i : Nat, c.interval = some i → c.edges < 4 → 0 < max i (now - e) →
          let magnitude : Nat := len * 1000 / max i (now - e)
          v = saturated (if c.forward = true then (magnitude : Int) else -(magnitude : Int)))) ∧
  ∀ (dt : Nat) (reading : BitVec 16) (s : State), s.running = true →
    (s.advance dt).due s.sampleDue = true →
    let now := s.clock + dt
    ∃ t, exec (.sampleEvent dt reading) s = .next t ∧
      (∀ ch : ChannelId,
        let c := s.meas.channel ch
        let d := t.meas.channel ch
        d.speed = c.sampleSpeed (s.countLength ch) s.conf.samplePeriod now ∧
        d.zeroSince = (if d.speed = 0 ∧ 200 ≤ (t.meas.channel (otherChannel ch)).speed.natAbs
          then some (c.zeroSince.getD now) else none) ∧
        d.inService = (c.inService && !(d.silentAt now || d.illegalAt now)) ∧
        d.lastFault = (if (d.silentAt now || d.illegalAt now) = true
          then some (s.advance dt).unitTime else c.lastFault)) ∧
      (let lost := ∃ ch, (s.meas.channel ch).inService = true ∧ (t.meas.channel ch).inService = false
       let both := t.meas.e0.inService = true ∧ t.meas.e1.inService = true
       let differ := s.k .disagreeTolerance < (t.meas.e0.speed - t.meas.e1.speed).natAbs
       (lost →
         (∀ ch, (t.meas.channel ch).inService = true →
           t.meas.status = .fallback ∧ t.meas.reference = ch) ∧
         (t.meas.e0.inService = false → t.meas.e1.inService = false →
           t.meas.status = .none ∧ t.meas.reference = s.meas.reference ∧
           (BrakeLaw s → s.supervises = true → Underway s →
             2 ≤ t.latched .referenceLost ∧ 2 ≤ t.brake.effective))) ∧
       (¬lost → t.meas.reference = s.meas.reference ∧
         (¬(s.supervises = true ∧ both) → t.meas.status = s.meas.status) ∧
         (s.supervises = true → both →
           (differ → t.meas.disagreeSince = some (s.meas.disagreeSince.getD now) ∧
             t.meas.agreeSince = none) ∧
           (¬differ → t.meas.disagreeSince = none ∧
             t.meas.agreeSince = some (s.meas.agreeSince.getD now)) ∧
           (s.meas.status = .normal → t.meas.status =
             if ranFor t.meas.disagreeSince now 500 = true then .disagree else .normal) ∧
           (s.meas.status = .disagree → t.meas.status =
             if ranFor t.meas.agreeSince now 500 = true then .normal else .disagree) ∧
           (s.meas.status = .fallback ∨ s.meas.status = .none → t.meas.status = s.meas.status) ∧
           (BrakeLaw s → Underway s → s.meas.status = .normal → t.meas.status = .disagree →
             1 ≤ t.latched .referenceDisagree ∧ 1 ≤ t.brake.effective)))) ∧
      (let reference := (t.meas.channel t.meas.reference).speed
       let other := (t.meas.channel (otherChannel t.meas.reference)).speed
       let larger := if reference.natAbs < other.natAbs then other else reference
       ∃ own : Int,
         t.meas.v = max (-16383) (min 16383 (if s.conf.identity = .car .b then -own else own)) ∧
         (t.meas.status = .normal ∨ t.meas.status = .fallback → own = reference) ∧
         (t.meas.status = .none → own = larger) ∧
         (t.meas.status = .disagree → own.natAbs = larger.natAbs ∧ (0 < reference → 0 ≤ own) ∧
           (reference < 0 → own ≤ 0) ∧ (reference = 0 → 0 ≤ other → 0 ≤ own))) ∧
      (Underway s → (s.role = .car → s.meas.known = true ∨ t.meas.standstill = false) →
        let travel := (s.meas.channel s.meas.reference).acc -
          (s.meas.channel s.meas.reference).accAtSample
        let grown := s.meas.residue + travel.natAbs * s.k .drift
        t.meas.acc = s.meas.acc + travel ∧
        t.meas.h = s.conf.clampPosition (s.conf.rawHaul t.meas.acc) ∧
        t.meas.known = s.meas.known ∧
        (s.meas.known = true → t.meas.u = min 65535 (s.meas.u + grown / 1000000) ∧
          t.meas.residue = grown % 1000000) ∧
        (s.meas.known = false → t.meas.u = s.meas.u ∧ t.meas.residue = s.meas.residue)) ∧
      t.meas.v.natAbs ≤ 16383 ∧
      (20 ≤ t.meas.v.natAbs → t.meas.slowSince = none ∧ t.meas.standstill = false) ∧
      (t.meas.v.natAbs < 20 →
        t.meas.slowSince = some (s.meas.slowSince.getD now) ∧
        t.meas.standstill =
          (s.meas.standstill || decide (s.meas.slowSince.getD now + 500000 ≤ now)))

/-- A channel that meets a loss criterion at the latest sample leaves service: with the other in service
the status is FALLBACK on the other channel; with none it is NONE, and a DRIVE or CAR raises
REFERENCE_LOST at level 2 (R23, R24). The expiries are judged so on the latest sample by the model's
choice (notes/assumptions/8.md), as is notes/assumptions/47.md. -/
def Obligations.ChannelLoss : Prop :=
  ∀ (dt sample : Nat) (ch : ChannelId) (s : State), s.running = true → BrakeLaw s →
    s.meas.lastSample = some sample → (s.meas.channel ch).inService = true →
    let lost := fun (c : Channel) =>
      { c with inService := false, lastFault := some (s.advance dt).unitTime }
    ∀ c : Instr,
      (c = .zeroTimerExpiry dt ch ∧ (s.meas.channel ch).silentAt sample = true ∨
        c = .illegalTransitionLimit dt ch ∧ (s.meas.channel ch).illegalAt sample = true) →
      ((s.meas.channel (otherChannel ch)).inService = true →
        ∃ t, exec c s = .next t ∧
          SettledFrom (((s.advance dt).setMeas (fun m => { m.setChannel ch lost with
            status := .fallback, reference := otherChannel ch
            disagreeSince := none, agreeSince := none })).bump .channelLosses) t) ∧
      ((s.meas.channel (otherChannel ch)).inService = false → s.supervises = true →
        ∃ t, exec c s = .next t ∧
          t.meas = { s.meas.setChannel ch lost with
            status := .none, disagreeSince := none, agreeSince := none } ∧
          t.latched .referenceLost = max (s.latched .referenceLost) 2 ∧ 2 ≤ t.brake.effective)

/-- A disagreement of 500 ms between two channels in service makes the status DISAGREE and raises
REFERENCE_DISAGREE at level 1; an agreement of 500 ms makes it NORMAL again (R25).
The model's choice in this: notes/assumptions/8.md. -/
def Obligations.DisagreementAndAgreement : Prop :=
  ∀ (dt sample : Nat) (s : State), s.running = true → BrakeLaw s →
    s.meas.lastSample = some sample → s.supervises = true →
    s.meas.e0.inService = true → s.meas.e1.inService = true →
    (s.meas.status = .normal → ranFor s.meas.disagreeSince sample 500 = true →
      ∃ t, exec (.disagreementTimerExpiry dt) s = .next t ∧
        t.meas = { s.meas with status := .disagree } ∧
        t.latched .referenceDisagree = max (s.latched .referenceDisagree) 1 ∧
        t.brake.effective = max s.brake.effective 1) ∧
    (s.meas.status = .disagree → ranFor s.meas.agreeSince sample 500 = true →
      ∃ t, exec (.agreementTimerExpiry dt) s = .next t ∧
        SettledFrom ((s.advance dt).setMeas ({ · with status := .normal })) t)

/-- A standstill timer of 500 ms at the latest sample shows standstill, with its time kept for the door
block (R22, R136); a rope-slip timer of the slip time at a CAR raises ROPE_SLIP at level 3 (R92).
The model's choice in this: notes/assumptions/8.md. -/
def Obligations.StandstillAndSlip : Prop :=
  ∀ (dt sample : Nat) (s : State), s.running = true → BrakeLaw s →
    s.meas.lastSample = some sample →
    (s.meas.standstill = false → ranFor s.meas.slowSince sample 500 = true →
      ∃ t, exec (.standstillTimerExpiry dt) s = .next t ∧
        SettledFrom (((s.advance dt).setMeas ({ · with standstill := true })).setDoor
          ({ · with standstillTime := some (s.advance dt).unitTime })) t) ∧
    (s.role = .car → ranFor s.sup.slipSince sample (s.k .slipTime) = true →
      Cause.ropeSlip ∉ s.sup.present →
      ∃ t, exec (.ropeSlipTimerExpiry dt) s = .next t ∧ t.meas = s.meas ∧
        t.sup = { s.sup with present := s.sup.present ++ [.ropeSlip] } ∧
        t.latched .ropeSlip = max (s.latched .ropeSlip) 3 ∧
        t.brake.effective = max s.brake.effective 3)

/-- At a CAR of known position an edge of the mark detector within the capture window of the nearest
candidate sets the position to the mark's, u to the mark tolerance and the misses to 0; one outside it,
or at an unknown position, is counted unexpected (R30). Any other edge passes time.
The model's choices in this: notes/assumptions/18.md and notes/assumptions/21.md. -/
def Obligations.MarkDetector : Prop :=
  ∀ (dt : Nat) (high : Bool) (s : State), s.running = true →
    (s.role = .car → s.markActive high = true → s.meas.known = true →
      ∀ (i : Nat) (m : Mark),
        nearestMark (s.conf.candidates s.conf.car) s.edgeEstimate = some (i, m) →
        (((m.position : Int) - s.edgeEstimate).natAbs ≤ max (s.k .captureWindow) s.meas.u →
          ∃ t, exec (.markDetectorEdge dt high) s = .next t ∧
            t.meas.known = true ∧ t.meas.u = s.k .markTolerance ∧ t.meas.residue = 0 ∧
            t.meas.misses = 0 ∧
            t.meas.h = s.conf.clampPosition (s.conf.rawHaul ((m.position : Int) * 1000)) ∧
            t.meas.acc + (s.meas.channel s.meas.reference).travel = (m.position : Int) * 1000 ∧
            SettledFrom ((s.advance dt).setMeas (fun _ => t.meas)) t) ∧
        (max (s.k .captureWindow) s.meas.u < ((m.position : Int) - s.edgeEstimate).natAbs →
          ∃ t, exec (.markDetectorEdge dt high) s = .next t ∧
            SettledFrom ((s.advance dt).bump .unexpectedMarks) t)) ∧
    (s.role = .car → s.markActive high = true →
      s.meas.known = false ∨
        nearestMark (s.conf.candidates s.conf.car) s.edgeEstimate = none →
      ∃ t, exec (.markDetectorEdge dt high) s = .next t ∧
        SettledFrom ((s.advance dt).bump .unexpectedMarks) t) ∧
    (s.role ≠ .car ∨ s.markActive high = false →
      ∃ t, exec (.markDetectorEdge dt high) s = .next t ∧ SettledFrom (s.advance dt) t)

/-- A load reading becomes kilograms in the two steps of R35: corrected = (r + offset) × gain / 16,384,
toward zero, clamped to 0 to 65,535; load = corrected × grams per count / 1,000, toward zero. At each
sample of a CAR at standstill that load, of the reading taken at the sample, is the newest of the filter,
which holds at most 8 (R36). -/
def Obligations.LoadOfReading : Prop :=
  (∀ (s : State) (r : Int), ∃ corrected : Int,
    corrected = max 0 (min 65535
      (((r + s.conf.const .loadOffset) * (s.k .loadGain : Int)).tdiv 16384)) ∧
    (s.loadOf r : Int) = (corrected * (s.k .gramsPerCount : Int)).tdiv 1000) ∧
  ∀ (dt : Nat) (reading : BitVec 16) (s : State), s.running = true → s.role = .car →
    (s.advance dt).due s.sampleDue = true →
    ∃ t, exec (.sampleEvent dt reading) s = .next t ∧ t.term.analogIn = reading.toInt ∧
      (t.meas.standstill = true →
        t.meas.filter.getLast? = some (s.loadOf reading.toInt) ∧ t.meas.filter.length ≤ 8)

/-- The integer square root is exact, rounded down (00_scope.md, section 6.3), and the curve value is the
greatest speed whose square is within v² + 2·a·d (R82). -/
def Obligations.SquareRootExact : Prop :=
  (∀ x : Nat, isqrt x * isqrt x ≤ x ∧ x < (isqrt x + 1) * (isqrt x + 1)) ∧
  ∀ v a d w : Nat, w ≤ curve v a d ↔ w * w ≤ v * v + 2 * a * d

/-! ## Profile and supervision (Chapters 1 and 5) -/

/-- The boundaries of the merged limit list stand in increasing order without duplicates, and are the
zone boundaries and their mirrors (R5). Consecutive boundaries bound the segments, with the smaller of
the two zone limits of each set (R6). -/
def Obligations.BoundariesSorted : Prop :=
  ∀ c : UnitConfig, c.boundaries.Pairwise (· < ·) ∧
    (∀ p : Nat, p ∈ c.boundaries ↔
      p ∈ c.zoneBoundaries ∨ ∃ q ∈ c.zoneBoundaries, p = c.lineLength - q) ∧
    ∀ i a b : Nat, c.boundaries[i]? = some a → c.boundaries[i + 1]? = some b →
      (c.segmentsOf c.boundaries)[i]? = some
        { start := a, stop := b
          limit0 := min (c.zoneAt a).limit0 (c.zoneAt (c.lineLength - b)).limit0
          limit1 := min (c.zoneAt a).limit1 (c.zoneAt (c.lineLength - b)).limit1 }

/-- Joining a list of segments without gap or overlap leaves no two neighbours with equal limits in both
sets, changes the limit of no haul position in either set, and keeps the list without gap (R7). -/
def Obligations.JoiningKeepsLimits : Prop :=
  ∀ l : List Segment, (∀ g ∈ l, g.start < g.stop) → l.IsChain (fun a b => a.stop = b.start) →
    (joinSegments l).IsChain (fun a b => ¬(a.limit0 = b.limit0 ∧ a.limit1 = b.limit1)) ∧
    (joinSegments l).IsChain (fun a b => a.stop = b.start) ∧
    ((joinSegments l).head?.map (·.start)) = (l.head?.map (·.start)) ∧
    ∀ set h : Nat, (segmentAt (joinSegments l) h).limit set = (segmentAt l h).limit set

/-- v_perm is the smallest of the current limit and the curve values of the points ahead, the authority
end among them (R81 to R83). With offsets in order and limits of 16,000 or below, the thresholds of every
sample stand in order: v_perm ≤ W ≤ S ≤ E ≤ T ≤ 16,383, and v_perm within the current limit (R83). -/
def Obligations.PermittedSpeedLeast : Prop :=
  (∀ (s : State) (set : Nat),
    let c := s.conf.setConstants set
    let r := s.sampleResult set
    c.offW ≤ c.offS → c.offS ≤ c.offE → c.offE ≤ c.offT → s.currentLimit set ≤ 16000 →
    r.vPerm ≤ s.currentLimit set ∧ r.vPerm ≤ r.w ∧ r.w ≤ r.s ∧ r.s ≤ r.e ∧ r.e ≤ r.t ∧
      r.t ≤ 16383) ∧
  ∀ (l : List Segment) (set a h u hEnd : Nat) (d : Direction),
    let v := permittedSpeed l set a h u hEnd d
    let points := segmentPoints l set h d ++ endPoint h hEnd d
    let current := (segmentAt l h).limit set
    v ≤ current ∧ (∀ p ∈ points, v ≤ curve p.2 a (distance p.1 h - u)) ∧
      (v = current ∨ ∃ p ∈ points, v = curve p.2 a (distance p.1 h - u))

/-- A supervision sample of a DRIVE or CAR judges v_perm of its set (R78), the four thresholds as v_perm with
its offset, saturated at 16,383; the speed warning above W; and each cause present exactly as its rule says:
the overspeeds above S, E and T (R83 to R85), OVERRUN (R86), ROLLBACK, for a parked DRIVE above 20 mm/s (R87,
R88), ROPE_SLIP and POSITION_DISAGREE of a CAR against a FRESH DRIVE (R92, R93), DRIVE_SILENT and CAR_SILENT
once armed and moving (R91, R94, R95). A cause newly present is latched at its level, and DRIVE_SILENT asks
for a brake proof (R77, R94). A CAR takes its authority by the table of R90; a DRIVE declares set 1 at the
first sample within its v_perm (R14). SAMPLE_EVENT makes this sample after that of the measurement block,
and where no demand of it rises the trip controller then does what its state does at a sample, in RUNNING,
HOLDING, RECOVERY, STOPPING at standstill and UNSYNCED as the other clauses and O42 say. At each sample event
of a DRIVE neither the held setpoint nor the setpoint of the sample exceeds the v_perm of that sample, the
analog code is that of the sample's setpoint, and the setpoint is 0 in every state whose entry in Table 7-2
is 0 (the law of R126, R129). In RUNNING toward a target the setpoint is formed from the cap, the previous
one and v_perm, the cap being the smallest of its terms (R126); the run ends in STOPPING, with setpoint 0, in
the three cases of R127; without a target the cap is the recovery speed within the line minimum, and the run
ends where a stop matches (R131). In HOLDING that has not come to a stand the setpoint falls by
a_srv × T_s, within v_perm; at standstill it is 0 and nothing is asked for (R127). -/
def Obligations.DriveSupervision : Prop :=
  (∀ (dt : Nat) (reading : BitVec 16) (s : State), s.running = true → s.role = .drive →
    (s.advance dt).due s.sampleDue = true →
    ∃ t r, exec (.sampleEvent dt reading) s = .next t ∧ t.sup.result = some r ∧
      t.trip.setpoint.natAbs ≤ 1000 * r.vPerm ∧ t.trip.latestSetpoint.natAbs ≤ r.vPerm ∧
      t.term.setCode = analogCode t.trip.latestSetpoint (s.k .fullScale) ∧
      (t.trip.rests = true → t.trip.setpoint = 0)) ∧
  (∀ (dt : Nat) (reading : BitVec 16) (s : State), s.running = true → s.supervises = true →
    (s.advance dt).due s.sampleDue = true →
    let x := (((s.advance dt).restartSample reading).sampleMeasurement reading).supervisionSample
    ∃ t, exec (.sampleEvent dt reading) s = .next t ∧
      t.sup = { x.sup with authority := t.sup.authority } ∧
      (s.role = .car → t.sup.authority = x.sup.authority ∧ t.meas = x.meas ∧ t.prof = x.prof) ∧
      (s.role = .drive → x.highestOwn ≤ s.brake.judged → ∀ y : State,
        (s.trip.haulage = .running ∨ s.trip.haulage = .recovery ∧ s.trip.torqueProved = true) ∧
            y = x.runSample ∨
          s.trip.haulage = .holding ∧ y = x.holdSample ∨
          s.trip.haulage = .stopping ∧ x.meas.standstill = true ∧ y = x.completeStop ∨
          s.trip.haulage = .unsynced ∧ y = x.judgeSync →
        t.meas = y.meas ∧ t.trip.haulage = y.trip.haulage ∧ t.trip.trip = y.trip.trip ∧
          t.trip.currentStop = y.trip.currentStop ∧ t.trip.heldDir = y.trip.heldDir ∧
          t.trip.dwellDue = y.trip.dwellDue ∧ t.trip.lastReason = y.trip.lastReason ∧
          t.trip.askEnable = y.trip.askEnable ∧ t.trip.askService = y.trip.askService ∧
          t.sup.authority = y.sup.authority ∧
          t.trip.setpoint = if t.trip.rests = true then 0 else y.trip.setpoint)) ∧
  (∀ (s : State) (r : TripRecord) (w : SupervisionResult), s.trip.trip = some r →
    r.target = none → s.sup.result = some w →
    let set := if r.set = 1 ∨ r.pending = true then 1 else 0
    let cap := s.speedCap r
    let previous := s.trip.setpoint.natAbs
    let risen := previous + s.derate r (s.conf.setConstants set).accel * s.conf.samplePeriod
    let magnitude := min (min (cap * 1000) (if s.sup.warning = true then previous else risen))
      (w.vPerm * 1000)
    let signed : Int := if r.direction = .up then magnitude else -magnitude
    cap = min (s.tripCruise r) (lineMinimum s.prof.merged set) ∧
    (r.recovery = true → s.tripCruise r = s.k .recoverySpeed) ∧
    (s.matchingStops ≠ [] →
      s.runSample = s.setTrip ({ · with haulage := .stopping, setpoint := 0 })) ∧
    (s.matchingStops = [] → s.runSample = s.setTrip ({ · with setpoint := signed }))) ∧
  (∀ (s : State) (r : TripRecord) (k : Nat) (w : SupervisionResult), s.trip.trip = some r →
    r.target = some k → s.sup.result = some w →
    let set := if r.set = 1 ∨ r.pending = true then 1 else 0
    let c := s.conf.setConstants set
    let d := s.dStop k r.direction
    let cap := s.speedCap r
    let previous := s.trip.setpoint.natAbs
    let risen := previous + s.derate r c.accel * s.conf.samplePeriod
    let magnitude := min (min (cap * 1000) (if s.sup.warning = true then previous else risen))
      (w.vPerm * 1000)
    let ends := d ≤ s.k .stopTolerance ∨ (d ≤ s.k .creepDistance ∧ s.presenceAt k = true) ∨
      magnitude = 0
    let signed : Int := if r.direction = .up then magnitude else -magnitude
    (d ≤ s.k .creepDistance → cap = s.k .vCreep) ∧
    (s.k .creepDistance < d → cap ≤ s.tripCruise r ∧
      cap ≤ curve (s.k .vCreep) c.service (d - s.k .creepDistance).toNat ∧
      cap ≤ (segmentAt s.prof.merged s.meas.h).limit set ∧
      (∀ p ∈ segmentPoints s.prof.merged set s.meas.h r.direction,
        cap ≤ curve p.2 c.service (distance p.1 s.meas.h - s.meas.u)) ∧
      (cap = s.tripCruise r ∨
        cap = curve (s.k .vCreep) c.service (d - s.k .creepDistance).toNat ∨
        cap = (segmentAt s.prof.merged s.meas.h).limit set ∨
        ∃ p ∈ segmentPoints s.prof.merged set s.meas.h r.direction,
          cap = curve p.2 c.service (distance p.1 s.meas.h - s.meas.u))) ∧
    (ends → s.runSample = s.setTrip ({ · with haulage := .stopping, setpoint := 0 })) ∧
    (¬ends → s.runSample = s.setTrip ({ · with setpoint := signed })) ∧
    (s.meas.standstill = false →
      (s.holdSample).trip.setpoint.natAbs =
        min (previous - c.service * s.conf.samplePeriod) (w.vPerm * 1000)) ∧
    (s.meas.standstill = true → s.holdSample = s.setTrip ({ · with
      haulage := .holding, setpoint := 0, askService := false, askEnable := false }))) ∧
  ∀ s : State, s.supervises = true →
    ∃ r : SupervisionResult, s.supervisionSample.sup.result = some r ∧
      (let t := s.supervisionSample
       let c := s.conf.setConstants r.set
       let newly := fun (c : Cause) => c ∈ t.sup.present ∧ c ∉ s.sup.present
       r.set = (if s.role = .drive then
         (match t.trip.trip with
          | some x => x.set
          | none => 1) else t.prof.setInForce) ∧
       r.vPerm = t.samplePermitted r.set ∧
       r.w = min 16383 (r.vPerm + c.offW) ∧ r.s = min 16383 (r.vPerm + c.offS) ∧
       r.e = min 16383 (r.vPerm + c.offE) ∧ r.t = min 16383 (r.vPerm + c.offT) ∧
       t.sup.warning = decide (r.w < s.absV) ∧
       (Cause.overspeedService ∈ t.sup.present ↔ r.s < s.absV) ∧
       (Cause.overspeedSafety ∈ t.sup.present ↔ r.e < s.absV) ∧
       (Cause.overspeedTrack ∈ t.sup.present ↔ r.t < s.absV) ∧
       (r.w < s.absV → s.sup.warning = false →
         t.count .speedWarnings = (s.bump .speedWarnings).count .speedWarnings) ∧
       (Cause.overrun ∈ t.sup.present ↔ ∃ a, t.sup.authority = some a ∧ s.meas.known = true ∧
         (a.direction = .up ∧ a.hEnd < s.meas.h ∨ a.direction = .down ∧ s.meas.h < a.hEnd)) ∧
       (Cause.rollback ∈ t.sup.present ↔
         if s.role = .drive ∧ s.trip.haulage = .parked then 20 < s.absV
         else ∃ a, t.sup.authority = some a ∧ s.k .rollbackTolerance < s.absV ∧
           (a.direction = .up ∧ s.meas.v < 0 ∨ a.direction = .down ∧ 0 < s.meas.v)) ∧
       (s.role = .car → (∃ m, s.driveMotion = some m ∧
           s.k .slipTolerance < (s.meas.v - m.v).natAbs) →
         t.sup.slipSince = some (s.sup.slipSince.getD s.clock)) ∧
       (¬(s.role = .car ∧ ∃ m, s.driveMotion = some m ∧
           s.k .slipTolerance < (s.meas.v - m.v).natAbs) → t.sup.slipSince = none) ∧
       (Cause.ropeSlip ∈ t.sup.present ↔ s.role = .car ∧
         ∃ since, t.sup.slipSince = some since ∧ since + 1000 * s.k .slipTime ≤ s.clock) ∧
       (Cause.positionDisagree ∈ t.sup.present ↔ s.role = .car ∧ s.meas.known = true ∧
         ∃ m h, s.driveMotion = some m ∧ m.h = some h ∧
           s.meas.u + m.u + s.k .ropeStretch < distance s.meas.h h) ∧
       t.sup.armed = (s.sup.armed || s.meas.standstill || decide (20 ≤ s.absV)) ∧
       (Cause.driveSilent ∈ t.sup.present ↔ s.role = .car ∧ t.sup.armed = true ∧
         s.meas.standstill = false ∧ s.fresh .drive = none) ∧
       (Cause.carSilent ∈ t.sup.present ↔ s.role = .drive ∧ t.sup.armed = true ∧
         s.meas.standstill = false ∧ ¬(s.carFresh .a = true ∧ s.carFresh .b = true)) ∧
       t.sup.lastDir = (if 20 ≤ s.absV then (if 0 < s.meas.v then .up else .down)
         else s.sup.lastDir) ∧
       (BrakeLaw s → ∀ c ∈ demandCauses,
         (newly c → 1 ≤ t.latched c ∧
           (c = .overspeedSafety ∨ c = .overrun ∨ c = .rollback → 2 ≤ t.latched c) ∧
           (c = .overspeedTrack ∨ c = .ropeSlip → 3 ≤ t.latched c)) ∧
         (¬newly c → t.latched c = s.latched c)) ∧
       t.brake.proof = (if newly .driveSilent ∧ s.brake.proof = none then
         some { level := 1, speed := s.absV, due := s.clock + 1000 * s.k .proofTime }
         else s.brake.proof) ∧
       (s.role = .car →
         (s.fresh .drive = none → t.sup.authority = s.sup.authority) ∧
         (s.fresh .drive ≠ none → s.driveTrip = none → t.sup.authority = none) ∧
         ∀ x, s.driveTrip = some x →
           (∀ n, s.prof.notice = some n → n.number = x.number → t.sup.authority =
             some { hEnd := n.hEnd, direction := n.direction, trip := n.number }) ∧
           ((∀ n, s.prof.notice = some n → n.number ≠ x.number) → t.sup.authority =
             s.sup.authority.filter (fun a => a.trip == x.number))) ∧
       (s.role = .drive → t.sup.authority = s.sup.authority ∧
         (∀ x, s.trip.trip = some x → x.pending = true → s.absV ≤ s.samplePermitted 1 →
           t.trip.trip = some { x with
             set := 1, pending := false, revision := (x.revision + 1) % 16 }) ∧
         ((∀ x, s.trip.trip = some x → x.pending = false ∨ s.samplePermitted 1 < s.absV) →
           t.trip = s.trip)) ∧
       t.meas = s.meas ∧ t.door = s.door ∧ t.grant = s.grant ∧ t.gate = s.gate ∧
       t.peers = s.peers)

/-! ## The line bus (Chapter 3) -/

/-- In OPERATING with no attempt in progress and no BRAKE RESET held in the receive buffer, an idle offers
the head of the queue: its attempt begins, with the unit state of a STATE frame filled (R42, R47); an
empty queue offers nothing. An idle bus gives the receiver of a running unit its footing (R39).
The model's choice in this: notes/assumptions/11.md. -/
def Obligations.OfferTakesHead : Prop :=
  (∀ (dt : Nat) (s : State), s.running = true →
    ∃ t, exec (.busIdle dt) s = .next t ∧
      SettledFrom ((s.advance dt).setBus ({ · with footing := true })) t) ∧
  ∀ (dt : Nat) (s : State), s.operating = true → s.bus.attempt = none → s.heldOff = false →
    (∀ (f : TxFrame) (rest : List TxFrame), s.bus.queue = f :: rest →
      ∃ t, exec (.offerToArbitration dt) s = .next t ∧
        SettledFrom ((s.advance dt).setBus (fun b => { b with
          footing := true, abortPlaced := false
          queue := { f with onBus := true } :: rest
          attempt := some { f with
            payload := f.payload.withUnitState (some .operating), onBus := true } })) t) ∧
    (s.bus.queue = [] → ∃ t, exec (.offerToArbitration dt) s = .next t ∧
      SettledFrom ((s.advance dt).setBus ({ · with footing := true })) t)

/-- Arbitration lost: the frame keeps its place and its count of failed attempts, and waits for the next
idle (R43, R45). -/
def Obligations.ArbitrationLost : Prop :=
  ∀ (dt : Nat) (s : State), s.bus.attempt.isSome = true →
    ∃ t, exec (.arbitrationLoss dt) s = .next t ∧
      SettledFrom (((s.advance dt).bump .arbitrationLosses).setBus (fun b => { b with
        attempt := none, queue := b.queue.map (fun f => { f with onBus := false }) })) t

/-- A bit error and a recessive ack slot are each one failed attempt: a frame within the retry limit, and
any BRAKE ORDER, stays with one failed attempt more; a STATE or CONTROL frame beyond the limit is given up,
and its block is told "not sent" (R44 to R46). A bit error in the source field or a later one that is not
the third of its run puts the conflict run up by one, one before it leaves the run; a recessive ack slot
ends the run (R58), and under an ADMISSION REPORT of a GATE puts both cars in doubt and makes the other
gates of a cycle uncertain (R170). The outcome of a frame no longer in the queue is counted and has no other
effect (R45), but for that announcement of a recessive ack slot, which R170 gives each such attempt.
The model's choice in this: notes/assumptions/15.md. -/
def Obligations.FailedAttempt : Prop :=
  ∀ (dt : Nat) (s : State) (a : TxFrame) (field : BitField), s.bus.attempt = some a →
    let told := s.role = .gate ∧ a.payload.kind = .admissionReport
    let ended := fun (x : State) (q : List TxFrame) => x.setBus ({ · with
      attempt := none, queue := q.map (fun g => { g with onBus := false }) })
    let run := if countsForConflict field = true then s.bus.conflictRun + 1 else s.bus.conflictRun
    let erred := ((s.advance dt).bump .bitErrors).setBus ({ · with
      abortPlaced := true, conflictRun := run })
    let unheard := ((s.advance dt).bump .noAckAttempts).setBus ({ · with conflictRun := 0 })
    let counted := countsForConflict field = true → s.bus.conflictRun ≤ 1
    (∀ f : TxFrame, s.bus.queue.find? (·.onBus) = some f →
      let failed := fun (x : State) =>
        if s.givesUp f = true then
          ((ended x (s.bus.queue.eraseP (·.onBus))).bump .giveUps).tellNotSent f.payload
        else ended x (s.bus.queue.map (fun g =>
          if g.onBus = true then { g with failed := g.failed + 1 } else g))
      (counted → ∃ t, exec (.bitError dt field) s = .next t ∧ SettledFrom (failed erred) t) ∧
      (¬told → ∃ t, exec (.noAckAttempt dt) s = .next t ∧ SettledFrom (failed unheard) t) ∧
      (told → ∃ t, exec (.noAckAttempt dt) s = .next t ∧ t.bus.attempt = none ∧
        t.bus.conflictRun = 0 ∧ t.gate.carA.doubt = true ∧ t.gate.carB.doubt = true ∧
        (s.gate.cycle.state ≠ .none → ∀ o ∈ t.gate.cycle.others, o.certain = false) ∧
        t.count .noAckAttempts = (s.bump .noAckAttempts).count .noAckAttempts)) ∧
    (s.bus.queue.find? (·.onBus) = none →
      (counted → ∃ t, exec (.bitError dt field) s = .next t ∧
        SettledFrom (ended erred s.bus.queue) t) ∧
      (¬told → ∃ t, exec (.noAckAttempt dt) s = .next t ∧
        SettledFrom (ended unheard s.bus.queue) t) ∧
      (told → ∃ t, exec (.noAckAttempt dt) s = .next t ∧
        SettledFrom (ended unheard s.bus.queue).gateDoubt t ∧
        t.gate.carA.doubt = true ∧ t.gate.carB.doubt = true) ∧
      (∃ t, exec (.frameSent dt) s = .next t ∧ SettledFrom
        (ended (((s.advance dt).bump .framesSent).setBus ({ · with conflictRun := 0 }))
          s.bus.queue) t))

/-- The third bit error in a row in the source field or a later one leads to ADDRESS_CONFLICT: the cause
is latched at level 2 or more and the CONTROL frames leave the queue (R58).
The model's choice in this: notes/assumptions/14.md. -/
def Obligations.ThirdBitErrorConflict : Prop :=
  ∀ (dt : Nat) (s : State) (field : BitField), BrakeLaw s → s.operating = true →
    s.bus.attempt.isSome = true → s.bus.conflictRun = 2 → countsForConflict field = true →
    ∃ t, exec (.bitError dt field) s = .next t ∧ t.phase = .configured .addressConflict ∧
      t.bus.conflictRun = 3 ∧ t.bus.attempt = none ∧ 2 ≤ t.latched .addressConflict ∧
      2 ≤ t.brake.effective ∧ (∀ f ∈ t.bus.queue, f.isControl = false) ∧
      t.count .bitErrors = (s.bump .bitErrors).count .bitErrors

/-- A dominant ack slot sends the frame: it leaves the queue, and the conflict run ends (R45, R58). An
ADMISSION REPORT sent confirms the admissions of its cycle up to its cumulative count (R168); a BRAKE
RESET sent is judged by its own DRIVE (R108). -/
def Obligations.FrameSentLeaves : Prop :=
  ∀ (dt : Nat) (s : State) (f : TxFrame), s.bus.attempt.isSome = true →
    s.bus.queue.find? (·.onBus) = some f →
    let gone := ((s.advance dt).bump .framesSent).setBus (fun b => { b with
      attempt := none, conflictRun := 0
      queue := (b.queue.eraseP (·.onBus)).map (fun g => { g with onBus := false }) })
    (¬(s.role = .gate ∧ f.payload.kind = .admissionReport) →
      ¬(s.role = .drive ∧ f.payload.kind = .brakeReset) →
      ∃ t, exec (.frameSent dt) s = .next t ∧ SettledFrom gone t) ∧
    (∀ number : Nat, s.role = .drive → f.payload = .brakeReset number →
      ∃ t, exec (.frameSent dt) s = .next t ∧ SettledFrom (gone.judgeReset number) t) ∧
    (∀ (c : Common) (a : AdmissionReport), s.role = .gate → f.payload = .admissionReport c a →
      (∀ x due, s.gate.ticket ≠ .held x due) → a.cycle.isSome = true →
      a.cycle = s.gate.cycle.ref → s.gate.cycle.confirmed < a.cumulative →
      ∃ t, exec (.frameSent dt) s = .next t ∧
        SettledFrom (gone.setCycle (fun y => { y with
          confirmed := a.cumulative
          unannounced := y.unannounced.filter (fun e => decide (a.cumulative < e.cumulative)) })) t)

/-- A frame judged correct is acknowledged in OPERATING alone and stored last in the receive buffer; with
the own address it is counted and discarded; an erroneous one is counted by its kind and leaves nothing
but, at a GATE, the doubt about both cars (R40, R53, R55, R57, R170).
The model's choices in this: notes/assumptions/9.md and notes/assumptions/12.md. -/
def Obligations.FrameJudged : Prop :=
  ∀ (dt : Nat) (raw : RawFrame) (s : State), s.receives = true →
    let n := (s.advance dt).setBus ({ · with ackDriven := s.operating })
    (∀ f : Frame, raw.judge = .correct f →
      (f.source = s.conf.address →
        ∃ t, exec (.frameComplete dt raw) s = .next t ∧ SettledFrom (n.bump .ownAddress) t) ∧
      (f.source ≠ s.conf.address → s.bus.rx.length < 16 →
        ∃ t, exec (.frameComplete dt raw) s = .next t ∧
          SettledFrom (n.setBus ({ · with rx := s.bus.rx ++ [f] })) t)) ∧
    (∀ (e : ReceiveError) (c : Instr),
      (c = .receiveError dt e ∨ c = .frameComplete dt raw ∧ raw.judge = .error e) →
      (s.role ≠ .gate → ∃ t, exec c s = .next t ∧
        SettledFrom (((s.advance dt).bump (errorCount e)).setBus
          ({ · with ackDriven := false })) t) ∧
      (s.role = .gate → ∃ t, exec c s = .next t ∧ t.bus.rx = s.bus.rx ∧
        t.count (errorCount e) = (s.bump (errorCount e)).count (errorCount e) ∧
        t.gate.carA.doubt = true ∧ t.gate.carB.doubt = true ∧ t.gate.ticket = s.gate.ticket))

/-- A correct frame that finds the receive buffer full causes a slip: of the 17 frames the oldest held one
of the lowest class present is dropped, or the arriving one where it is alone in that class. The slip is
counted, and a GATE holds every other gate uncertain and both cars in doubt (R54, R170). -/
def Obligations.SlipDropsLowest : Prop :=
  ∀ (dt : Nat) (raw : RawFrame) (f : Frame) (s : State), s.receives = true →
    s.bus.rx.length = 16 → raw.judge = .correct f → f.source ≠ s.conf.address →
    ∃ t, exec (.frameComplete dt raw) s = .next t ∧
      t.count .slips = (s.bump .slips).count .slips ∧
      (s.role = .gate → t.gate.carA.doubt = true ∧ t.gate.carB.doubt = true ∧
        (s.gate.cycle.state ≠ .none → ∀ o ∈ t.gate.cycle.others, o.certain = false)) ∧
      ((∀ g ∈ s.bus.rx, g.payload.cls.code < f.payload.cls.code) → t.bus.rx = s.bus.rx) ∧
      (∀ (before after : List Frame) (g : Frame), s.bus.rx = before ++ g :: after →
        (∀ x ∈ before, x.payload.cls.code < g.payload.cls.code) →
        (∀ x ∈ after, x.payload.cls.code ≤ g.payload.cls.code) →
        f.payload.cls.code ≤ g.payload.cls.code →
        t.bus.rx = before ++ after ++ [f])

/-- TAKE_FRAME takes the oldest frame of the receive buffer (R53, R56): a CONTROL frame that repeats the
number last applied for its source and kind within 400 ms is counted and discarded; a BRAKE ORDER raises
its source's row and the effective level to its level (R70, R104, R105); a STATE frame renews its source's
announcement, digest and age (R62). At a GATE this is stated while no ticket is held, since one that is
held is decided anew, every frame held having been applied (R163). At a CAR a TRIP NOTICE of the DRIVE that
is consistent with the stop plan replaces the notice stored, and another is counted as rejected (R15); a
FRESH MOTION of the DRIVE that shows UNSYNCED, or a trip that is neither the stored one nor the one before
it, empties the notice store, and any other leaves it (R17). A CONTROL frame that names the unit, from a
FRESH source that announces the identity required, has the effect of its kind: the judgement of a BRAKE
RESET at every unit, of a TRIP NOTICE, an EVACUATION ORDER, a RELEASE GRANT, a RELEASE REFUSAL or the
withdrawal of a berth at a CAR, of an EVACUATION REPLY at the DRIVE, of a RELEASE REQUEST or the withdrawal
of a car at a BERTH; from any other source it is counted unrouted, and one that does not name the unit does
neither (R71, R72). This is stated where the source's freshness stays as it is and no entry is in CONFLICT.
The model's choices in this: notes/assumptions/33.md, notes/assumptions/53.md and
notes/assumptions/58.md. -/
def Obligations.FrameTaken : Prop :=
  (∀ (dt : Nat) (s : State) (f : Frame) (rest : List Frame), s.running = true →
    s.bus.rx = f :: rest → (∀ x due, s.gate.ticket ≠ .held x due) → f.payload.cls = .control →
    (s.advance dt).duplicate f = false → f.source < s.peers.length →
    s.judgeFreshness f.source = (s.entry f.source).freshness →
    (∀ p ∈ s.peers, p.freshness ≠ .conflict) →
    let e := s.entry f.source
    let own := s.conf.identity
    let n := s.advance dt
    let heard := (({ n with bus := { s.bus with rx := rest } } : State).passControl f).setEntry
      f.source ({ · with age := some n.unitTime })
    let routed := fun (required : Identity) (effect t : State) =>
      (e.freshness = .fresh ∧ e.announcement = some required → SettledFrom effect t) ∧
      (¬(e.freshness = .fresh ∧ e.announcement = some required) →
        SettledFrom (heard.bump .unroutedFrames) t)
    ∃ t, exec (.takeFrame dt) s = .next t ∧
      (∀ number, f.payload = .brakeReset number → routed .drive (heard.judgeReset number) t) ∧
      (∀ m, f.payload = .tripNotice m →
        (s.role = .car → routed .drive (heard.takeNotice m) t) ∧
        (s.role ≠ .car → SettledFrom heard t)) ∧
      (∀ car side, f.payload = .evacuationOrder car side →
        (own = .car car → routed .drive (heard.takeEvacuation side) t) ∧
        (own ≠ .car car → SettledFrom heard t)) ∧
      (∀ car side result, f.payload = .evacuationReply car side result →
        (own = .drive → routed (.car car) (heard.recordReply car side result) t) ∧
        (own ≠ .drive → SettledFrom heard t)) ∧
      (∀ berth car side number, f.payload = .releaseRequest berth car side number →
        (own = .berth berth → routed (.car car) (heard.takeRequest car side number) t) ∧
        (own ≠ .berth berth → SettledFrom heard t)) ∧
      (∀ berth car side number grantId, f.payload = .releaseGrant berth car side number grantId →
        (own = .car car →
          routed (.berth berth) (heard.takeGrant berth side number grantId) t) ∧
        (own ≠ .car car → SettledFrom heard t)) ∧
      (∀ berth car number reason, f.payload = .releaseRefusal berth car number reason →
        (own = .car car →
          routed (.berth berth) (heard.takeRefusal berth number reason) t) ∧
        (own ≠ .car car → SettledFrom heard t)) ∧
      (∀ berth car grantId reason, f.payload = .releaseWithdrawal berth car grantId reason →
        (∀ c, e.announcement = some (.car c) →
          (own = .berth berth →
            routed (.car car) (heard.takeCarWithdrawal car grantId reason) t) ∧
          (own ≠ .berth berth → SettledFrom heard t)) ∧
        (∀ b, e.announcement = some (.berth b) →
          (own = .car car → routed (.berth berth) (heard.takeBerthWithdrawal berth grantId) t) ∧
          (own ≠ .car car → SettledFrom heard t)) ∧
        ((∀ c, e.announcement ≠ some (.car c)) → (∀ b, e.announcement ≠ some (.berth b)) →
          (own = .berth berth ∨ own = .car car → SettledFrom (heard.bump .unroutedFrames) t) ∧
          (¬(own = .berth berth ∨ own = .car car) → SettledFrom heard t)))) ∧
  ∀ (dt : Nat) (s : State) (f : Frame) (rest : List Frame), s.running = true →
    s.bus.rx = f :: rest → (∀ x due, s.gate.ticket ≠ .held x due) →
    (∃ t, exec (.takeFrame dt) s = .next t ∧ t.bus.rx = rest) ∧
    (f.payload.cls = .control → (s.advance dt).duplicate f = true →
      ∃ t, exec (.takeFrame dt) s = .next t ∧
        SettledFrom (((s.advance dt).setBus ({ · with rx := rest })).bump .duplicates) t) ∧
    (∀ (level number : Nat) (cause : Cause) (h : Option Nat), BrakeLaw s → f.source < 32 →
      f.payload = .brakeOrder level cause h number →
      ∃ t, exec (.takeFrame dt) s = .next t ∧
        (t.levelRow f.source).order = max (s.levelRow f.source).order level ∧
        level ≤ t.brake.effective ∧
        (f.source < s.peers.length → (t.entry f.source).lastOrder = some (level, cause))) ∧
    (∀ c : Common, f.payload.common = some c → f.source < s.peers.length →
      ∃ t, exec (.takeFrame dt) s = .next t ∧
        (t.entry f.source).announcement = some c.identity ∧
        (t.entry f.source).digest = some c.digest ∧
        (t.entry f.source).age = some (s.advance dt).unitTime ∧
        (t.entry f.source).level = some c.level) ∧
    (∀ n : TripNotice, s.role = .car → f.payload = .tripNotice n →
      (s.advance dt).duplicate f = false → f.source < s.peers.length →
      (s.entry f.source).announcement = some .drive →
      (s.entry f.source).digest = some s.prof.digest → s.heldElsewhere f.source .drive = false →
      let consistent := n.recovery = true ∨ ∃ a b, n.fromStop = some a ∧ n.toStop = some b ∧
        a < s.conf.stops.length ∧ b < s.conf.stops.length ∧ a ≠ b ∧
        n.direction = if s.hStop a < s.hStop b then .up else .down
      ∃ t, exec (.takeFrame dt) s = .next t ∧
        (consistent → t.prof.notice = some n ∧ t.count .rejectedNotices = s.count .rejectedNotices) ∧
        (¬consistent → t.prof.notice = s.prof.notice ∧
          t.count .rejectedNotices = (s.bump .rejectedNotices).count .rejectedNotices)) ∧
    (∀ (c : Common) (m : Motion), s.role = .car → f.payload = .motion c m →
      c.identity = .drive → c.digest = s.prof.digest → f.source < s.peers.length →
      s.heldElsewhere f.source .drive = false →
      let empties := m.status = .haulage .unsynced ∨ ∃ x n, m.trip = some x ∧
        s.prof.notice = some n ∧ x.number ≠ n.number ∧ (x.number + 1) % 256 ≠ n.number
      ∃ t, exec (.takeFrame dt) s = .next t ∧
        (empties → t.prof.notice = none) ∧ (¬empties → t.prof.notice = s.prof.notice))

/-- The period timer of a STATE kind that the role sends queues a frame with the content of the moment and
restarts at 250 ms (R52).
The model's choice in this: notes/assumptions/24.md. -/
def Obligations.StatePeriodQueues : Prop :=
  ∀ (dt : Nat) (k : StateKind) (s : State), s.running = true → k ∈ stateKinds s.role →
    (s.advance dt).due (s.bus.periodDue.getD k.index none) = true →
    s.bus.periodDue.length = 5 → s.bus.lastContent.length = 5 → s.bus.queue.length ≤ 5 →
    ∃ t, exec (.statePeriodExpiry dt k) s = .next t ∧ SettledFrom (s.advance dt) t ∧
      t.bus.periodDue[k.index]? = some (some (s.clock + dt + 250000)) ∧
      t.bus.lastContent[k.index]? = some (some (s.stateContent k)) ∧
      ∃ f ∈ t.bus.queue, f.payload = s.stateContent k ∧ f.failed = 0 ∧ f.onBus = false

/-- An entry that is FRESH and silent for its stale time becomes STALE; one silent for 5,000 ms becomes
LOST; the other entries are as before, where none is in CONFLICT (R64). At a CAR the DRIVE's entry going LOST
empties the notice store (R17). Until then time passes.
The model's choices in this: notes/assumptions/48.md and notes/assumptions/57.md. -/
def Obligations.SilenceTimers : Prop :=
  ∀ (dt addr : Nat) (s : State), s.running = true →
    let e := s.entry addr
    let silence := (s.advance dt).silence e
    (e.freshness = .fresh → e.staleTime ≤ silence →
      ∃ t, exec (.staleTimerExpiry dt addr) s = .next t ∧
        t.peers = s.peers.modify addr ({ · with freshness := .stale }) ∧ t.meas = s.meas ∧
        t.sup = s.sup ∧ t.gate = s.gate ∧ t.prof = s.prof) ∧
    (e.freshness ≠ .fresh ∨ silence < e.staleTime →
      ∃ t, exec (.staleTimerExpiry dt addr) s = .next t ∧ SettledFrom (s.advance dt) t) ∧
    (e.freshness = .fresh ∨ e.freshness = .stale ∨ e.freshness = .mismatched → 5000 ≤ silence →
      (∀ p ∈ s.peers, p.freshness ≠ .conflict) →
      ∃ t, exec (.lostTimerExpiry dt addr) s = .next t ∧
        t.peers = s.peers.modify addr ({ · with freshness := .lost }) ∧ t.meas = s.meas ∧
        t.sup = s.sup ∧ t.gate = s.gate ∧
        t.prof.notice = if s.role = .car ∧ (s.advance dt).answer .drive = some addr then none
          else s.prof.notice) ∧
    (e.freshness = .unknown ∨ e.freshness = .lost ∨ silence < 5000 →
      ∃ t, exec (.lostTimerExpiry dt addr) s = .next t ∧ SettledFrom (s.advance dt) t)

/-! ## The brake block (Chapter 6) -/

/-- A raise latches its cause at the greater level. Where that makes no rise of the highest own demand
nothing else changes; a rise writes a brake record at the head, queues a BRAKE ORDER unless one of the
level or above is queued, and brings the effective level up to it (R100, R103, R105, R114). -/
def Obligations.RaiseLatches : Prop :=
  ∀ (s : State) (c : Cause) (level : Nat), BrakeLaw s → c ∈ demandCauses →
    let t := s.raise c level
    BrakeLaw t ∧ t.latched c = max (s.latched c) level ∧
      (∀ d ∈ demandCauses, d ≠ c → t.latched d = s.latched d) ∧
      t.brake.effective = max s.brake.effective level ∧
      (level ≤ s.highestOwn →
        t = { s with brake := { s.brake with demands := t.brake.demands } }) ∧
      (s.highestOwn < level →
        (∃ r, t.brake.records = (r :: s.brake.records).take 16 ∧ r.cause = c ∧ r.level = level ∧
          r.h = s.reportedH ∧ r.time = s.unitTime) ∧
        (s.running = true → ∃ f ∈ t.bus.queue, f.isOrder = true ∧ level ≤ orderLevel f.payload))

/-- A BRAKE RESET is counted as repeated when its number is held, and as one while moving when the unit is
not at standstill (R110). Otherwise it is accepted: its number is held, the received-level table is
cleared, each own demand whose cause is not present is released and the others are kept, the proof in
progress is given up, and the effective level is the highest demand kept (R111).
The model's choice in this: notes/assumptions/29.md. -/
def Obligations.BrakeResetJudged : Prop :=
  ∀ (s : State) (number : Nat), BrakeLaw s →
    let t := s.judgeReset number
    (s.brake.held = some number → t = s.bump .repeatedResets) ∧
    (s.brake.held ≠ some number → s.meas.standstill = false → t = s.bump .resetsWhileMoving) ∧
    (s.brake.held ≠ some number → s.meas.standstill = true →
      t.brake.held = some number ∧ t.brake.proof = none ∧
        (∀ r ∈ t.brake.rows, r = LevelRow.zero) ∧
        (∀ c ∈ demandCauses, t.latched c = if s.causePresent c = true then s.latched c else 0) ∧
        t.brake.effective = t.highestOwn ∧ t.brake.records = s.brake.records)

/-- A brake proof that falls due ends. It passes below 20 mm/s or with the speed down by the decrement.
Failing, it is counted: at a DRIVE it raises BRAKE_PROOF at level 2 for a level 1 proof and at level 3 for
a level 2 proof; at a CAR a level 1 proof, that of DRIVE_SILENT, raises BRAKE_PROOF at level 3 (R94), and a
level 3 proof writes a TRACK_BRAKE_FAULT record and raises nothing (R107). -/
def Obligations.BrakeProofJudged : Prop :=
  ∀ (dt : Nat) (s : State) (p : BrakeProof), s.running = true → BrakeLaw s →
    s.brake.proof = some p → p.due ≤ s.clock + dt →
    (s.absV < 20 ∨ s.absV + s.k .proofDecrement ≤ p.speed →
      ∃ t, exec (.brakeProofTimerExpiry dt) s = .next t ∧
        SettledFrom ((s.advance dt).setBrake ({ · with proof := none })) t) ∧
    (20 ≤ s.absV → p.speed < s.absV + s.k .proofDecrement →
      (s.role = .drive → p.level = 1 ∨ p.level = 2 →
        ∃ t, exec (.brakeProofTimerExpiry dt) s = .next t ∧
          t.latched .brakeProof = max (s.latched .brakeProof) (p.level + 1) ∧
          t.brake.effective = max s.brake.effective (p.level + 1) ∧
          t.count .proofFailures = (s.bump .proofFailures).count .proofFailures) ∧
      (s.role = .car → p.level = 1 →
        ∃ t, exec (.brakeProofTimerExpiry dt) s = .next t ∧
          t.latched .brakeProof = max (s.latched .brakeProof) 3 ∧
          t.brake.effective = max s.brake.effective 3 ∧
          t.count .proofFailures = (s.bump .proofFailures).count .proofFailures) ∧
      (s.role = .car → p.level = 3 →
        ∃ t, exec (.brakeProofTimerExpiry dt) s = .next t ∧
          SettledFrom (((((s.advance dt).setBrake ({ · with proof := none })).bump
            .proofFailures).writeRecord .trackBrakeFault 3).bump .trackBrakeFaults) t))

/-! ## The trip controller (Chapter 7) -/

/-- The dwell timer expires in AT_STOP: in AUTO the departure begins with DOOR_CLOSING and its door close
timer, in MANUAL the dwell stays expired (R120, R121). The retry timer of AT_STOP begins the departure
again (R120). The door close timer expires in DOOR_CLOSING: AT_STOP again with the reason
DOORS_NOT_CLOSED, the event counted and the dwell restarted at the configured dwell (R120, R121). A ready
check of a departure passes when its six conditions hold: the trip starts under the trip counter's number
with revision 0, the key's set and the authority to its target, its notice is queued, and RELEASING is
entered with drive enable asked for and setpoint 0, or RUNNING at once where torque is established. A
condition that fails records its reason, counts and returns to AT_STOP (R122 to R125). -/
def Obligations.DepartureTimers : Prop :=
  (∀ (s : State) (k : Nat), s.trip.currentStop = some k → s.trip.resumption = false →
    let t := s.judgeReady
    let holds := s.brake.effective = 0 ∧ s.carFresh .a = true ∧ s.carFresh .b = true ∧
      s.carDoorsLocked .a = true ∧ s.carDoorsLocked .b = true ∧
      (∀ b ∈ s.currentBerths, s.berthReady b = true) ∧ s.meas.status ≠ .none ∧
      s.carLoad .a ≤ s.k .ratedLoad ∧ s.carLoad .b ≤ s.k .ratedLoad
    let d := s.departureDirection k
    let target := s.departureTarget k d
    let trip : TripRecord :=
      { number := s.trip.counter, revision := 0, set := if s.reducedKey = true then 1 else 0
        pending := false, fromStop := some k, target := some target, direction := d
        hEnd := s.endFor target d, derated := s.derates, recovery := false }
    (holds →
      t.trip.trip = some trip ∧ t.trip.counter = (s.trip.counter + 1) % 256 ∧
      t.sup.authority = some { hEnd := trip.hEnd, direction := d, trip := trip.number } ∧
      t.trip.haulage = (if s.torqueEstablished = true then .running else .releasing) ∧
      t.trip.askEnable = true ∧ t.trip.askService = s.torqueEstablished ∧
      t.trip.setpoint = 0 ∧ t.trip.currentStop = none ∧ t.trip.heldDir = d ∧
      (s.operating = true → s.bus.queue.length < 8 →
        ∃ f ∈ t.bus.queue, f.payload = .tripNotice
          { number := trip.number, revision := 0, fromStop := some k, toStop := some target
            direction := d, set := trip.set, pending := false, hEnd := trip.hEnd
            recovery := false })) ∧
    (¬holds → ∃ r : Reason, firstFailing (s.readyConditions true) = some r ∧
      t.trip.haulage = .atStop ∧ t.trip.trip = s.trip.trip ∧
      t.trip.lastReason = some (r, s.unitTime) ∧
      t.count .readyCheckFailures = (s.bump .readyCheckFailures).count .readyCheckFailures)) ∧
  (∀ (dt : Nat) (s : State), s.running = true → s.trip.haulage = .doorClosing →
    (s.advance dt).due s.trip.doorCloseDue = true →
    ∃ t, exec (.doorCloseTimerExpiry dt) s = .next t ∧
      SettledFrom (((s.advance dt).bump .doorCloseTimeouts).setTrip ({ · with
        haulage := .atStop, doorCloseDue := none, dwellExpired := false
        lastReason := some (.doorsNotClosed, (s.advance dt).unitTime)
        dwellDue := some (s.clock + dt + 1000 * (1000 * s.k .dwell)) })) t) ∧
  ∀ (dt : Nat) (s : State), s.running = true → s.trip.haulage = .atStop →
    let closing := some (s.clock + dt + 1000 * (1000 * s.k .doorCloseTimeout))
    ((s.advance dt).due s.trip.dwellDue = true →
      (s.modeAuto = true → ∃ t, exec (.dwellTimerExpiry dt) s = .next t ∧
        SettledFrom ((s.advance dt).setTrip ({ · with
          haulage := .doorClosing, dwellDue := none, dwellExpired := true, retryDue := none
          doorCloseDue := closing })) t) ∧
      (s.modeAuto = false → ∃ t, exec (.dwellTimerExpiry dt) s = .next t ∧
        SettledFrom ((s.advance dt).setTrip ({ · with
          dwellDue := none, dwellExpired := true })) t)) ∧
    ((s.advance dt).due s.trip.retryDue = true →
      ∃ t, exec (.retryTimerExpiry dt) s = .next t ∧
        SettledFrom ((s.advance dt).setTrip ({ · with
          haulage := .doorClosing, dwellDue := none, retryDue := none
          doorCloseDue := closing })) t)

/-- The torque proof timer expires in RELEASING: drive enable is no longer asked for, the reason is
DRIVE_NOT_READY and the event is counted. A resumption returns to HOLDING; a departure ends the trip and
returns to AT_STOP at the stop it left, with the retry timer in AUTO (R125). The end of the run: STOPPING
completes within the creep distance of the target, or with presence at it, in AT_STOP there, the position
set to the stop with u 0 and the trip ended, the dwell started and the direction held for the next departure;
short of that in STRANDED with the reason STOP_SHORT (R129). A recovery trip without a target ends so at the
matching stop furthest in its direction, and with none in UNSYNCED with the reason SYNC_LOST (R131).
The model's choice in this: notes/assumptions/37.md. -/
def Obligations.TorqueTimeout : Prop :=
  (∀ (s : State) (r : TripRecord), s.trip.trip = some r →
    let t := s.completeStop
    let reached := fun (k : Nat) =>
      t.trip.haulage = .atStop ∧ t.trip.currentStop = some k ∧
      t.trip.heldDir = (if k = s.conf.lastStop then .down else if k = 0 then .up else r.direction) ∧
      t.trip.dwellDue = some (s.clock + 1000 * (1000 * s.k .dwell)) ∧ t.trip.dwellExpired = false ∧
      t.trip.retryDue = none ∧ t.trip.lastReason = s.trip.lastReason ∧
      t.meas.known = true ∧ t.meas.synchronised = true ∧ t.meas.u = 0 ∧ t.meas.residue = 0 ∧
      t.meas.h = min (s.hStop k) s.conf.lineLength ∧ t.meas.acc = (s.hStop k : Int) * 1000 ∧
      t.meas.degraded = false ∧
      t = { s with meas := t.meas, trip := t.trip, sup := { s.sup with authority := none } }
    let unreached := fun (st : Haulage) (reason : Reason) =>
      t.trip.haulage = st ∧ t.trip.lastReason = some (reason, s.unitTime) ∧
      t = { s with trip := t.trip, sup := { s.sup with authority := none } }
    t.trip.trip = none ∧ t.trip.askEnable = false ∧ t.trip.askService = false ∧
    (∀ k, r.target = some k →
      (s.dStop k r.direction ≤ s.k .creepDistance ∨ s.presenceAt k = true → reached k) ∧
      (s.k .creepDistance < s.dStop k r.direction → s.presenceAt k = false →
        unreached .stranded .stopShort)) ∧
    (r.target = none →
      (r.direction = .up → ∀ k, s.matchingStops.getLast? = some k → reached k) ∧
      (r.direction = .down → ∀ k, s.matchingStops.head? = some k → reached k) ∧
      (s.matchingStops = [] → unreached .unsynced .syncLost ∧ t.trip.resetSeen = false))) ∧
  ∀ (dt : Nat) (s : State), s.running = true → s.trip.haulage = .releasing →
    (s.advance dt).due s.trip.torqueDue = true →
    ∃ t, exec (.torqueProofTimerExpiry dt) s = .next t ∧
      t.trip.askEnable = false ∧ t.trip.torqueDue = none ∧
      t.trip.lastReason = some (.driveNotReady, (s.advance dt).unitTime) ∧
      t.count .torqueTimeouts = (s.bump .torqueTimeouts).count .torqueTimeouts ∧
      t.meas = s.meas ∧ t.door = s.door ∧ t.brake.effective = s.brake.effective ∧
      (s.trip.resumption = true → t.trip.haulage = .holding ∧ t.trip.trip = s.trip.trip ∧
        t.trip.askService = false ∧ t.trip.setpoint = 0) ∧
      (s.trip.resumption = false → t.trip.haulage = .atStop ∧ t.trip.trip = none ∧
        t.trip.currentStop = s.trip.trip.bind (·.fromStop) ∧ t.sup.authority = none ∧
        t.trip.dwellExpired = true ∧
        t.trip.retryDue = if s.modeAuto = true then some (s.clock + dt + 1000000) else none)

/-- The effective level rises to 2 or more: in any state but UNSYNCED and PARKED the trip controller
enters TRIPPED, asks for neither drive enable nor the service brake hold, holds a setpoint of 0, stops its
timers and keeps the trip; in UNSYNCED, PARKED and TRIPPED it changes nothing (R128). At an accepted brake
reset the last evacuation replies are cleared (R133), and by R130 TRIPPED leads to AT_STOP at the matching
stop whose window holds h, the nearest of them, elsewhere to STRANDED, and at an unknown position to UNSYNCED; a
recovery trip in HOLDING ends in STRANDED or UNSYNCED; UNSYNCED notes the reset; PARKED leads to AT_STOP
unless the park key is active; every other state stays. A level of 2 or more that a kept demand leaves enters
TRIPPED again, and a trip ended so ends the authority (R89, R111, R130).
The model's choice in this: notes/assumptions/39.md. -/
def Obligations.RiseTrips : Prop :=
  (∀ s : State,
    let t := s.tripReset
    let h := s.meas.h
    let here := fun (k : Nat) => k ∈ s.matchingStops ∧
      ∃ st, s.conf.stop? k = some st ∧ s.conf.inStopWindow st h = true
    let cleared := fun (f : TripController → TripController) =>
      t = s.setTrip (fun x => f { x with replyA := none, replyB := none })
    (s.trip.haulage = .tripped → s.meas.known = true →
      (∀ k, s.stopHere = some k →
        t.trip.haulage = .atStop ∧ t.trip.currentStop = some k ∧ t.trip.trip = none ∧
        t.trip.replyA = none ∧ t.trip.replyB = none ∧
        t.trip.dwellDue = some (s.clock + 1000 * (1000 * s.k .dwell)) ∧
        t.trip.dwellExpired = false ∧ t.meas.known = true ∧ t.meas.synchronised = true ∧
        t.meas.u = 0 ∧ t.meas.residue = 0 ∧ t.meas.h = min (s.hStop k) s.conf.lineLength ∧
        t.meas.acc = (s.hStop k : Int) * 1000 ∧ t = { s with meas := t.meas, trip := t.trip }) ∧
      (s.stopHere = none →
        cleared (fun x => { x with haulage := .stranded, trip := none, requeue := false })) ∧
      (∀ k, s.stopHere = some k → here k ∧
        ∀ j, here j → distance (s.hStop k) h ≤ distance (s.hStop j) h) ∧
      (s.stopHere = none → ∀ j, ¬here j)) ∧
    (s.trip.haulage = .tripped → s.meas.known = false →
      cleared (fun x => { x with
        haulage := .unsynced, trip := none, requeue := false, resetSeen := true })) ∧
    (∀ r, s.trip.haulage = .holding → s.trip.trip = some r →
      (r.recovery = true → cleared (fun x => { x with
        haulage := if s.meas.known = true then .stranded else .unsynced, trip := none
        requeue := false, setpoint := 0, askEnable := false, askService := false
        resetSeen := if s.meas.known = true then x.resetSeen else true })) ∧
      (r.recovery = false → cleared id)) ∧
    (s.trip.haulage = .holding → s.trip.trip = none → cleared id) ∧
    (s.trip.haulage = .unsynced → cleared ({ · with resetSeen := true })) ∧
    (s.trip.haulage = .parked →
      (s.parkKey = true → cleared id) ∧
      (s.parkKey = false → cleared ({ · with
        haulage := .atStop, dwellExpired := false
        dwellDue := some (s.clock + 1000 * (1000 * s.k .dwell)) }))) ∧
    (s.trip.haulage ∉ [Haulage.tripped, .holding, .unsynced, .parked] → cleared id)) ∧
  (∀ (s : State) (number : Nat), BrakeLaw s → s.role = .drive → s.brake.held ≠ some number →
    s.meas.standstill = true →
    let t := s.judgeReset number
    let told := if 2 ≤ t.brake.effective then s.tripReset.tripRise 2 else s.tripReset
    t.meas = told.meas ∧ t.trip = { told.trip with requeue := t.trip.requeue } ∧
      t.sup = if told.trip.trip = none then { s.sup with authority := none } else s.sup) ∧
  ∀ (s : State) (level : Nat), 2 ≤ level →
    let t := s.tripRise level
    (s.trip.haulage ∈ [Haulage.unsynced, .parked, .tripped] → t = s) ∧
    (s.trip.haulage ∉ [Haulage.unsynced, .parked, .tripped] →
      t.trip.haulage = .tripped ∧ t.trip.askEnable = false ∧ t.trip.askService = false ∧
        t.trip.setpoint = 0 ∧ t.trip.dwellDue = none ∧ t.trip.doorCloseDue = none ∧
        t.trip.retryDue = none ∧ t.trip.torqueDue = none ∧ t.trip.trip = s.trip.trip ∧
        t = s.setTrip (fun _ => t.trip))

/-- The park key becoming active in AT_STOP, OPERATING, parks the DRIVE: nothing is asked for, the dwell
and retry timers stop and the current stop is kept (R132). In another state the key is counted as ignored
(R118). The recovery key without a direction, or outside UNSYNCED and STRANDED, is counted as ignored
(R118). In those two it needs standstill and conditions 1, 2, 3, 5 and 6 of R122; failing one it records the
reason and is counted as refused. In STRANDED it then starts a recovery trip in set 1 to the next stop in
the direction, or is refused with NO_TARGET; in UNSYNCED it synchronises at the matching stop from which the
direction leads away, or with none starts a recovery trip to the end of the track (R119, R131). -/
def Obligations.ParkKeyParks : Prop :=
  (∀ (dt : Nat) (s : State), s.keysJudged = true → s.role = .drive →
    (s.advance dt).due (s.term.debounceDue.getD 5 none) = true → s.rawActive 5 = true →
    let n := (s.advance dt).setTerm (fun x => { x with
      debounced := x.debounced.set 5 true, debounceDue := x.debounceDue.set 5 none })
    ∃ t, exec (.debounceTimerExpiry dt 5) s = .next t ∧ SettledFrom n.recoveryKey t) ∧
  (∀ s : State,
    (s.directionSelector = none → s.recoveryKey = s.bump .ignoredRecovery) ∧
    ∀ d : Direction, s.directionSelector = some d →
      let t := s.recoveryKey
      let may := s.meas.standstill = true ∧ s.brake.effective = 0 ∧ s.carFresh .a = true ∧
        s.carFresh .b = true ∧ s.carDoorsLocked .a = true ∧ s.carDoorsLocked .b = true ∧
        s.meas.status ≠ .none ∧ s.carLoad .a ≤ s.k .ratedLoad ∧ s.carLoad .b ≤ s.k .ratedLoad
      let refused := fun (r : Reason) =>
        t = (s.setTrip ({ · with lastReason := some (r, s.unitTime) })).bump .recoveryRefusals
      let starts := fun (target : Option Nat) (hEnd : Nat) =>
        let trip : TripRecord :=
          { number := s.trip.counter, revision := 0, set := 1, pending := false, fromStop := none
            target := target, direction := d, hEnd := hEnd, derated := false, recovery := true }
        t.trip.trip = some trip ∧ t.trip.counter = (s.trip.counter + 1) % 256 ∧
        t.sup.authority = some { hEnd := hEnd, direction := d, trip := s.trip.counter } ∧
        t.trip.haulage = .recovery ∧ t.trip.setpoint = 0 ∧ t.trip.askEnable = true ∧
        t.trip.askService = s.torqueEstablished ∧ t.trip.torqueProved = s.torqueEstablished ∧
        t.trip.torqueDue = (if s.torqueEstablished = true then none else some (s.clock + 2000000)) ∧
        t.trip.heldDir = d ∧ t.trip.currentStop = none ∧ t.meas = s.meas ∧
        (TakesControl s → ∃ f ∈ t.bus.queue, f.payload = .tripNotice
          { number := s.trip.counter, revision := 0, fromStop := none, toStop := none
            direction := d, set := 1, pending := false, hEnd := hEnd, recovery := true })
      (s.trip.haulage ∉ [Haulage.unsynced, .stranded] → t = s.bump .ignoredRecovery) ∧
      (s.trip.haulage ∈ [Haulage.unsynced, .stranded] → ¬may →
        (s.meas.standstill = false → refused .notStandstill) ∧ ∃ r, refused r) ∧
      (s.trip.haulage = .stranded → may →
        (∀ k, s.conf.nextStopFrom s.meas.h d = some k → starts (some k) (s.endFor k d)) ∧
        (s.conf.nextStopFrom s.meas.h d = none → refused .noTarget)) ∧
      (s.trip.haulage = .unsynced → may →
        (∀ k, (d = .up ∧ s.matchingStops.head? = some k ∨
            d = .down ∧ s.matchingStops.getLast? = some k) →
          t.trip.haulage = .atStop ∧ t.trip.currentStop = some k ∧ t.trip.heldDir = d ∧
          t.trip.dwellDue = some (s.clock + 1000 * (1000 * s.k .dwell)) ∧
          t.meas.known = true ∧ t.meas.synchronised = true ∧ t.meas.u = 0 ∧
          t.meas.h = min (s.hStop k) s.conf.lineLength ∧
          t.meas.acc = (s.hStop k : Int) * 1000 ∧ t = { s with meas := t.meas, trip := t.trip }) ∧
        (s.matchingStops = [] →
          starts none (match d with | .up => s.conf.lineLength | .down => 0)))) ∧
  ∀ (dt : Nat) (s : State), s.operating = true → s.role = .drive →
    (s.advance dt).due (s.term.debounceDue.getD 14 none) = true → s.rawActive 14 = true →
    let n := (s.advance dt).setTerm (fun x => { x with
      debounced := x.debounced.set 14 true, debounceDue := x.debounceDue.set 14 none })
    (s.trip.haulage = .atStop → ∃ t, exec (.debounceTimerExpiry dt 14) s = .next t ∧
      SettledFrom (n.setTrip ({ · with
        haulage := .parked, askEnable := false, askService := false, dwellDue := none
        retryDue := none })) t) ∧
    (s.trip.haulage ≠ .atStop → ∃ t, exec (.debounceTimerExpiry dt 14) s = .next t ∧
      SettledFrom (n.bump .ignoredPark) t)

/-! ## Door release (Chapter 8) -/

/-- The repeat timer expires while a side is REQUESTING: below 40 requests the request is sent again and
counted with the timer at 250 ms; at 40 every REQUESTING side goes to FAULT and the event is counted
(R140). With no side REQUESTING the timer only stops. A request starts when the flag is set and the conditions
of R139 hold, standstill at a known position within the window of the car's berth at level 0 or 1: the sides
the berth names go to REQUESTING, a RELEASED side it does not name closes, and the request is sent under the
next number. A REQUESTING side whose conditions fail is abandoned, LOCKED or CLOSING, and the flag is set
again unless the FRESH DRIVE has left AT_STOP (R140). SAMPLE_EVENT judges both, in an order of the model's
choice (notes/assumptions/70.md), as stated here where no demand of the sample rises. -/
def Obligations.RepeatTimer : Prop :=
  (∀ s : State,
    (s.requestConditions = true ↔ s.meas.standstill = true ∧ s.meas.known = true ∧
      s.brake.effective ≤ 1 ∧ ∃ n b, s.carBerth = some n ∧ s.conf.berth? n = some b ∧
        distance s.ownTrack b.position + s.meas.u ≤ b.halfWidth) ∧
    let t := s.judgeRequest
    let abandons := s.anySide .requesting = true ∧ s.requestConditions = false
    (abandons →
      let left := fun (d : Side) (c : DoorSideContext) =>
        if c.state = .requesting then
          { c with state := if s.doorLocked d = true then .locked else .closing } else c
      t = s.setDoor (fun x => { x with
        left := left .left x.left, right := left .right x.right, repeatDue := none
        armed := t.door.armed }) ∧
      (t.door.armed = true ↔ ∀ st, s.driveHaulage = some st → st = .atStop)) ∧
    (s.door.armed = true → s.requestConditions = true → ∀ b : Berth,
      s.carBerth.bind s.conf.berth? = some b →
      let number := (s.door.requestNumber + 1) % 256
      let next := fun (d : Side) (c : DoorSideContext) =>
        if namesSide b.side d = true then ReleaseState.requesting
        else if c.state = .released then .closing else c.state
      let side := fun (d : Side) (c : DoorSideContext) =>
        { c with state := next d c, confirmed := false, withdrawAtLock := false }
      t.door = { s.door with
        left := side .left s.door.left, right := side .right s.door.right, armed := false
        stopBerth := some b.number, requestNumber := number, lastRefusal := none
        confirmDue := none, grantId := none, retryCount := 1
        repeatDue := some (s.clock + 250000) } ∧ t.meas = s.meas ∧
      (TakesControl s → ∃ f ∈ t.bus.queue,
        f.payload = .releaseRequest b.number s.conf.car b.side number)) ∧
    (¬abandons → s.door.armed = false ∨ s.requestConditions = false → t = s)) ∧
  (∀ (dt : Nat) (reading : BitVec 16) (s : State), s.running = true → s.role = .car →
    (s.advance dt).due s.sampleDue = true →
    let x := ((((s.advance dt).restartSample reading).sampleMeasurement
      reading).supervisionSample).judgeOpenMoving
    let y := if x.meas.standstill = true then x else x.endEvacuation
    x.highestOwn ≤ s.brake.judged →
    ∃ t, exec (.sampleEvent dt reading) s = .next t ∧
      t.door = y.judgeConfirm.judgeHold.judgeRequest.judgeStanding.lockClosing.door) ∧
  ∀ (dt : Nat) (s : State), s.running = true → (s.advance dt).due s.door.repeatDue = true →
    (s.anySide .requesting = true → s.door.retryCount < 40 →
      ∃ t, exec (.repeatTimerExpiry dt) s = .next t ∧
        t.door = { s.door with
          retryCount := s.door.retryCount + 1, repeatDue := some (s.clock + dt + 250000) } ∧
        t.meas = s.meas ∧ t.trip.haulage = s.trip.haulage ∧
        (∀ b : Berth, s.requestBerth = some b → s.phase ≠ .configured .addressConflict →
          s.bus.queue.length < 8 →
          ∃ f ∈ t.bus.queue, f.payload =
            .releaseRequest b.number s.conf.car b.side s.door.requestNumber)) ∧
    (s.anySide .requesting = true → 40 ≤ s.door.retryCount →
      ∃ t, exec (.repeatTimerExpiry dt) s = .next t ∧
        SettledFrom (((s.advance dt).setDoor (fun d => { d with
          repeatDue := none
          left := if d.left.state = .requesting then { d.left with state := .fault } else d.left
          right := if d.right.state = .requesting then { d.right with state := .fault }
            else d.right })).bump .releaseFaults) t) ∧
    (s.anySide .requesting = false →
      ∃ t, exec (.repeatTimerExpiry dt) s = .next t ∧
        SettledFrom ((s.advance dt).setDoor ({ · with repeatDue := none })) t)

/-- The confirmation timer expires at a car at standstill whose FRESH berth has not confirmed the held
grant: the RELEASED sides close, the grant is let go, and its withdrawal is noted (R146). A RELEASE GRANT of
the stop berth, for the side and number requested, at a car at standstill within the berth's window with a
side REQUESTING is accepted: those sides are RELEASED under its id, confirmed at once where the berth already
shows the grant, and otherwise with the confirmation timer at 1,000 ms (R145); the opening record for that
berth is cleared (R157). A grant already held changes nothing; any other is rejected with a withdrawal and
counted (R145).
The model's choices in this: notes/assumptions/35.md and notes/assumptions/36.md. -/
def Obligations.ConfirmationTimer : Prop :=
  (∀ (s : State) (berth number g : Nat) (side : DoorSide),
    let t := s.takeGrant berth side number g
    let holds := s.door.grantId = some g ∧ s.door.stopBerth = some berth
    let accepted := s.door.stopBerth = some berth ∧ number = s.door.requestNumber ∧
      (∃ b, s.conf.berth? berth = some b ∧ b.side = side ∧ s.meas.known = true ∧
        distance s.ownTrack b.position + s.meas.u ≤ b.halfWidth) ∧
      s.anySide .requesting = true ∧ s.meas.standstill = true
    let shown := ∃ x, s.berthSummary berth = some x ∧ x.car = s.conf.car ∧ x.grantId = g ∧
      x.state = .granted
    (holds → t = s) ∧
    (¬holds → accepted →
      let released := fun (confirmed : Bool) (c : DoorSideContext) =>
        if c.state = .requesting then { c with state := .released, confirmed := confirmed }
        else if c.state = .released ∧ confirmed = true then { c with confirmed := true } else c
      let opening := s.door.opening.filter (fun o => !(o.berth == berth))
      (shown → t = s.setDoor (fun d => { d with
        left := released true d.left, right := released true d.right, repeatDue := none
        grantId := some g, confirmDue := none, opening := opening })) ∧
      (¬shown → t = s.setDoor (fun d => { d with
        left := released false d.left, right := released false d.right, repeatDue := none
        grantId := some g, confirmDue := some (s.clock + 1000000), opening := opening }))) ∧
    (¬holds → ¬accepted →
      t.door = { s.door with recentWithdraw := t.door.recentWithdraw } ∧
      (g, s.clock) ∈ t.door.recentWithdraw ∧ t.meas = s.meas ∧
      t.count .rejectedGrants = (s.bump .rejectedGrants).count .rejectedGrants ∧
      (TakesControl s → ∃ f ∈ t.bus.queue,
        f.payload = .releaseWithdrawal berth s.conf.car g .notHeld))) ∧
  ∀ (dt b g : Nat) (s : State), s.running = true →
    (s.advance dt).due s.door.confirmDue = true →
    s.door.left = { state := .released, confirmed := false, withdrawAtLock := false } →
    s.door.right.state = .locked → s.door.right.withdrawAtLock = false →
    s.door.stopBerth = some b → s.door.grantId = some g → s.meas.standstill = true →
    (s.fresh (.berth b)).isSome = true →
    ∃ t, exec (.confirmationTimerExpiry dt) s = .next t ∧
      t.door.left.state = (if s.doorLocked .left = true then .locked else .closing) ∧
      t.door.right = s.door.right ∧ t.door.grantId = none ∧ t.door.confirmDue = none ∧
      (g, s.clock + dt) ∈ t.door.recentWithdraw ∧ t.door.stopBerth = some b ∧
      t.meas = s.meas ∧
      (s.phase ≠ .configured .addressConflict → s.bus.queue.length < 8 →
        ∃ f ∈ t.bus.queue, f.payload = .releaseWithdrawal b s.conf.car g .notConfirmed)

/-- An EVACUATION ORDER at a CAR is accepted when the level is 2 or more, the car has stood 5,000 ms, its
position is known and every zone under it has the flag of the side: the named sides not RELEASED go to
EVACUATION. Otherwise it is refused by the first test that fails, and counted. Each is answered (R151). A
FRESH MOTION of the DRIVE is kept as its last state, arms a request at its arrival AT_STOP and clears the
flag in any other state (R139). One that is a departure notice closes every side: a RELEASED one keeps its
grant to withdraw it at the lock, a REQUESTING one is LOCKED or CLOSING by its input, one in FAULT is
CLOSING (R148). A CLOSING side is LOCKED when its input shows locked, and when the last side that waits for
its lock has locked, one withdrawal with the reason DEPARTURE is sent and the grant is let go (R148). A
locked input that changes judges this, and TAKE_FRAME brings the DRIVE's MOTION to it.
The model's choices in this: notes/assumptions/36.md, notes/assumptions/62.md and
notes/assumptions/73.md. -/
def Obligations.EvacuationJudged : Prop :=
  (∀ (s : State) (st : Haulage),
    let t := s.doorDriveMotion st
    let departs := st ∈ [Haulage.doorClosing, .readyCheck, .releasing, .running, .recovery, .parked]
    let armed := st == .atStop && (s.door.armed || !(s.door.lastDriveState == some .atStop))
    let closed := fun (d : Side) (c : DoorSideContext) =>
      match c.state with
      | .released => { c with state := .closing, withdrawAtLock := true }
      | .requesting => { c with state := if s.doorLocked d = true then .locked else .closing }
      | .fault => { c with state := .closing }
      | _ => c
    (¬departs → t = s.setDoor ({ · with armed := armed, lastDriveState := some st })) ∧
    (departs → t = (s.setDoor (fun x => { x with
      armed := armed, lastDriveState := some st, left := closed .left x.left
      right := closed .right x.right, confirmDue := none
      repeatDue := if s.anySide .requesting = true then none else x.repeatDue })).lockClosing)) ∧
  (∀ s : State,
    let t := s.lockClosing
    let locked := fun (d : Side) (c : DoorSideContext) =>
      if c.state = .closing ∧ s.doorLocked d = true then { c with state := .locked } else c
    let left := locked .left s.door.left
    let right := locked .right s.door.right
    let owed := left.withdrawAtLock = true ∨ right.withdrawAtLock = true
    let waits := left.withdrawAtLock = true ∧ left.state ≠ .locked ∨
      right.withdrawAtLock = true ∧ right.state ≠ .locked
    (¬owed ∨ waits → t = s.setDoor ({ · with left := left, right := right })) ∧
    (owed → ¬waits →
      t.door = { s.door with
        left := { left with withdrawAtLock := false }
        right := { right with withdrawAtLock := false }, grantId := none
        recentWithdraw := t.door.recentWithdraw } ∧ t.meas = s.meas ∧
      ∀ b g, s.door.stopBerth = some b → s.door.grantId = some g →
        (g, s.clock) ∈ t.door.recentWithdraw ∧
        (TakesControl s → ∃ f ∈ t.bus.queue,
          f.payload = .releaseWithdrawal b s.conf.car g .departure))) ∧
  (∀ (dt i : Nat) (s : State), s.running = true → s.role = .car → i = 0 ∨ i = 1 → BrakeLaw s →
    s.meas.standstill = true → (s.advance dt).due (s.term.debounceDue.getD i none) = true →
    let n := (s.advance dt).setTerm (fun x => { x with
      debounced := x.debounced.set i (s.rawActive i), debounceDue := x.debounceDue.set i none })
    ∃ t, exec (.debounceTimerExpiry dt i) s = .next t ∧
      SettledFrom (n.lockClosing.setDoor ({ · with openMoving := false })) t) ∧
  (∀ (dt : Nat) (s : State) (f : Frame) (rest : List Frame) (c : Common) (m : Motion),
    s.running = true → s.role = .car → s.bus.rx = f :: rest → f.payload = .motion c m →
    f.source < s.peers.length → c.identity = .drive → c.digest = s.prof.digest →
    (s.entry f.source).freshness = .fresh → (s.entry f.source).announcement = some .drive →
    s.heldElsewhere f.source .drive = false → (∀ p ∈ s.peers, p.freshness ≠ .conflict) →
    let n := s.advance dt
    let heard := (({ n with bus := { s.bus with rx := rest } } : State).passState f).setEntry
      f.source ({ · with
        age := some n.unitTime, digest := some c.digest, motion := some m, level := some c.level })
    ∃ t, exec (.takeFrame dt) s = .next t ∧
      SettledFrom (((heard.takeAnnounced f.source c.level).takeDriveMotion
        m).judgeRequest.lockClosing) t ∧
      ∀ st, m.status = .haulage st → t.door.lastDriveState = some st) ∧
  ∀ (s : State) (side : DoorSide),
    let t := s.takeEvacuation side
    let reach : Int := s.k .halfLength + s.meas.u
    let permitted := s.conf.evacuationPermitted (s.ownTrack - reach) (s.ownTrack + reach) side
    let stood := s.meas.standstill = true ∧
      ∃ x, s.door.standstillTime = some x ∧ 5000 ≤ s.elapsed x
    (2 ≤ s.brake.effective → stood → s.meas.known = true → permitted = true →
      (t.door.left.state = if namesSide side .left = true ∧ s.door.left.state ≠ .released
        then .evacuation else s.door.left.state) ∧
      (t.door.right.state = if namesSide side .right = true ∧ s.door.right.state ≠ .released
        then .evacuation else s.door.right.state)) ∧
    (¬(2 ≤ s.brake.effective ∧ stood ∧ s.meas.known = true ∧ permitted = true) →
      t.door = s.door ∧
      t.count .evacuationRefusals = (s.bump .evacuationRefusals).count .evacuationRefusals) ∧
    (s.operating = true → s.bus.queue.length < 8 →
      ∃ f ∈ t.bus.queue, f.payload = .evacuationReply s.conf.car side (s.evacuationResult side))

/-- The discard timer returns a PENDING or READY record to NONE, its other fields void but the counter,
and counts it; in another state it only stops (R137, R143).
The model's choice in this: notes/assumptions/51.md. -/
def Obligations.DiscardTimer : Prop :=
  ∀ (dt : Nat) (s : State), s.running = true → (s.advance dt).due s.grant.discardDue = true →
    (s.grant.state = .pending ∨ s.grant.state = .ready →
      ∃ t, exec (.discardTimerExpiry dt) s = .next t ∧
        SettledFrom (((s.advance dt).setGrant (fun g =>
          { GrantTable.reset with counter := g.counter })).bump .discardExpiries) t) ∧
    (s.grant.state ≠ .pending → s.grant.state ≠ .ready →
      ∃ t, exec (.discardTimerExpiry dt) s = .next t ∧
        SettledFrom ((s.advance dt).setGrant ({ · with discardDue := none })) t)

/-- A new release request at a BERTH with the record in NONE: with a stop in hand that names the berth and
the side for the car and the stop button inactive, the grant is issued at once with presence, the gates
closed and the car standing, its id one above the last; otherwise the record waits in PENDING for the
discard time (R142, R143). A request that fails a test is refused, and the record stays. A grant is
answered with a RELEASE GRANT and counted, a refusal with a RELEASE REFUSAL that carries the reason (R142).
The model's choice in this: notes/assumptions/22.md. -/
def Obligations.RequestJudged : Prop :=
  ∀ (s : State) (c : CarId) (side : DoorSide) (number : Nat), s.grant.state = .none →
    let t := s.takeRequest c side number
    let accepts := s.running = true ∧ s.phase ≠ .configured .addressConflict ∧
      s.bus.queue.length < 8
    (s.standingRefusal c side = none →
      (s.presenceInput = true ∧ s.platformGatesClosed = true ∧ s.carStanding c = true →
        t.grant = { s.grant with
          state := .granted, car := c, side := side, number := number, reason := none
          grantId := (s.grant.counter + 1) % 256, counter := (s.grant.counter + 1) % 256
          discardDue := none } ∧
        t.count .grantsIssued = (s.bump .grantsIssued).count .grantsIssued ∧
        (accepts → ∃ f ∈ t.bus.queue, f.payload =
          .releaseGrant s.conf.ownBerth c side number ((s.grant.counter + 1) % 256))) ∧
      (¬(s.presenceInput = true ∧ s.platformGatesClosed = true ∧ s.carStanding c = true) →
        t = s.setGrant ({ · with
          state := .pending, car := c, side := side, number := number, reason := none
          grantId := (s.grant.counter + 1) % 256
          discardDue := some (s.clock + 1000 * s.k .discardTime) }))) ∧
    (∀ r : RefusalReason, s.standingRefusal c side = some r →
      t.grant = s.grant ∧ t.count .refusalsSent = (s.bump .refusalsSent).count .refusalsSent ∧
      (accepts → ∃ f ∈ t.bus.queue, f.payload = .releaseRefusal s.conf.ownBerth c number r))

/-! ## Ticket gates and the reader line (Chapters 9 and 10) -/

/-- The first four decisions on a ticket, in order: SUSPENDED or CLOSED by the cycle, DIRECTION, PASSBACK
whatever the source of the entry, PLACES; a ticket that passes them all has no refusal (R162). -/
def Obligations.TicketRefusals : Prop :=
  ∀ (s : State) (t : Ticket),
    let c := s.gate.cycle
    let opposed := (t.direction = .up ∧ c.direction = .down) ∨
      (t.direction = .down ∧ c.direction = .up)
    let repeated := t.exempt = false ∧ ∃ e ∈ s.gate.passback, e.ticket = t.id
    (c.state = .suspended → s.ownRefusal t = some .suspended) ∧
    (c.state = .none ∨ c.state = .closed → s.ownRefusal t = some .closed) ∧
    (c.state = .open_ → opposed → s.ownRefusal t = some .direction) ∧
    (c.state = .open_ → ¬opposed → repeated → s.ownRefusal t = some .passback) ∧
    (c.state = .open_ → ¬opposed → ¬repeated → s.allowance < t.places →
      s.ownRefusal t = some .places) ∧
    (c.state = .open_ → ¬opposed → ¬repeated → t.places ≤ s.allowance → s.ownRefusal t = none)

/-- TICKET_RECORD, a whole sound record of a well-formed ticket at a GATE with no ticket in process and no
frame held: one that no decision refuses and that need not be held is admitted when it fits the budget,
and otherwise answered FULL; one that must be held is HELD for the hold time; one refused is answered its
reason (R161 to R165).
The model's choices in this: notes/assumptions/6.md and notes/assumptions/27.md. -/
def Obligations.TicketPresented : Prop :=
  ∀ (dt : Nat) (chars : List ReaderChar) (s : State) (x : Ticket), s.readsReader = true →
    s.term.assembling = [] → s.bus.rx = [] → s.gate.ticket = .none →
    chars.length = 10 → (∀ c ∈ chars, c.stopOk = true) →
    readTicket (chars.map (·.value)) = some x →
    let n := (s.advance dt).setTerm ({ · with assembling := [], lastChar := s.clock + dt })
    let red := some (s.clock + dt + 1000 * s.k .holdTime)
    let answered := fun (r : Reply) => n.setTerm (fun y => { y with replies := y.replies ++ [r] })
    (∀ r, s.ownRefusal x = some r → ∃ t, exec (.ticketRecord dt chars) s = .next t ∧
      t.gate = { s.gate with redDue := red } ∧ t.term.replies = s.term.replies ++ [r] ∧
      t.meas = s.meas ∧ t.brake.effective = s.brake.effective) ∧
    (s.ownRefusal x = none → s.mustHold x = true →
      ∃ t, exec (.ticketRecord dt chars) s = .next t ∧
        SettledFrom (n.setGate ({ · with
          ticket := .held x (s.clock + dt + 1000 * s.k .holdTime) })) t) ∧
    (s.ownRefusal x = none → s.mustHold x = false →
      s.countedPlaces + x.places ≤ s.gate.cycle.budget →
      ∃ t, exec (.ticketRecord dt chars) s = .next t ∧
        SettledFrom (((answered .accept).setGate (fun g => { g with
          cycle := { g.cycle with pending := g.cycle.pending + x.places }
          passback := addPassback x.id (s.advance dt).unitTime .ownTentative g.passback
          ticket := .awaitingPassage x (s.clock + dt + 1000 * (1000 * s.k .passageTime)) })).bump
            .admissions) t) ∧
    (s.ownRefusal x = none → s.mustHold x = false →
      s.gate.cycle.budget < s.countedPlaces + x.places →
      ∃ t, exec (.ticketRecord dt chars) s = .next t ∧
        SettledFrom (((answered .full).setGate ({ · with redDue := red })).bump .fullRefusals) t)

/-- A stored LOAD REPORT of a car whose opening names this gate's berth and a cycle not held opens that
cycle, when the car has been seen clear: SUSPENDED at level 2 or more and else OPEN, with the budget and
direction announced, nothing confirmed or unannounced, and the other gates certain unless the car was in
doubt (R158). Not seen clear, it opens nothing and is counted. TAKE_FRAME brings the LOAD REPORT of a car
to this judgement when the car's entry is FRESH (R71, R158), stated where it has been FRESH, no entry is in
CONFLICT and no ticket is held.
The model's choice in this: notes/assumptions/32.md. -/
def Obligations.CycleOpens : Prop :=
  (∀ (dt : Nat) (s : State) (f : Frame) (rest : List Frame) (k : Common) (l : LoadReport) (c : CarId),
    s.running = true → s.role = .gate → (∀ x due, s.gate.ticket ≠ .held x due) →
    s.bus.rx = f :: rest → f.payload = .loadReport k l → f.source < s.peers.length →
    k.identity = .car c → k.digest = s.prof.digest →
    (s.entry f.source).freshness = .fresh →
    (s.entry f.source).announcement = some (.car c) →
    s.heldElsewhere f.source (.car c) = false → (∀ p ∈ s.peers, p.freshness ≠ .conflict) →
    let n := s.advance dt
    let heard := (({ n with bus := { s.bus with rx := rest } } : State).passState f).setEntry
      f.source ({ · with
        age := some n.unitTime, digest := some k.digest, load := some l, level := some k.level })
    ∃ t, exec (.takeFrame dt) s = .next t ∧
      SettledFrom ((heard.takeAnnounced f.source k.level).judgeLoadReport c l) t) ∧
  ∀ (s : State) (c : CarId) (l : LoadReport) (o : Opening), l.opening = some o →
    o.berth = s.conf.ownBerth → s.gate.cycle.ref ≠ some { car := c, id := o.cycleId } →
    let t := s.judgeLoadReport c l
    ((s.carFlags c).seenClear = true →
      t.gate.cycle.state = (if 2 ≤ s.brake.effective then .suspended else .open_) ∧
      t.gate.cycle.ref = some { car := c, id := o.cycleId } ∧ t.gate.cycle.budget = o.budget ∧
      t.gate.cycle.direction = o.direction ∧ t.gate.cycle.confirmed = 0 ∧
      t.gate.cycle.unannounced = [] ∧ t.gate.cycle.pending = s.gate.cycle.pending ∧
      (∀ g ∈ t.gate.cycle.others, g.heard = 0 ∧ g.certain = !(s.carFlags c).doubt) ∧
      (t.carFlags c).doubt = false ∧ t.gate.ticket = s.gate.ticket ∧
      t.gate.passback = s.gate.passback ∧
      t.count .openings = (s.bump .openings).count .openings) ∧
    ((s.carFlags c).seenClear = false →
      t.gate.cycle = s.gate.cycle ∧
      t.count .unopenedCycles = (s.bump .unopenedCycles).count .unopenedCycles)

/-- The hold timer answers a HELD ticket UNCERTAIN; the passage timer answers one awaiting passage
NOT_PASSED, with its places no longer pending and its tentative passback entry gone; the red indicator
timer puts the indicator out (R156, R163, R166). The passback entries whose age has reached the passback
time leave the list, and only they (R171).
The model's choice in this: notes/assumptions/49.md. -/
def Obligations.TicketTimers : Prop :=
  (∀ (dt : Nat) (s : State), s.running = true → s.role = .gate →
    ∃ t, exec (.passbackEntryExpiry dt) s = .next t ∧
      SettledFrom ((s.advance dt).setGate (fun g => { g with
        passback := g.passback.filter (fun e =>
          decide ((s.advance dt).elapsed e.time < s.k .passbackTime * 60000)) })) t) ∧
  ∀ (dt due : Nat) (x : Ticket) (s : State), s.running = true → due ≤ s.clock + dt →
    let red := some (s.clock + dt + 1000 * s.k .holdTime)
    let answered := fun (r : Reply) =>
      (s.advance dt).setTerm (fun y => { y with replies := y.replies ++ [r] })
    (s.gate.ticket = .held x due → ∃ t, exec (.holdTimerExpiry dt) s = .next t ∧
      SettledFrom (((answered .uncertain).setGate ({ · with
        ticket := .none, redDue := red })).bump .uncertainRefusals) t) ∧
    (s.gate.ticket = .awaitingPassage x due → ∃ t, exec (.passageTimerExpiry dt) s = .next t ∧
      SettledFrom (((answered .notPassed).setGate (fun g => { g with
        cycle := { g.cycle with pending := g.cycle.pending - x.places }
        passback := g.passback.filter (fun e =>
          !(e.ticket == x.id && e.source == .ownTentative))
        ticket := .none, redDue := red })).bump .notPassed) t) ∧
    (s.gate.redDue = some due → ∃ t, exec (.redIndicatorTimerExpiry dt) s = .next t ∧
      SettledFrom ((s.advance dt).setGate ({ · with redDue := none })) t)

/-- More than 20 ms within a record breaks its framing: what was assembled is answered FORMAT. A
character outside a record is line noise unless it is the mark, which starts a record (R155, R179).
The model's choice in this: notes/assumptions/43.md. -/
def Obligations.ReaderLine : Prop :=
  ∀ (dt : Nat) (s : State), s.readsReader = true →
    (s.term.assembling ≠ [] → s.term.lastChar + 20000 < s.clock + dt →
      ∃ t, exec (.readerGapTimeout dt) s = .next t ∧
        SettledFrom ((((s.advance dt).setTerm (fun y => { y with
          assembling := [], lastChar := s.clock + dt, replies := y.replies ++ [.format] })).setGate
            ({ · with redDue := some (s.clock + dt + 1000 * s.k .holdTime) })).bump
              .formatReplies) t) ∧
    (s.term.assembling = [] ∨ s.clock + dt ≤ s.term.lastChar + 20000 →
      ∃ t, exec (.readerGapTimeout dt) s = .next t ∧ SettledFrom (s.advance dt) t) ∧
    (∀ c : ReaderChar, s.term.assembling = [] → c.value ≠ readerMark →
      ∃ t, exec (.lineNoise dt c) s = .next t ∧
        SettledFrom ((s.advance dt).bump .lineNoise) t) ∧
    (∀ c : ReaderChar, s.term.assembling = [] → c.value = readerMark →
      ∃ t, exec (.lineNoise dt c) s = .next t ∧
        SettledFrom ((s.advance dt).setTerm ({ · with
          assembling := [readerMark], lastChar := s.clock + dt })) t)

/-! ## Terminals (Chapter 10) -/

/-- A raw level that changes starts the debounce timer of an input that the role reads when it differs
from the debounced state, and clears it when it does not; the debounced state waits for the timer
(R175). Outside the running states, and of an input not read, only the level of the wire changes.
The model's choice in this: notes/assumptions/5.md. -/
def Obligations.RawLevelDebounced : Prop :=
  ∀ (dt i : Nat) (high : Bool) (s : State), i < s.term.rawHigh.length →
    let n := (s.advance dt).setTerm (fun x => { x with rawHigh := x.rawHigh.set i high })
    let active := high != (s.conf.inputs.getD i default).inverted
    (s.running = true → i ∈ inputsRead s.role →
      ∃ t, exec (.rawInputChange dt i high) s = .next t ∧
        SettledFrom (n.setTerm (fun x => { x with
          debounceDue := x.debounceDue.modify i (fun due =>
            if active = s.input i then none
            else some (due.getD (s.clock + dt +
              1000 * (s.conf.inputs.getD i default).debounce))) })) t) ∧
    (s.running = false ∨ i ∉ inputsRead s.role →
      ∃ t, exec (.rawInputChange dt i high) s = .next t ∧ SettledFrom n t)

/-- A debounce timer that has run gives its input the raw level, after its polarity, and stops (R175).
The passage sensor of a GATE becoming active with a ticket awaiting passage passes the ticket: its places
join the unannounced, and its passback entry becomes an own one (R166). -/
def Obligations.DebounceTakesLevel : Prop :=
  ∀ (dt i : Nat) (s : State), s.running = true →
    (s.advance dt).due (s.term.debounceDue.getD i none) = true →
    (∃ t, exec (.debounceTimerExpiry dt i) s = .next t ∧
      t.term.debounced = s.term.debounced.set i (s.rawActive i) ∧
      t.term.debounceDue = s.term.debounceDue.set i none ∧ t.term.rawHigh = s.term.rawHigh) ∧
    (∀ (x : Ticket) (due : Nat), s.role = .gate → i = 0 → s.rawActive 0 = true →
      s.gate.ticket = .awaitingPassage x due →
      ∃ t, exec (.debounceTimerExpiry dt i) s = .next t ∧
        SettledFrom (((s.advance dt).setTerm (fun y => { y with
          debounced := y.debounced.set 0 true, debounceDue := y.debounceDue.set 0 none })).setGate
            (fun g => { g with
              cycle := { g.cycle with
                pending := g.cycle.pending - x.places
                unannounced := g.cycle.unannounced ++ [Unannounced.mk x.id x.places
                  (g.cycle.confirmed + g.cycle.unannouncedPlaces + x.places)] }
              passback := addPassback x.id (s.advance dt).unitTime .own g.passback
              ticket := .none })) t)

/-- The output hold timer that has run out leaves every safety hold signal off and the analog code 0,
and is counted (R177, R178). -/
def Obligations.OutputHoldExpiry : Prop :=
  ∀ (dt due : Nat) (s : State), s.term.hold = .running due → due ≤ s.clock + dt →
    ∃ t, exec (.outputHoldTimerExpiry dt) s = .next t ∧
      SettledFrom (((s.advance dt).setTerm ({ · with hold := .expired })).bump .holdExpiries) t ∧
      OutputLaw t ∧ t.term.analogOut = 0

/-! ## The service port (Chapter 11) -/

/-- Taken with no answer of a command still being sent and the image accepted, the reading commands answer
what the unit holds and change nothing else: STATUS, PEER n for an address of 0 to 31, COUNTS, BRAKE
RECORDS, and at a GATE CYCLE (R76, R172, R186, R187). In CONFIG_FAULT STATUS and BRAKE RECORDS answer
likewise (R183).
In CONFIG_FAULT the STATUS answer shows no address, role or identity, which is the model's choice
(notes/assumptions/71.md).
The model's other choices in this: notes/assumptions/41.md and notes/assumptions/44.md. -/
def Obligations.ReadingCommandsAnswer : Prop :=
  ∀ (dt : Nat) (s : State), s.commandInProgress = false →
    let n := s.advance dt
    let answered := fun (a : Answer) =>
      { n with answers := s.answers ++ [{ answer := a, ofCommand := true }] }
    (∀ st, s.phase = .configured st →
      (∃ t, exec (.status dt) s = .next t ∧
        SettledFrom (answered (.status (n.statusAnswer st))) t) ∧
      (∃ t, exec (.brakeRecords dt) s = .next t ∧
        SettledFrom (answered (.brakeRecords s.brake.records)) t)) ∧
    (∀ k, s.running = true → k ≤ 31 → ∃ t, exec (.peer dt (some k)) s = .next t ∧
      SettledFrom (answered (.peer (n.peerAnswer k))) t) ∧
    (s.running = true → ∃ t, exec (.counts dt) s = .next t ∧
      SettledFrom (answered (.counts s.counts (s.peers.map (·.rejoins)))) t) ∧
    (s.running = true → s.role = .gate → ∃ t, exec (.cycle dt) s = .next t ∧
      SettledFrom (answered (.cycle n.cycleAnswer)) t)

/-- CLEAR COUNTS sets every count to 0, the rejoin counts among them, and nothing else (R187). REFERENCE
RESTORE at standstill with both channels clean returns both to service, the reference to the primary and
the status to NORMAL (R27). -/
def Obligations.ChangingCommands : Prop :=
  ∀ (dt : Nat) (s : State), s.running = true → s.commandInProgress = false →
    let n := s.advance dt
    let queued := fun (a : Answer) => s.answers ++ [{ answer := a, ofCommand := true }]
    (∃ t, exec (.clearCounts dt) s = .next t ∧
      SettledFrom { n with
        answers := queued .done, counts := List.replicate countsSize 0
        peers := s.peers.map (fun e => { e with rejoins := 0 }) } t) ∧
    (s.meas.standstill = true → n.channelClean s.meas.e0 = true →
      n.channelClean s.meas.e1 = true →
      ∃ t, exec (.referenceRestore dt) s = .next t ∧
        SettledFrom { n with
          answers := queued .accepted
          meas := { s.meas with
            e0 := { s.meas.e0 with inService := true, zeroSince := none, lastFault := none }
            e1 := { s.meas.e1 with inService := true, zeroSince := none, lastFault := none }
            status := .normal, reference := s.conf.primary
            disagreeSince := none, agreeSince := none } } t)

/-- A command that is not carried out answers its refusal, counts it, and changes nothing else: BUSY while
an answer is being sent, UNKNOWN, RANGE for a peer out of range, ROLE for CYCLE elsewhere than at a GATE,
MOVING and CHANNEL_FAULT for REFERENCE RESTORE; STARTING for every command during the configuration read,
and NOT_CONFIGURED in CONFIG_FAULT for every command but STATUS and BRAKE RECORDS (R27, R183, R186). The last
character of an answer sent ends it.
The model's choices in this: notes/assumptions/31.md, and for the bound of the refusal count
notes/assumptions/72.md. -/
def Obligations.ServiceRefusals : Prop :=
  ∀ (dt : Nat) (s : State),
    let n := s.advance dt
    let refused := fun (r : RefusalCode) (own : Bool) (t : State) => SettledFrom
      (({ n with answers := s.answers ++ [{ answer := .refused r, ofCommand := own }] } :
        State).bump .serviceRefusals) t
    let others := fun (c : Instr) => c ∈ [Instr.counts dt, .cycle dt, .clearCounts dt,
      .referenceRestore dt, .unknownCommand dt] ∨ ∃ k, c = .peer dt k
    let commands := fun (c : Instr) => c = .status dt ∨ c = .brakeRecords dt ∨ others c
    (s.alive = true → s.commandInProgress = true → ∀ c : Instr, commands c →
      ∃ t, exec c s = .next t ∧ refused .busy false t) ∧
    (s.running = true → s.commandInProgress = false →
      (∃ t, exec (.unknownCommand dt) s = .next t ∧ refused .unknown true t) ∧
      (∀ k, 31 < k → ∃ t, exec (.peer dt (some k)) s = .next t ∧ refused .range true t) ∧
      (∃ t, exec (.peer dt none) s = .next t ∧ refused .range true t) ∧
      (s.role ≠ .gate → ∃ t, exec (.cycle dt) s = .next t ∧ refused .role true t) ∧
      (s.meas.standstill = false →
        ∃ t, exec (.referenceRestore dt) s = .next t ∧ refused .moving true t) ∧
      (s.meas.standstill = true →
        n.channelClean s.meas.e0 = false ∨ n.channelClean s.meas.e1 = false →
        ∃ t, exec (.referenceRestore dt) s = .next t ∧ refused .channelFault true t)) ∧
    (s.phase = .starting → s.commandInProgress = false → ∀ c : Instr, commands c →
      ∃ t, exec c s = .next t ∧ refused .starting true t) ∧
    (s.phase = .configured .configFault → s.commandInProgress = false → ∀ c : Instr, others c →
      ∃ t, exec c s = .next t ∧ refused .notConfigured true t) ∧
    (∃ t, exec (.serviceAnswerSent dt) s = .next t ∧
      SettledFrom { n with answers := s.answers.tail } t)
end

