-- ==== Sys2Proof/Laws/State.lean ====
section
/-! SUPPORT. One lemma per field for each update of the state, so that no later proof unfolds a record
update. -/

namespace Sys2Proof.Machine

open Sys2Proof


/-! ### advance -/

@[simp] theorem State.advance_pending (s : State) (dt : Nat) : (s.advance dt).pending = s.pending := rfl
@[simp] theorem State.advance_clock (s : State) (dt : Nat) : (s.advance dt).clock = s.clock + dt := rfl
@[simp] theorem State.advance_phase (s : State) (dt : Nat) : (s.advance dt).phase = s.phase := rfl
@[simp] theorem State.advance_resetPin (s : State) (dt : Nat) : (s.advance dt).resetPin = s.resetPin := rfl
@[simp] theorem State.advance_failure (s : State) (dt : Nat) : (s.advance dt).failure = s.failure := rfl
@[simp] theorem State.advance_cfg (s : State) (dt : Nat) : (s.advance dt).cfg = s.cfg := rfl
@[simp] theorem State.advance_listenDue (s : State) (dt : Nat) : (s.advance dt).listenDue = s.listenDue := rfl
@[simp] theorem State.advance_sampleDue (s : State) (dt : Nat) : (s.advance dt).sampleDue = s.sampleDue := rfl
@[simp] theorem State.advance_prof (s : State) (dt : Nat) : (s.advance dt).prof = s.prof := rfl
@[simp] theorem State.advance_meas (s : State) (dt : Nat) : (s.advance dt).meas = s.meas := rfl
@[simp] theorem State.advance_bus (s : State) (dt : Nat) : (s.advance dt).bus = s.bus := rfl
@[simp] theorem State.advance_peers (s : State) (dt : Nat) : (s.advance dt).peers = s.peers := rfl
@[simp] theorem State.advance_sup (s : State) (dt : Nat) : (s.advance dt).sup = s.sup := rfl
@[simp] theorem State.advance_brake (s : State) (dt : Nat) : (s.advance dt).brake = s.brake := rfl
@[simp] theorem State.advance_trip (s : State) (dt : Nat) : (s.advance dt).trip = s.trip := rfl
@[simp] theorem State.advance_door (s : State) (dt : Nat) : (s.advance dt).door = s.door := rfl
@[simp] theorem State.advance_grant (s : State) (dt : Nat) : (s.advance dt).grant = s.grant := rfl
@[simp] theorem State.advance_gate (s : State) (dt : Nat) : (s.advance dt).gate = s.gate := rfl
@[simp] theorem State.advance_term (s : State) (dt : Nat) : (s.advance dt).term = s.term := rfl
@[simp] theorem State.advance_answers (s : State) (dt : Nat) : (s.advance dt).answers = s.answers := rfl
@[simp] theorem State.advance_counts (s : State) (dt : Nat) : (s.advance dt).counts = s.counts := rfl

/-! ### bump -/

@[simp] theorem State.bump_pending (s : State) (c : Count) : (s.bump c).pending = s.pending := rfl
@[simp] theorem State.bump_clock (s : State) (c : Count) : (s.bump c).clock = s.clock := rfl
@[simp] theorem State.bump_phase (s : State) (c : Count) : (s.bump c).phase = s.phase := rfl
@[simp] theorem State.bump_resetPin (s : State) (c : Count) : (s.bump c).resetPin = s.resetPin := rfl
@[simp] theorem State.bump_failure (s : State) (c : Count) : (s.bump c).failure = s.failure := rfl
@[simp] theorem State.bump_cfg (s : State) (c : Count) : (s.bump c).cfg = s.cfg := rfl
@[simp] theorem State.bump_listenDue (s : State) (c : Count) : (s.bump c).listenDue = s.listenDue := rfl
@[simp] theorem State.bump_sampleDue (s : State) (c : Count) : (s.bump c).sampleDue = s.sampleDue := rfl
@[simp] theorem State.bump_prof (s : State) (c : Count) : (s.bump c).prof = s.prof := rfl
@[simp] theorem State.bump_meas (s : State) (c : Count) : (s.bump c).meas = s.meas := rfl
@[simp] theorem State.bump_bus (s : State) (c : Count) : (s.bump c).bus = s.bus := rfl
@[simp] theorem State.bump_peers (s : State) (c : Count) : (s.bump c).peers = s.peers := rfl
@[simp] theorem State.bump_sup (s : State) (c : Count) : (s.bump c).sup = s.sup := rfl
@[simp] theorem State.bump_brake (s : State) (c : Count) : (s.bump c).brake = s.brake := rfl
@[simp] theorem State.bump_trip (s : State) (c : Count) : (s.bump c).trip = s.trip := rfl
@[simp] theorem State.bump_door (s : State) (c : Count) : (s.bump c).door = s.door := rfl
@[simp] theorem State.bump_grant (s : State) (c : Count) : (s.bump c).grant = s.grant := rfl
@[simp] theorem State.bump_gate (s : State) (c : Count) : (s.bump c).gate = s.gate := rfl
@[simp] theorem State.bump_term (s : State) (c : Count) : (s.bump c).term = s.term := rfl
@[simp] theorem State.bump_answers (s : State) (c : Count) : (s.bump c).answers = s.answers := rfl
@[simp] theorem State.bump_counts (s : State) (c : Count) : (s.bump c).counts = s.counts.modify c.ctorIdx satInc := rfl

/-! ### setQueue -/

@[simp] theorem State.setQueue_pending (s : State) (q : List TxFrame) (k : FrameKind) : (s.setQueue q k).pending = s.pending := rfl
@[simp] theorem State.setQueue_clock (s : State) (q : List TxFrame) (k : FrameKind) : (s.setQueue q k).clock = s.clock := rfl
@[simp] theorem State.setQueue_phase (s : State) (q : List TxFrame) (k : FrameKind) : (s.setQueue q k).phase = s.phase := rfl
@[simp] theorem State.setQueue_resetPin (s : State) (q : List TxFrame) (k : FrameKind) : (s.setQueue q k).resetPin = s.resetPin := rfl
@[simp] theorem State.setQueue_failure (s : State) (q : List TxFrame) (k : FrameKind) : (s.setQueue q k).failure = s.failure := rfl
@[simp] theorem State.setQueue_cfg (s : State) (q : List TxFrame) (k : FrameKind) : (s.setQueue q k).cfg = s.cfg := rfl
@[simp] theorem State.setQueue_listenDue (s : State) (q : List TxFrame) (k : FrameKind) : (s.setQueue q k).listenDue = s.listenDue := rfl
@[simp] theorem State.setQueue_sampleDue (s : State) (q : List TxFrame) (k : FrameKind) : (s.setQueue q k).sampleDue = s.sampleDue := rfl
@[simp] theorem State.setQueue_prof (s : State) (q : List TxFrame) (k : FrameKind) : (s.setQueue q k).prof = s.prof := rfl
@[simp] theorem State.setQueue_meas (s : State) (q : List TxFrame) (k : FrameKind) : (s.setQueue q k).meas = s.meas := rfl
@[simp] theorem State.setQueue_bus (s : State) (q : List TxFrame) (k : FrameKind) : (s.setQueue q k).bus = { s.bus with queue := q, seqNext := s.bus.seqNext.set k.code ((s.bus.nextSeq k + 1) % 16) } := rfl
@[simp] theorem State.setQueue_peers (s : State) (q : List TxFrame) (k : FrameKind) : (s.setQueue q k).peers = s.peers := rfl
@[simp] theorem State.setQueue_sup (s : State) (q : List TxFrame) (k : FrameKind) : (s.setQueue q k).sup = s.sup := rfl
@[simp] theorem State.setQueue_brake (s : State) (q : List TxFrame) (k : FrameKind) : (s.setQueue q k).brake = s.brake := rfl
@[simp] theorem State.setQueue_trip (s : State) (q : List TxFrame) (k : FrameKind) : (s.setQueue q k).trip = s.trip := rfl
@[simp] theorem State.setQueue_door (s : State) (q : List TxFrame) (k : FrameKind) : (s.setQueue q k).door = s.door := rfl
@[simp] theorem State.setQueue_grant (s : State) (q : List TxFrame) (k : FrameKind) : (s.setQueue q k).grant = s.grant := rfl
@[simp] theorem State.setQueue_gate (s : State) (q : List TxFrame) (k : FrameKind) : (s.setQueue q k).gate = s.gate := rfl
@[simp] theorem State.setQueue_term (s : State) (q : List TxFrame) (k : FrameKind) : (s.setQueue q k).term = s.term := rfl
@[simp] theorem State.setQueue_answers (s : State) (q : List TxFrame) (k : FrameKind) : (s.setQueue q k).answers = s.answers := rfl
@[simp] theorem State.setQueue_counts (s : State) (q : List TxFrame) (k : FrameKind) : (s.setQueue q k).counts = s.counts := rfl

/-! ### setTrip -/

@[simp] theorem State.setTrip_pending (s : State) (f : TripController → TripController) : (s.setTrip f).pending = s.pending := rfl
@[simp] theorem State.setTrip_clock (s : State) (f : TripController → TripController) : (s.setTrip f).clock = s.clock := rfl
@[simp] theorem State.setTrip_phase (s : State) (f : TripController → TripController) : (s.setTrip f).phase = s.phase := rfl
@[simp] theorem State.setTrip_resetPin (s : State) (f : TripController → TripController) : (s.setTrip f).resetPin = s.resetPin := rfl
@[simp] theorem State.setTrip_failure (s : State) (f : TripController → TripController) : (s.setTrip f).failure = s.failure := rfl
@[simp] theorem State.setTrip_cfg (s : State) (f : TripController → TripController) : (s.setTrip f).cfg = s.cfg := rfl
@[simp] theorem State.setTrip_listenDue (s : State) (f : TripController → TripController) : (s.setTrip f).listenDue = s.listenDue := rfl
@[simp] theorem State.setTrip_sampleDue (s : State) (f : TripController → TripController) : (s.setTrip f).sampleDue = s.sampleDue := rfl
@[simp] theorem State.setTrip_prof (s : State) (f : TripController → TripController) : (s.setTrip f).prof = s.prof := rfl
@[simp] theorem State.setTrip_meas (s : State) (f : TripController → TripController) : (s.setTrip f).meas = s.meas := rfl
@[simp] theorem State.setTrip_bus (s : State) (f : TripController → TripController) : (s.setTrip f).bus = s.bus := rfl
@[simp] theorem State.setTrip_peers (s : State) (f : TripController → TripController) : (s.setTrip f).peers = s.peers := rfl
@[simp] theorem State.setTrip_sup (s : State) (f : TripController → TripController) : (s.setTrip f).sup = s.sup := rfl
@[simp] theorem State.setTrip_brake (s : State) (f : TripController → TripController) : (s.setTrip f).brake = s.brake := rfl
@[simp] theorem State.setTrip_trip (s : State) (f : TripController → TripController) : (s.setTrip f).trip = f s.trip := rfl
@[simp] theorem State.setTrip_door (s : State) (f : TripController → TripController) : (s.setTrip f).door = s.door := rfl
@[simp] theorem State.setTrip_grant (s : State) (f : TripController → TripController) : (s.setTrip f).grant = s.grant := rfl
@[simp] theorem State.setTrip_gate (s : State) (f : TripController → TripController) : (s.setTrip f).gate = s.gate := rfl
@[simp] theorem State.setTrip_term (s : State) (f : TripController → TripController) : (s.setTrip f).term = s.term := rfl
@[simp] theorem State.setTrip_answers (s : State) (f : TripController → TripController) : (s.setTrip f).answers = s.answers := rfl
@[simp] theorem State.setTrip_counts (s : State) (f : TripController → TripController) : (s.setTrip f).counts = s.counts := rfl

/-! ### setDoor -/

@[simp] theorem State.setDoor_pending (s : State) (f : DoorBlock → DoorBlock) : (s.setDoor f).pending = s.pending := rfl
@[simp] theorem State.setDoor_clock (s : State) (f : DoorBlock → DoorBlock) : (s.setDoor f).clock = s.clock := rfl
@[simp] theorem State.setDoor_phase (s : State) (f : DoorBlock → DoorBlock) : (s.setDoor f).phase = s.phase := rfl
@[simp] theorem State.setDoor_resetPin (s : State) (f : DoorBlock → DoorBlock) : (s.setDoor f).resetPin = s.resetPin := rfl
@[simp] theorem State.setDoor_failure (s : State) (f : DoorBlock → DoorBlock) : (s.setDoor f).failure = s.failure := rfl
@[simp] theorem State.setDoor_cfg (s : State) (f : DoorBlock → DoorBlock) : (s.setDoor f).cfg = s.cfg := rfl
@[simp] theorem State.setDoor_listenDue (s : State) (f : DoorBlock → DoorBlock) : (s.setDoor f).listenDue = s.listenDue := rfl
@[simp] theorem State.setDoor_sampleDue (s : State) (f : DoorBlock → DoorBlock) : (s.setDoor f).sampleDue = s.sampleDue := rfl
@[simp] theorem State.setDoor_prof (s : State) (f : DoorBlock → DoorBlock) : (s.setDoor f).prof = s.prof := rfl
@[simp] theorem State.setDoor_meas (s : State) (f : DoorBlock → DoorBlock) : (s.setDoor f).meas = s.meas := rfl
@[simp] theorem State.setDoor_bus (s : State) (f : DoorBlock → DoorBlock) : (s.setDoor f).bus = s.bus := rfl
@[simp] theorem State.setDoor_peers (s : State) (f : DoorBlock → DoorBlock) : (s.setDoor f).peers = s.peers := rfl
@[simp] theorem State.setDoor_sup (s : State) (f : DoorBlock → DoorBlock) : (s.setDoor f).sup = s.sup := rfl
@[simp] theorem State.setDoor_brake (s : State) (f : DoorBlock → DoorBlock) : (s.setDoor f).brake = s.brake := rfl
@[simp] theorem State.setDoor_trip (s : State) (f : DoorBlock → DoorBlock) : (s.setDoor f).trip = s.trip := rfl
@[simp] theorem State.setDoor_door (s : State) (f : DoorBlock → DoorBlock) : (s.setDoor f).door = f s.door := rfl
@[simp] theorem State.setDoor_grant (s : State) (f : DoorBlock → DoorBlock) : (s.setDoor f).grant = s.grant := rfl
@[simp] theorem State.setDoor_gate (s : State) (f : DoorBlock → DoorBlock) : (s.setDoor f).gate = s.gate := rfl
@[simp] theorem State.setDoor_term (s : State) (f : DoorBlock → DoorBlock) : (s.setDoor f).term = s.term := rfl
@[simp] theorem State.setDoor_answers (s : State) (f : DoorBlock → DoorBlock) : (s.setDoor f).answers = s.answers := rfl
@[simp] theorem State.setDoor_counts (s : State) (f : DoorBlock → DoorBlock) : (s.setDoor f).counts = s.counts := rfl

/-! ### setGate -/

@[simp] theorem State.setGate_pending (s : State) (f : GateBlock → GateBlock) : (s.setGate f).pending = s.pending := rfl
@[simp] theorem State.setGate_clock (s : State) (f : GateBlock → GateBlock) : (s.setGate f).clock = s.clock := rfl
@[simp] theorem State.setGate_phase (s : State) (f : GateBlock → GateBlock) : (s.setGate f).phase = s.phase := rfl
@[simp] theorem State.setGate_resetPin (s : State) (f : GateBlock → GateBlock) : (s.setGate f).resetPin = s.resetPin := rfl
@[simp] theorem State.setGate_failure (s : State) (f : GateBlock → GateBlock) : (s.setGate f).failure = s.failure := rfl
@[simp] theorem State.setGate_cfg (s : State) (f : GateBlock → GateBlock) : (s.setGate f).cfg = s.cfg := rfl
@[simp] theorem State.setGate_listenDue (s : State) (f : GateBlock → GateBlock) : (s.setGate f).listenDue = s.listenDue := rfl
@[simp] theorem State.setGate_sampleDue (s : State) (f : GateBlock → GateBlock) : (s.setGate f).sampleDue = s.sampleDue := rfl
@[simp] theorem State.setGate_prof (s : State) (f : GateBlock → GateBlock) : (s.setGate f).prof = s.prof := rfl
@[simp] theorem State.setGate_meas (s : State) (f : GateBlock → GateBlock) : (s.setGate f).meas = s.meas := rfl
@[simp] theorem State.setGate_bus (s : State) (f : GateBlock → GateBlock) : (s.setGate f).bus = s.bus := rfl
@[simp] theorem State.setGate_peers (s : State) (f : GateBlock → GateBlock) : (s.setGate f).peers = s.peers := rfl
@[simp] theorem State.setGate_sup (s : State) (f : GateBlock → GateBlock) : (s.setGate f).sup = s.sup := rfl
@[simp] theorem State.setGate_brake (s : State) (f : GateBlock → GateBlock) : (s.setGate f).brake = s.brake := rfl
@[simp] theorem State.setGate_trip (s : State) (f : GateBlock → GateBlock) : (s.setGate f).trip = s.trip := rfl
@[simp] theorem State.setGate_door (s : State) (f : GateBlock → GateBlock) : (s.setGate f).door = s.door := rfl
@[simp] theorem State.setGate_grant (s : State) (f : GateBlock → GateBlock) : (s.setGate f).grant = s.grant := rfl
@[simp] theorem State.setGate_gate (s : State) (f : GateBlock → GateBlock) : (s.setGate f).gate = f s.gate := rfl
@[simp] theorem State.setGate_term (s : State) (f : GateBlock → GateBlock) : (s.setGate f).term = s.term := rfl
@[simp] theorem State.setGate_answers (s : State) (f : GateBlock → GateBlock) : (s.setGate f).answers = s.answers := rfl
@[simp] theorem State.setGate_counts (s : State) (f : GateBlock → GateBlock) : (s.setGate f).counts = s.counts := rfl

/-! ### setCycle -/

@[simp] theorem State.setCycle_pending (s : State) (f : BoardingCycle → BoardingCycle) : (s.setCycle f).pending = s.pending := rfl
@[simp] theorem State.setCycle_clock (s : State) (f : BoardingCycle → BoardingCycle) : (s.setCycle f).clock = s.clock := rfl
@[simp] theorem State.setCycle_phase (s : State) (f : BoardingCycle → BoardingCycle) : (s.setCycle f).phase = s.phase := rfl
@[simp] theorem State.setCycle_resetPin (s : State) (f : BoardingCycle → BoardingCycle) : (s.setCycle f).resetPin = s.resetPin := rfl
@[simp] theorem State.setCycle_failure (s : State) (f : BoardingCycle → BoardingCycle) : (s.setCycle f).failure = s.failure := rfl
@[simp] theorem State.setCycle_cfg (s : State) (f : BoardingCycle → BoardingCycle) : (s.setCycle f).cfg = s.cfg := rfl
@[simp] theorem State.setCycle_listenDue (s : State) (f : BoardingCycle → BoardingCycle) : (s.setCycle f).listenDue = s.listenDue := rfl
@[simp] theorem State.setCycle_sampleDue (s : State) (f : BoardingCycle → BoardingCycle) : (s.setCycle f).sampleDue = s.sampleDue := rfl
@[simp] theorem State.setCycle_prof (s : State) (f : BoardingCycle → BoardingCycle) : (s.setCycle f).prof = s.prof := rfl
@[simp] theorem State.setCycle_meas (s : State) (f : BoardingCycle → BoardingCycle) : (s.setCycle f).meas = s.meas := rfl
@[simp] theorem State.setCycle_bus (s : State) (f : BoardingCycle → BoardingCycle) : (s.setCycle f).bus = s.bus := rfl
@[simp] theorem State.setCycle_peers (s : State) (f : BoardingCycle → BoardingCycle) : (s.setCycle f).peers = s.peers := rfl
@[simp] theorem State.setCycle_sup (s : State) (f : BoardingCycle → BoardingCycle) : (s.setCycle f).sup = s.sup := rfl
@[simp] theorem State.setCycle_brake (s : State) (f : BoardingCycle → BoardingCycle) : (s.setCycle f).brake = s.brake := rfl
@[simp] theorem State.setCycle_trip (s : State) (f : BoardingCycle → BoardingCycle) : (s.setCycle f).trip = s.trip := rfl
@[simp] theorem State.setCycle_door (s : State) (f : BoardingCycle → BoardingCycle) : (s.setCycle f).door = s.door := rfl
@[simp] theorem State.setCycle_grant (s : State) (f : BoardingCycle → BoardingCycle) : (s.setCycle f).grant = s.grant := rfl
@[simp] theorem State.setCycle_gate (s : State) (f : BoardingCycle → BoardingCycle) : (s.setCycle f).gate = { s.gate with cycle := f s.gate.cycle } := rfl
@[simp] theorem State.setCycle_term (s : State) (f : BoardingCycle → BoardingCycle) : (s.setCycle f).term = s.term := rfl
@[simp] theorem State.setCycle_answers (s : State) (f : BoardingCycle → BoardingCycle) : (s.setCycle f).answers = s.answers := rfl
@[simp] theorem State.setCycle_counts (s : State) (f : BoardingCycle → BoardingCycle) : (s.setCycle f).counts = s.counts := rfl

/-! ### setTicket -/

@[simp] theorem State.setTicket_pending (s : State) (t : TicketState) : (s.setTicket t).pending = s.pending := rfl
@[simp] theorem State.setTicket_clock (s : State) (t : TicketState) : (s.setTicket t).clock = s.clock := rfl
@[simp] theorem State.setTicket_phase (s : State) (t : TicketState) : (s.setTicket t).phase = s.phase := rfl
@[simp] theorem State.setTicket_resetPin (s : State) (t : TicketState) : (s.setTicket t).resetPin = s.resetPin := rfl
@[simp] theorem State.setTicket_failure (s : State) (t : TicketState) : (s.setTicket t).failure = s.failure := rfl
@[simp] theorem State.setTicket_cfg (s : State) (t : TicketState) : (s.setTicket t).cfg = s.cfg := rfl
@[simp] theorem State.setTicket_listenDue (s : State) (t : TicketState) : (s.setTicket t).listenDue = s.listenDue := rfl
@[simp] theorem State.setTicket_sampleDue (s : State) (t : TicketState) : (s.setTicket t).sampleDue = s.sampleDue := rfl
@[simp] theorem State.setTicket_prof (s : State) (t : TicketState) : (s.setTicket t).prof = s.prof := rfl
@[simp] theorem State.setTicket_meas (s : State) (t : TicketState) : (s.setTicket t).meas = s.meas := rfl
@[simp] theorem State.setTicket_bus (s : State) (t : TicketState) : (s.setTicket t).bus = s.bus := rfl
@[simp] theorem State.setTicket_peers (s : State) (t : TicketState) : (s.setTicket t).peers = s.peers := rfl
@[simp] theorem State.setTicket_sup (s : State) (t : TicketState) : (s.setTicket t).sup = s.sup := rfl
@[simp] theorem State.setTicket_brake (s : State) (t : TicketState) : (s.setTicket t).brake = s.brake := rfl
@[simp] theorem State.setTicket_trip (s : State) (t : TicketState) : (s.setTicket t).trip = s.trip := rfl
@[simp] theorem State.setTicket_door (s : State) (t : TicketState) : (s.setTicket t).door = s.door := rfl
@[simp] theorem State.setTicket_grant (s : State) (t : TicketState) : (s.setTicket t).grant = s.grant := rfl
@[simp] theorem State.setTicket_gate (s : State) (t : TicketState) : (s.setTicket t).gate = { s.gate with ticket := t } := rfl
@[simp] theorem State.setTicket_term (s : State) (t : TicketState) : (s.setTicket t).term = s.term := rfl
@[simp] theorem State.setTicket_answers (s : State) (t : TicketState) : (s.setTicket t).answers = s.answers := rfl
@[simp] theorem State.setTicket_counts (s : State) (t : TicketState) : (s.setTicket t).counts = s.counts := rfl

/-! ### setBrake -/

@[simp] theorem State.setBrake_pending (s : State) (f : Brake → Brake) : (s.setBrake f).pending = s.pending := rfl
@[simp] theorem State.setBrake_clock (s : State) (f : Brake → Brake) : (s.setBrake f).clock = s.clock := rfl
@[simp] theorem State.setBrake_phase (s : State) (f : Brake → Brake) : (s.setBrake f).phase = s.phase := rfl
@[simp] theorem State.setBrake_resetPin (s : State) (f : Brake → Brake) : (s.setBrake f).resetPin = s.resetPin := rfl
@[simp] theorem State.setBrake_failure (s : State) (f : Brake → Brake) : (s.setBrake f).failure = s.failure := rfl
@[simp] theorem State.setBrake_cfg (s : State) (f : Brake → Brake) : (s.setBrake f).cfg = s.cfg := rfl
@[simp] theorem State.setBrake_listenDue (s : State) (f : Brake → Brake) : (s.setBrake f).listenDue = s.listenDue := rfl
@[simp] theorem State.setBrake_sampleDue (s : State) (f : Brake → Brake) : (s.setBrake f).sampleDue = s.sampleDue := rfl
@[simp] theorem State.setBrake_prof (s : State) (f : Brake → Brake) : (s.setBrake f).prof = s.prof := rfl
@[simp] theorem State.setBrake_meas (s : State) (f : Brake → Brake) : (s.setBrake f).meas = s.meas := rfl
@[simp] theorem State.setBrake_bus (s : State) (f : Brake → Brake) : (s.setBrake f).bus = s.bus := rfl
@[simp] theorem State.setBrake_peers (s : State) (f : Brake → Brake) : (s.setBrake f).peers = s.peers := rfl
@[simp] theorem State.setBrake_sup (s : State) (f : Brake → Brake) : (s.setBrake f).sup = s.sup := rfl
@[simp] theorem State.setBrake_brake (s : State) (f : Brake → Brake) : (s.setBrake f).brake = f s.brake := rfl
@[simp] theorem State.setBrake_trip (s : State) (f : Brake → Brake) : (s.setBrake f).trip = s.trip := rfl
@[simp] theorem State.setBrake_door (s : State) (f : Brake → Brake) : (s.setBrake f).door = s.door := rfl
@[simp] theorem State.setBrake_grant (s : State) (f : Brake → Brake) : (s.setBrake f).grant = s.grant := rfl
@[simp] theorem State.setBrake_gate (s : State) (f : Brake → Brake) : (s.setBrake f).gate = s.gate := rfl
@[simp] theorem State.setBrake_term (s : State) (f : Brake → Brake) : (s.setBrake f).term = s.term := rfl
@[simp] theorem State.setBrake_answers (s : State) (f : Brake → Brake) : (s.setBrake f).answers = s.answers := rfl
@[simp] theorem State.setBrake_counts (s : State) (f : Brake → Brake) : (s.setBrake f).counts = s.counts := rfl

/-! ### setGrant -/

@[simp] theorem State.setGrant_pending (s : State) (f : GrantTable → GrantTable) : (s.setGrant f).pending = s.pending := rfl
@[simp] theorem State.setGrant_clock (s : State) (f : GrantTable → GrantTable) : (s.setGrant f).clock = s.clock := rfl
@[simp] theorem State.setGrant_phase (s : State) (f : GrantTable → GrantTable) : (s.setGrant f).phase = s.phase := rfl
@[simp] theorem State.setGrant_resetPin (s : State) (f : GrantTable → GrantTable) : (s.setGrant f).resetPin = s.resetPin := rfl
@[simp] theorem State.setGrant_failure (s : State) (f : GrantTable → GrantTable) : (s.setGrant f).failure = s.failure := rfl
@[simp] theorem State.setGrant_cfg (s : State) (f : GrantTable → GrantTable) : (s.setGrant f).cfg = s.cfg := rfl
@[simp] theorem State.setGrant_listenDue (s : State) (f : GrantTable → GrantTable) : (s.setGrant f).listenDue = s.listenDue := rfl
@[simp] theorem State.setGrant_sampleDue (s : State) (f : GrantTable → GrantTable) : (s.setGrant f).sampleDue = s.sampleDue := rfl
@[simp] theorem State.setGrant_prof (s : State) (f : GrantTable → GrantTable) : (s.setGrant f).prof = s.prof := rfl
@[simp] theorem State.setGrant_meas (s : State) (f : GrantTable → GrantTable) : (s.setGrant f).meas = s.meas := rfl
@[simp] theorem State.setGrant_bus (s : State) (f : GrantTable → GrantTable) : (s.setGrant f).bus = s.bus := rfl
@[simp] theorem State.setGrant_peers (s : State) (f : GrantTable → GrantTable) : (s.setGrant f).peers = s.peers := rfl
@[simp] theorem State.setGrant_sup (s : State) (f : GrantTable → GrantTable) : (s.setGrant f).sup = s.sup := rfl
@[simp] theorem State.setGrant_brake (s : State) (f : GrantTable → GrantTable) : (s.setGrant f).brake = s.brake := rfl
@[simp] theorem State.setGrant_trip (s : State) (f : GrantTable → GrantTable) : (s.setGrant f).trip = s.trip := rfl
@[simp] theorem State.setGrant_door (s : State) (f : GrantTable → GrantTable) : (s.setGrant f).door = s.door := rfl
@[simp] theorem State.setGrant_grant (s : State) (f : GrantTable → GrantTable) : (s.setGrant f).grant = f s.grant := rfl
@[simp] theorem State.setGrant_gate (s : State) (f : GrantTable → GrantTable) : (s.setGrant f).gate = s.gate := rfl
@[simp] theorem State.setGrant_term (s : State) (f : GrantTable → GrantTable) : (s.setGrant f).term = s.term := rfl
@[simp] theorem State.setGrant_answers (s : State) (f : GrantTable → GrantTable) : (s.setGrant f).answers = s.answers := rfl
@[simp] theorem State.setGrant_counts (s : State) (f : GrantTable → GrantTable) : (s.setGrant f).counts = s.counts := rfl

/-! ### setMeas -/

@[simp] theorem State.setMeas_pending (s : State) (f : Measurement → Measurement) : (s.setMeas f).pending = s.pending := rfl
@[simp] theorem State.setMeas_clock (s : State) (f : Measurement → Measurement) : (s.setMeas f).clock = s.clock := rfl
@[simp] theorem State.setMeas_phase (s : State) (f : Measurement → Measurement) : (s.setMeas f).phase = s.phase := rfl
@[simp] theorem State.setMeas_resetPin (s : State) (f : Measurement → Measurement) : (s.setMeas f).resetPin = s.resetPin := rfl
@[simp] theorem State.setMeas_failure (s : State) (f : Measurement → Measurement) : (s.setMeas f).failure = s.failure := rfl
@[simp] theorem State.setMeas_cfg (s : State) (f : Measurement → Measurement) : (s.setMeas f).cfg = s.cfg := rfl
@[simp] theorem State.setMeas_listenDue (s : State) (f : Measurement → Measurement) : (s.setMeas f).listenDue = s.listenDue := rfl
@[simp] theorem State.setMeas_sampleDue (s : State) (f : Measurement → Measurement) : (s.setMeas f).sampleDue = s.sampleDue := rfl
@[simp] theorem State.setMeas_prof (s : State) (f : Measurement → Measurement) : (s.setMeas f).prof = s.prof := rfl
@[simp] theorem State.setMeas_meas (s : State) (f : Measurement → Measurement) : (s.setMeas f).meas = f s.meas := rfl
@[simp] theorem State.setMeas_bus (s : State) (f : Measurement → Measurement) : (s.setMeas f).bus = s.bus := rfl
@[simp] theorem State.setMeas_peers (s : State) (f : Measurement → Measurement) : (s.setMeas f).peers = s.peers := rfl
@[simp] theorem State.setMeas_sup (s : State) (f : Measurement → Measurement) : (s.setMeas f).sup = s.sup := rfl
@[simp] theorem State.setMeas_brake (s : State) (f : Measurement → Measurement) : (s.setMeas f).brake = s.brake := rfl
@[simp] theorem State.setMeas_trip (s : State) (f : Measurement → Measurement) : (s.setMeas f).trip = s.trip := rfl
@[simp] theorem State.setMeas_door (s : State) (f : Measurement → Measurement) : (s.setMeas f).door = s.door := rfl
@[simp] theorem State.setMeas_grant (s : State) (f : Measurement → Measurement) : (s.setMeas f).grant = s.grant := rfl
@[simp] theorem State.setMeas_gate (s : State) (f : Measurement → Measurement) : (s.setMeas f).gate = s.gate := rfl
@[simp] theorem State.setMeas_term (s : State) (f : Measurement → Measurement) : (s.setMeas f).term = s.term := rfl
@[simp] theorem State.setMeas_answers (s : State) (f : Measurement → Measurement) : (s.setMeas f).answers = s.answers := rfl
@[simp] theorem State.setMeas_counts (s : State) (f : Measurement → Measurement) : (s.setMeas f).counts = s.counts := rfl

/-! ### setSup -/

@[simp] theorem State.setSup_pending (s : State) (f : Supervision → Supervision) : (s.setSup f).pending = s.pending := rfl
@[simp] theorem State.setSup_clock (s : State) (f : Supervision → Supervision) : (s.setSup f).clock = s.clock := rfl
@[simp] theorem State.setSup_phase (s : State) (f : Supervision → Supervision) : (s.setSup f).phase = s.phase := rfl
@[simp] theorem State.setSup_resetPin (s : State) (f : Supervision → Supervision) : (s.setSup f).resetPin = s.resetPin := rfl
@[simp] theorem State.setSup_failure (s : State) (f : Supervision → Supervision) : (s.setSup f).failure = s.failure := rfl
@[simp] theorem State.setSup_cfg (s : State) (f : Supervision → Supervision) : (s.setSup f).cfg = s.cfg := rfl
@[simp] theorem State.setSup_listenDue (s : State) (f : Supervision → Supervision) : (s.setSup f).listenDue = s.listenDue := rfl
@[simp] theorem State.setSup_sampleDue (s : State) (f : Supervision → Supervision) : (s.setSup f).sampleDue = s.sampleDue := rfl
@[simp] theorem State.setSup_prof (s : State) (f : Supervision → Supervision) : (s.setSup f).prof = s.prof := rfl
@[simp] theorem State.setSup_meas (s : State) (f : Supervision → Supervision) : (s.setSup f).meas = s.meas := rfl
@[simp] theorem State.setSup_bus (s : State) (f : Supervision → Supervision) : (s.setSup f).bus = s.bus := rfl
@[simp] theorem State.setSup_peers (s : State) (f : Supervision → Supervision) : (s.setSup f).peers = s.peers := rfl
@[simp] theorem State.setSup_sup (s : State) (f : Supervision → Supervision) : (s.setSup f).sup = f s.sup := rfl
@[simp] theorem State.setSup_brake (s : State) (f : Supervision → Supervision) : (s.setSup f).brake = s.brake := rfl
@[simp] theorem State.setSup_trip (s : State) (f : Supervision → Supervision) : (s.setSup f).trip = s.trip := rfl
@[simp] theorem State.setSup_door (s : State) (f : Supervision → Supervision) : (s.setSup f).door = s.door := rfl
@[simp] theorem State.setSup_grant (s : State) (f : Supervision → Supervision) : (s.setSup f).grant = s.grant := rfl
@[simp] theorem State.setSup_gate (s : State) (f : Supervision → Supervision) : (s.setSup f).gate = s.gate := rfl
@[simp] theorem State.setSup_term (s : State) (f : Supervision → Supervision) : (s.setSup f).term = s.term := rfl
@[simp] theorem State.setSup_answers (s : State) (f : Supervision → Supervision) : (s.setSup f).answers = s.answers := rfl
@[simp] theorem State.setSup_counts (s : State) (f : Supervision → Supervision) : (s.setSup f).counts = s.counts := rfl

/-! ### setBus -/

@[simp] theorem State.setBus_pending (s : State) (f : LineBus → LineBus) : (s.setBus f).pending = s.pending := rfl
@[simp] theorem State.setBus_clock (s : State) (f : LineBus → LineBus) : (s.setBus f).clock = s.clock := rfl
@[simp] theorem State.setBus_phase (s : State) (f : LineBus → LineBus) : (s.setBus f).phase = s.phase := rfl
@[simp] theorem State.setBus_resetPin (s : State) (f : LineBus → LineBus) : (s.setBus f).resetPin = s.resetPin := rfl
@[simp] theorem State.setBus_failure (s : State) (f : LineBus → LineBus) : (s.setBus f).failure = s.failure := rfl
@[simp] theorem State.setBus_cfg (s : State) (f : LineBus → LineBus) : (s.setBus f).cfg = s.cfg := rfl
@[simp] theorem State.setBus_listenDue (s : State) (f : LineBus → LineBus) : (s.setBus f).listenDue = s.listenDue := rfl
@[simp] theorem State.setBus_sampleDue (s : State) (f : LineBus → LineBus) : (s.setBus f).sampleDue = s.sampleDue := rfl
@[simp] theorem State.setBus_prof (s : State) (f : LineBus → LineBus) : (s.setBus f).prof = s.prof := rfl
@[simp] theorem State.setBus_meas (s : State) (f : LineBus → LineBus) : (s.setBus f).meas = s.meas := rfl
@[simp] theorem State.setBus_bus (s : State) (f : LineBus → LineBus) : (s.setBus f).bus = f s.bus := rfl
@[simp] theorem State.setBus_peers (s : State) (f : LineBus → LineBus) : (s.setBus f).peers = s.peers := rfl
@[simp] theorem State.setBus_sup (s : State) (f : LineBus → LineBus) : (s.setBus f).sup = s.sup := rfl
@[simp] theorem State.setBus_brake (s : State) (f : LineBus → LineBus) : (s.setBus f).brake = s.brake := rfl
@[simp] theorem State.setBus_trip (s : State) (f : LineBus → LineBus) : (s.setBus f).trip = s.trip := rfl
@[simp] theorem State.setBus_door (s : State) (f : LineBus → LineBus) : (s.setBus f).door = s.door := rfl
@[simp] theorem State.setBus_grant (s : State) (f : LineBus → LineBus) : (s.setBus f).grant = s.grant := rfl
@[simp] theorem State.setBus_gate (s : State) (f : LineBus → LineBus) : (s.setBus f).gate = s.gate := rfl
@[simp] theorem State.setBus_term (s : State) (f : LineBus → LineBus) : (s.setBus f).term = s.term := rfl
@[simp] theorem State.setBus_answers (s : State) (f : LineBus → LineBus) : (s.setBus f).answers = s.answers := rfl
@[simp] theorem State.setBus_counts (s : State) (f : LineBus → LineBus) : (s.setBus f).counts = s.counts := rfl

/-! ### setTerm -/

@[simp] theorem State.setTerm_pending (s : State) (f : Terminal → Terminal) : (s.setTerm f).pending = s.pending := rfl
@[simp] theorem State.setTerm_clock (s : State) (f : Terminal → Terminal) : (s.setTerm f).clock = s.clock := rfl
@[simp] theorem State.setTerm_phase (s : State) (f : Terminal → Terminal) : (s.setTerm f).phase = s.phase := rfl
@[simp] theorem State.setTerm_resetPin (s : State) (f : Terminal → Terminal) : (s.setTerm f).resetPin = s.resetPin := rfl
@[simp] theorem State.setTerm_failure (s : State) (f : Terminal → Terminal) : (s.setTerm f).failure = s.failure := rfl
@[simp] theorem State.setTerm_cfg (s : State) (f : Terminal → Terminal) : (s.setTerm f).cfg = s.cfg := rfl
@[simp] theorem State.setTerm_listenDue (s : State) (f : Terminal → Terminal) : (s.setTerm f).listenDue = s.listenDue := rfl
@[simp] theorem State.setTerm_sampleDue (s : State) (f : Terminal → Terminal) : (s.setTerm f).sampleDue = s.sampleDue := rfl
@[simp] theorem State.setTerm_prof (s : State) (f : Terminal → Terminal) : (s.setTerm f).prof = s.prof := rfl
@[simp] theorem State.setTerm_meas (s : State) (f : Terminal → Terminal) : (s.setTerm f).meas = s.meas := rfl
@[simp] theorem State.setTerm_bus (s : State) (f : Terminal → Terminal) : (s.setTerm f).bus = s.bus := rfl
@[simp] theorem State.setTerm_peers (s : State) (f : Terminal → Terminal) : (s.setTerm f).peers = s.peers := rfl
@[simp] theorem State.setTerm_sup (s : State) (f : Terminal → Terminal) : (s.setTerm f).sup = s.sup := rfl
@[simp] theorem State.setTerm_brake (s : State) (f : Terminal → Terminal) : (s.setTerm f).brake = s.brake := rfl
@[simp] theorem State.setTerm_trip (s : State) (f : Terminal → Terminal) : (s.setTerm f).trip = s.trip := rfl
@[simp] theorem State.setTerm_door (s : State) (f : Terminal → Terminal) : (s.setTerm f).door = s.door := rfl
@[simp] theorem State.setTerm_grant (s : State) (f : Terminal → Terminal) : (s.setTerm f).grant = s.grant := rfl
@[simp] theorem State.setTerm_gate (s : State) (f : Terminal → Terminal) : (s.setTerm f).gate = s.gate := rfl
@[simp] theorem State.setTerm_term (s : State) (f : Terminal → Terminal) : (s.setTerm f).term = f s.term := rfl
@[simp] theorem State.setTerm_answers (s : State) (f : Terminal → Terminal) : (s.setTerm f).answers = s.answers := rfl
@[simp] theorem State.setTerm_counts (s : State) (f : Terminal → Terminal) : (s.setTerm f).counts = s.counts := rfl

/-! ### setEntry -/

@[simp] theorem State.setEntry_pending (s : State) (a : Nat) (f : PeerEntry → PeerEntry) : (s.setEntry a f).pending = s.pending := rfl
@[simp] theorem State.setEntry_clock (s : State) (a : Nat) (f : PeerEntry → PeerEntry) : (s.setEntry a f).clock = s.clock := rfl
@[simp] theorem State.setEntry_phase (s : State) (a : Nat) (f : PeerEntry → PeerEntry) : (s.setEntry a f).phase = s.phase := rfl
@[simp] theorem State.setEntry_resetPin (s : State) (a : Nat) (f : PeerEntry → PeerEntry) : (s.setEntry a f).resetPin = s.resetPin := rfl
@[simp] theorem State.setEntry_failure (s : State) (a : Nat) (f : PeerEntry → PeerEntry) : (s.setEntry a f).failure = s.failure := rfl
@[simp] theorem State.setEntry_cfg (s : State) (a : Nat) (f : PeerEntry → PeerEntry) : (s.setEntry a f).cfg = s.cfg := rfl
@[simp] theorem State.setEntry_listenDue (s : State) (a : Nat) (f : PeerEntry → PeerEntry) : (s.setEntry a f).listenDue = s.listenDue := rfl
@[simp] theorem State.setEntry_sampleDue (s : State) (a : Nat) (f : PeerEntry → PeerEntry) : (s.setEntry a f).sampleDue = s.sampleDue := rfl
@[simp] theorem State.setEntry_prof (s : State) (a : Nat) (f : PeerEntry → PeerEntry) : (s.setEntry a f).prof = s.prof := rfl
@[simp] theorem State.setEntry_meas (s : State) (a : Nat) (f : PeerEntry → PeerEntry) : (s.setEntry a f).meas = s.meas := rfl
@[simp] theorem State.setEntry_bus (s : State) (a : Nat) (f : PeerEntry → PeerEntry) : (s.setEntry a f).bus = s.bus := rfl
@[simp] theorem State.setEntry_peers (s : State) (a : Nat) (f : PeerEntry → PeerEntry) : (s.setEntry a f).peers = s.peers.modify a f := rfl
@[simp] theorem State.setEntry_sup (s : State) (a : Nat) (f : PeerEntry → PeerEntry) : (s.setEntry a f).sup = s.sup := rfl
@[simp] theorem State.setEntry_brake (s : State) (a : Nat) (f : PeerEntry → PeerEntry) : (s.setEntry a f).brake = s.brake := rfl
@[simp] theorem State.setEntry_trip (s : State) (a : Nat) (f : PeerEntry → PeerEntry) : (s.setEntry a f).trip = s.trip := rfl
@[simp] theorem State.setEntry_door (s : State) (a : Nat) (f : PeerEntry → PeerEntry) : (s.setEntry a f).door = s.door := rfl
@[simp] theorem State.setEntry_grant (s : State) (a : Nat) (f : PeerEntry → PeerEntry) : (s.setEntry a f).grant = s.grant := rfl
@[simp] theorem State.setEntry_gate (s : State) (a : Nat) (f : PeerEntry → PeerEntry) : (s.setEntry a f).gate = s.gate := rfl
@[simp] theorem State.setEntry_term (s : State) (a : Nat) (f : PeerEntry → PeerEntry) : (s.setEntry a f).term = s.term := rfl
@[simp] theorem State.setEntry_answers (s : State) (a : Nat) (f : PeerEntry → PeerEntry) : (s.setEntry a f).answers = s.answers := rfl
@[simp] theorem State.setEntry_counts (s : State) (a : Nat) (f : PeerEntry → PeerEntry) : (s.setEntry a f).counts = s.counts := rfl

/-! ### latch -/

@[simp] theorem State.latch_pending (s : State) (c : Cause) (l : Nat) : (s.latch c l).pending = s.pending := rfl
@[simp] theorem State.latch_clock (s : State) (c : Cause) (l : Nat) : (s.latch c l).clock = s.clock := rfl
@[simp] theorem State.latch_phase (s : State) (c : Cause) (l : Nat) : (s.latch c l).phase = s.phase := rfl
@[simp] theorem State.latch_resetPin (s : State) (c : Cause) (l : Nat) : (s.latch c l).resetPin = s.resetPin := rfl
@[simp] theorem State.latch_failure (s : State) (c : Cause) (l : Nat) : (s.latch c l).failure = s.failure := rfl
@[simp] theorem State.latch_cfg (s : State) (c : Cause) (l : Nat) : (s.latch c l).cfg = s.cfg := rfl
@[simp] theorem State.latch_listenDue (s : State) (c : Cause) (l : Nat) : (s.latch c l).listenDue = s.listenDue := rfl
@[simp] theorem State.latch_sampleDue (s : State) (c : Cause) (l : Nat) : (s.latch c l).sampleDue = s.sampleDue := rfl
@[simp] theorem State.latch_prof (s : State) (c : Cause) (l : Nat) : (s.latch c l).prof = s.prof := rfl
@[simp] theorem State.latch_meas (s : State) (c : Cause) (l : Nat) : (s.latch c l).meas = s.meas := rfl
@[simp] theorem State.latch_bus (s : State) (c : Cause) (l : Nat) : (s.latch c l).bus = s.bus := rfl
@[simp] theorem State.latch_peers (s : State) (c : Cause) (l : Nat) : (s.latch c l).peers = s.peers := rfl
@[simp] theorem State.latch_sup (s : State) (c : Cause) (l : Nat) : (s.latch c l).sup = s.sup := rfl
@[simp] theorem State.latch_trip (s : State) (c : Cause) (l : Nat) : (s.latch c l).trip = s.trip := rfl
@[simp] theorem State.latch_door (s : State) (c : Cause) (l : Nat) : (s.latch c l).door = s.door := rfl
@[simp] theorem State.latch_grant (s : State) (c : Cause) (l : Nat) : (s.latch c l).grant = s.grant := rfl
@[simp] theorem State.latch_gate (s : State) (c : Cause) (l : Nat) : (s.latch c l).gate = s.gate := rfl
@[simp] theorem State.latch_term (s : State) (c : Cause) (l : Nat) : (s.latch c l).term = s.term := rfl
@[simp] theorem State.latch_answers (s : State) (c : Cause) (l : Nat) : (s.latch c l).answers = s.answers := rfl
@[simp] theorem State.latch_counts (s : State) (c : Cause) (l : Nat) : (s.latch c l).counts = s.counts := rfl

/-! ### syncPresence -/

@[simp] theorem State.syncPresence_pending (s : State) : (s.syncPresence).pending = s.pending := rfl
@[simp] theorem State.syncPresence_clock (s : State) : (s.syncPresence).clock = s.clock := rfl
@[simp] theorem State.syncPresence_phase (s : State) : (s.syncPresence).phase = s.phase := rfl
@[simp] theorem State.syncPresence_resetPin (s : State) : (s.syncPresence).resetPin = s.resetPin := rfl
@[simp] theorem State.syncPresence_failure (s : State) : (s.syncPresence).failure = s.failure := rfl
@[simp] theorem State.syncPresence_cfg (s : State) : (s.syncPresence).cfg = s.cfg := rfl
@[simp] theorem State.syncPresence_listenDue (s : State) : (s.syncPresence).listenDue = s.listenDue := rfl
@[simp] theorem State.syncPresence_sampleDue (s : State) : (s.syncPresence).sampleDue = s.sampleDue := rfl
@[simp] theorem State.syncPresence_prof (s : State) : (s.syncPresence).prof = s.prof := rfl
@[simp] theorem State.syncPresence_meas (s : State) : (s.syncPresence).meas = s.meas := rfl
@[simp] theorem State.syncPresence_bus (s : State) : (s.syncPresence).bus = s.bus := rfl
@[simp] theorem State.syncPresence_peers (s : State) : (s.syncPresence).peers = s.peers := rfl
@[simp] theorem State.syncPresence_sup (s : State) : (s.syncPresence).sup = s.sup := rfl
@[simp] theorem State.syncPresence_brake (s : State) : (s.syncPresence).brake = { s.brake with demands := s.brake.demands.zipWith (fun d c => { d with present := s.causePresent c }) demandCauses } := rfl
@[simp] theorem State.syncPresence_trip (s : State) : (s.syncPresence).trip = s.trip := rfl
@[simp] theorem State.syncPresence_door (s : State) : (s.syncPresence).door = s.door := rfl
@[simp] theorem State.syncPresence_grant (s : State) : (s.syncPresence).grant = s.grant := rfl
@[simp] theorem State.syncPresence_gate (s : State) : (s.syncPresence).gate = s.gate := rfl
@[simp] theorem State.syncPresence_term (s : State) : (s.syncPresence).term = s.term := rfl
@[simp] theorem State.syncPresence_answers (s : State) : (s.syncPresence).answers = s.answers := rfl
@[simp] theorem State.syncPresence_counts (s : State) : (s.syncPresence).counts = s.counts := rfl

/-! ### refreshOutputs -/

@[simp] theorem State.refreshOutputs_pending (s : State) : (s.refreshOutputs).pending = s.pending := rfl
@[simp] theorem State.refreshOutputs_clock (s : State) : (s.refreshOutputs).clock = s.clock := rfl
@[simp] theorem State.refreshOutputs_phase (s : State) : (s.refreshOutputs).phase = s.phase := rfl
@[simp] theorem State.refreshOutputs_resetPin (s : State) : (s.refreshOutputs).resetPin = s.resetPin := rfl
@[simp] theorem State.refreshOutputs_failure (s : State) : (s.refreshOutputs).failure = s.failure := rfl
@[simp] theorem State.refreshOutputs_cfg (s : State) : (s.refreshOutputs).cfg = s.cfg := rfl
@[simp] theorem State.refreshOutputs_listenDue (s : State) : (s.refreshOutputs).listenDue = s.listenDue := rfl
@[simp] theorem State.refreshOutputs_sampleDue (s : State) : (s.refreshOutputs).sampleDue = s.sampleDue := rfl
@[simp] theorem State.refreshOutputs_prof (s : State) : (s.refreshOutputs).prof = s.prof := rfl
@[simp] theorem State.refreshOutputs_meas (s : State) : (s.refreshOutputs).meas = s.meas := rfl
@[simp] theorem State.refreshOutputs_bus (s : State) : (s.refreshOutputs).bus = s.bus := rfl
@[simp] theorem State.refreshOutputs_peers (s : State) : (s.refreshOutputs).peers = s.peers := rfl
@[simp] theorem State.refreshOutputs_sup (s : State) : (s.refreshOutputs).sup = s.sup := rfl
@[simp] theorem State.refreshOutputs_brake (s : State) : (s.refreshOutputs).brake = s.brake := rfl
@[simp] theorem State.refreshOutputs_trip (s : State) : (s.refreshOutputs).trip = s.trip := rfl
@[simp] theorem State.refreshOutputs_door (s : State) : (s.refreshOutputs).door = s.door := rfl
@[simp] theorem State.refreshOutputs_grant (s : State) : (s.refreshOutputs).grant = s.grant := rfl
@[simp] theorem State.refreshOutputs_gate (s : State) : (s.refreshOutputs).gate = s.gate := rfl
@[simp] theorem State.refreshOutputs_answers (s : State) : (s.refreshOutputs).answers = s.answers := rfl
@[simp] theorem State.refreshOutputs_counts (s : State) : (s.refreshOutputs).counts = s.counts := rfl

/-! ### What each reads of the configuration and the phase -/

@[simp] theorem State.advance_running (s : State) (dt : Nat) : (s.advance dt).running = s.running := rfl
@[simp] theorem State.advance_conf (s : State) (dt : Nat) : (s.advance dt).conf = s.conf := rfl
@[simp] theorem State.advance_role (s : State) (dt : Nat) : (s.advance dt).role = s.role := rfl
@[simp] theorem State.advance_operating (s : State) (dt : Nat) : (s.advance dt).operating = s.operating := rfl
@[simp] theorem State.bump_running (s : State) (c : Count) : (s.bump c).running = s.running := rfl
@[simp] theorem State.bump_conf (s : State) (c : Count) : (s.bump c).conf = s.conf := rfl
@[simp] theorem State.bump_role (s : State) (c : Count) : (s.bump c).role = s.role := rfl
@[simp] theorem State.bump_operating (s : State) (c : Count) : (s.bump c).operating = s.operating := rfl
@[simp] theorem State.setQueue_running (s : State) (q : List TxFrame) (k : FrameKind) : (s.setQueue q k).running = s.running := rfl
@[simp] theorem State.setQueue_conf (s : State) (q : List TxFrame) (k : FrameKind) : (s.setQueue q k).conf = s.conf := rfl
@[simp] theorem State.setQueue_role (s : State) (q : List TxFrame) (k : FrameKind) : (s.setQueue q k).role = s.role := rfl
@[simp] theorem State.setQueue_operating (s : State) (q : List TxFrame) (k : FrameKind) : (s.setQueue q k).operating = s.operating := rfl
@[simp] theorem State.setTrip_running (s : State) (f : TripController → TripController) : (s.setTrip f).running = s.running := rfl
@[simp] theorem State.setTrip_conf (s : State) (f : TripController → TripController) : (s.setTrip f).conf = s.conf := rfl
@[simp] theorem State.setTrip_role (s : State) (f : TripController → TripController) : (s.setTrip f).role = s.role := rfl
@[simp] theorem State.setTrip_operating (s : State) (f : TripController → TripController) : (s.setTrip f).operating = s.operating := rfl
@[simp] theorem State.setDoor_running (s : State) (f : DoorBlock → DoorBlock) : (s.setDoor f).running = s.running := rfl
@[simp] theorem State.setDoor_conf (s : State) (f : DoorBlock → DoorBlock) : (s.setDoor f).conf = s.conf := rfl
@[simp] theorem State.setDoor_role (s : State) (f : DoorBlock → DoorBlock) : (s.setDoor f).role = s.role := rfl
@[simp] theorem State.setDoor_operating (s : State) (f : DoorBlock → DoorBlock) : (s.setDoor f).operating = s.operating := rfl
@[simp] theorem State.setGate_running (s : State) (f : GateBlock → GateBlock) : (s.setGate f).running = s.running := rfl
@[simp] theorem State.setGate_conf (s : State) (f : GateBlock → GateBlock) : (s.setGate f).conf = s.conf := rfl
@[simp] theorem State.setGate_role (s : State) (f : GateBlock → GateBlock) : (s.setGate f).role = s.role := rfl
@[simp] theorem State.setGate_operating (s : State) (f : GateBlock → GateBlock) : (s.setGate f).operating = s.operating := rfl
@[simp] theorem State.setCycle_running (s : State) (f : BoardingCycle → BoardingCycle) : (s.setCycle f).running = s.running := rfl
@[simp] theorem State.setCycle_conf (s : State) (f : BoardingCycle → BoardingCycle) : (s.setCycle f).conf = s.conf := rfl
@[simp] theorem State.setCycle_role (s : State) (f : BoardingCycle → BoardingCycle) : (s.setCycle f).role = s.role := rfl
@[simp] theorem State.setCycle_operating (s : State) (f : BoardingCycle → BoardingCycle) : (s.setCycle f).operating = s.operating := rfl
@[simp] theorem State.setTicket_running (s : State) (t : TicketState) : (s.setTicket t).running = s.running := rfl
@[simp] theorem State.setTicket_conf (s : State) (t : TicketState) : (s.setTicket t).conf = s.conf := rfl
@[simp] theorem State.setTicket_role (s : State) (t : TicketState) : (s.setTicket t).role = s.role := rfl
@[simp] theorem State.setTicket_operating (s : State) (t : TicketState) : (s.setTicket t).operating = s.operating := rfl
@[simp] theorem State.setBrake_running (s : State) (f : Brake → Brake) : (s.setBrake f).running = s.running := rfl
@[simp] theorem State.setBrake_conf (s : State) (f : Brake → Brake) : (s.setBrake f).conf = s.conf := rfl
@[simp] theorem State.setBrake_role (s : State) (f : Brake → Brake) : (s.setBrake f).role = s.role := rfl
@[simp] theorem State.setBrake_operating (s : State) (f : Brake → Brake) : (s.setBrake f).operating = s.operating := rfl
@[simp] theorem State.setGrant_running (s : State) (f : GrantTable → GrantTable) : (s.setGrant f).running = s.running := rfl
@[simp] theorem State.setGrant_conf (s : State) (f : GrantTable → GrantTable) : (s.setGrant f).conf = s.conf := rfl
@[simp] theorem State.setGrant_role (s : State) (f : GrantTable → GrantTable) : (s.setGrant f).role = s.role := rfl
@[simp] theorem State.setGrant_operating (s : State) (f : GrantTable → GrantTable) : (s.setGrant f).operating = s.operating := rfl
@[simp] theorem State.setMeas_running (s : State) (f : Measurement → Measurement) : (s.setMeas f).running = s.running := rfl
@[simp] theorem State.setMeas_conf (s : State) (f : Measurement → Measurement) : (s.setMeas f).conf = s.conf := rfl
@[simp] theorem State.setMeas_role (s : State) (f : Measurement → Measurement) : (s.setMeas f).role = s.role := rfl
@[simp] theorem State.setMeas_operating (s : State) (f : Measurement → Measurement) : (s.setMeas f).operating = s.operating := rfl
@[simp] theorem State.setSup_running (s : State) (f : Supervision → Supervision) : (s.setSup f).running = s.running := rfl
@[simp] theorem State.setSup_conf (s : State) (f : Supervision → Supervision) : (s.setSup f).conf = s.conf := rfl
@[simp] theorem State.setSup_role (s : State) (f : Supervision → Supervision) : (s.setSup f).role = s.role := rfl
@[simp] theorem State.setSup_operating (s : State) (f : Supervision → Supervision) : (s.setSup f).operating = s.operating := rfl
@[simp] theorem State.setBus_running (s : State) (f : LineBus → LineBus) : (s.setBus f).running = s.running := rfl
@[simp] theorem State.setBus_conf (s : State) (f : LineBus → LineBus) : (s.setBus f).conf = s.conf := rfl
@[simp] theorem State.setBus_role (s : State) (f : LineBus → LineBus) : (s.setBus f).role = s.role := rfl
@[simp] theorem State.setBus_operating (s : State) (f : LineBus → LineBus) : (s.setBus f).operating = s.operating := rfl
@[simp] theorem State.setTerm_running (s : State) (f : Terminal → Terminal) : (s.setTerm f).running = s.running := rfl
@[simp] theorem State.setTerm_conf (s : State) (f : Terminal → Terminal) : (s.setTerm f).conf = s.conf := rfl
@[simp] theorem State.setTerm_role (s : State) (f : Terminal → Terminal) : (s.setTerm f).role = s.role := rfl
@[simp] theorem State.setTerm_operating (s : State) (f : Terminal → Terminal) : (s.setTerm f).operating = s.operating := rfl
@[simp] theorem State.setEntry_running (s : State) (a : Nat) (f : PeerEntry → PeerEntry) : (s.setEntry a f).running = s.running := rfl
@[simp] theorem State.setEntry_conf (s : State) (a : Nat) (f : PeerEntry → PeerEntry) : (s.setEntry a f).conf = s.conf := rfl
@[simp] theorem State.setEntry_role (s : State) (a : Nat) (f : PeerEntry → PeerEntry) : (s.setEntry a f).role = s.role := rfl
@[simp] theorem State.setEntry_operating (s : State) (a : Nat) (f : PeerEntry → PeerEntry) : (s.setEntry a f).operating = s.operating := rfl
@[simp] theorem State.latch_running (s : State) (c : Cause) (l : Nat) : (s.latch c l).running = s.running := rfl
@[simp] theorem State.latch_conf (s : State) (c : Cause) (l : Nat) : (s.latch c l).conf = s.conf := rfl
@[simp] theorem State.latch_role (s : State) (c : Cause) (l : Nat) : (s.latch c l).role = s.role := rfl
@[simp] theorem State.latch_operating (s : State) (c : Cause) (l : Nat) : (s.latch c l).operating = s.operating := rfl
@[simp] theorem State.syncPresence_running (s : State) : (s.syncPresence).running = s.running := rfl
@[simp] theorem State.syncPresence_conf (s : State) : (s.syncPresence).conf = s.conf := rfl
@[simp] theorem State.syncPresence_role (s : State) : (s.syncPresence).role = s.role := rfl
@[simp] theorem State.syncPresence_operating (s : State) : (s.syncPresence).operating = s.operating := rfl
@[simp] theorem State.refreshOutputs_running (s : State) : (s.refreshOutputs).running = s.running := rfl
@[simp] theorem State.refreshOutputs_conf (s : State) : (s.refreshOutputs).conf = s.conf := rfl
@[simp] theorem State.refreshOutputs_role (s : State) : (s.refreshOutputs).role = s.role := rfl
@[simp] theorem State.refreshOutputs_operating (s : State) : (s.refreshOutputs).operating = s.operating := rfl

@[simp] theorem State.advance_alive (s : State) (dt : Nat) : (s.advance dt).alive = s.alive := rfl
@[simp] theorem State.bump_alive (s : State) (c : Count) : (s.bump c).alive = s.alive := rfl
@[simp] theorem State.setTrip_alive (s : State) (f : TripController → TripController) : (s.setTrip f).alive = s.alive := rfl
@[simp] theorem State.setMeas_alive (s : State) (f : Measurement → Measurement) : (s.setMeas f).alive = s.alive := rfl

/-! ### The setpoint of a state of rest and the setpoint of the latest sample -/

/-- All that `standHolding` does: HOLDING with nothing asked and the setpoint 0. -/
theorem State.standHolding_eq (s : State) :
    s.standHolding = { s with trip := { s.trip with
      haulage := .holding, setpoint := 0, askService := false, askEnable := false } } := rfl

/-- In a zero state of Table 7-2 the setpoint is 0; in another it is kept. -/
theorem State.restSetpoint_setpoint (s : State) :
    s.restSetpoint.trip.setpoint = if s.trip.rests then 0 else s.trip.setpoint := by
  unfold State.restSetpoint; split <;> rfl

/-- `restSetpoint` acts on the trip controller's setpoint alone. -/
theorem State.restSetpoint_eq (s : State) :
    s.restSetpoint = { s with trip := { s.trip with setpoint := s.restSetpoint.trip.setpoint } } := by
  unfold State.restSetpoint; split <;> rfl

@[simp] theorem State.setAnalogCode_latest (s : State) :
    s.setAnalogCode.trip.latestSetpoint = s.setpointSpeed := rfl
@[simp] theorem State.setAnalogCode_setCode (s : State) :
    s.setAnalogCode.term.setCode = analogCode s.setpointSpeed (s.k .fullScale) := rfl
@[simp] theorem State.setAnalogCode_setpoint (s : State) :
    s.setAnalogCode.trip.setpoint = s.trip.setpoint := rfl

/-- Where no notice is owed the state is kept. -/
theorem State.requeueNotice_none (s : State) : s.requeueNotice none = s := rfl

end Sys2Proof.Machine
end

