-- ==== Sys2Proof/Laws/Settle.lean ====
section
/-! SUPPORT. What the end of a step can do: `State.settle` is described once, by `SettledFrom`, and every
later proof cites that instead of unfolding it. -/

namespace Sys2Proof.Machine

open Sys2Proof

/-- `t` is `x` after STATE frames may have been queued (R49, R51, R52). -/
def StateQueued (x t : State) : Prop :=
  t = { x with
    bus := { x.bus with
      queue := t.bus.queue, seqNext := t.bus.seqNext, periodDue := t.bus.periodDue
      lastContent := t.bus.lastContent }
    counts := t.counts } ∧
  t.bus.queue.filter (fun f => !f.isState) = x.bus.queue.filter (fun f => !f.isState) ∧
  (∀ k : FrameKind, k.cls ≠ .state → t.bus.nextSeq k = x.bus.nextSeq k) ∧
  (∀ c : Count, c ≠ .stateDrops → t.count c = x.count c)

theorem StateQueued.refl (x : State) : StateQueued x x := ⟨rfl, rfl, fun _ _ => rfl, fun _ _ => rfl⟩

theorem StateQueued.trans {x y z : State} (h : StateQueued x y) (g : StateQueued y z) :
    StateQueued x z := by
  obtain ⟨h1, h2, h3, h4⟩ := h
  obtain ⟨g1, g2, g3, g4⟩ := g
  refine ⟨?_, g2.trans h2, fun k hk => (g3 k hk).trans (h3 k hk),
    fun c hc => (g4 c hc).trans (h4 c hc)⟩
  rw [g1, h1]

/-- A count other than the one increased keeps its value. -/
theorem count_bump_ne (s : State) {c d : Count} (h : d ≠ c) : (s.bump c).count d = s.count d := by
  have : c.ctorIdx ≠ d.ctorIdx := fun e => h (by cases c <;> cases d <;> first | rfl | cases e)
  simp [State.count, State.bump, List.getD_eq_getElem?_getD, this]

/-- The sequence counter of a kind that is not the new frame's keeps its value. -/
theorem nextSeq_setQueue_ne (s : State) (q : List TxFrame) {k k' : FrameKind} (h : k'.code ≠ k.code) :
    (s.setQueue q k).bus.nextSeq k' = s.bus.nextSeq k' := by
  simp [LineBus.nextSeq, State.setQueue, List.getD_eq_getElem?_getD, Ne.symm h]

theorem code_ne_of_cls {k k' : FrameKind} (h : k.cls = .state) (h' : k'.cls ≠ .state) :
    k'.code ≠ k.code := by
  intro e
  apply h'
  rw [← h]
  cases k <;> cases k' <;> first | rfl | (simp [FrameKind.code] at e)

theorem isState_of_cls {p : Payload} {n m : Nat} {b : Bool} (h : p.cls = .state) :
    (TxFrame.mk p n m b).isState = true := by simp [TxFrame.isState, h]

/-- Replacing the STATE frames of a kind, or the oldest STATE frame, leaves the others. -/
theorem filter_map_state (q : List TxFrame) (f : TxFrame) (p : TxFrame → Bool)
    (hf : f.isState = true) (hp : ∀ g, p g = true → g.isState = true) :
    (q.map (fun g => if p g then f else g)).filter (fun f => !f.isState)
      = q.filter (fun f => !f.isState) := by
  induction q with
  | nil => rfl
  | cons g q ih =>
      by_cases h : p g = true
      · simp [h, hf, hp g h, ih]
      · simp only [Bool.not_eq_true] at h
        simp [h, List.filter_cons, ih]

theorem filter_eraseP_state (q : List TxFrame) :
    (q.eraseP TxFrame.isState).filter (fun f => !f.isState) = q.filter (fun f => !f.isState) := by
  induction q with
  | nil => rfl
  | cons g q ih =>
      by_cases h : g.isState = true
      · simp [h]
      · simp only [Bool.not_eq_true] at h
        simp [h, ih]

/-- Queuing a STATE frame (R49, R51). -/
theorem enqueueState_stateQueued (s : State) (p : Payload) (hp : p.cls = .state) :
    StateQueued s (s.enqueueState p) := by
  have hk : p.kind.cls = .state := hp
  have hf : (s.newFrame p).isState = true := isState_of_cls hp
  have hkind : ∀ g : TxFrame, (g.payload.kind == p.kind) = true → g.isState = true := by
    intro g hg
    have : g.payload.kind = p.kind := by simpa using hg
    simp [TxFrame.isState, Payload.cls, this, hk]
  unfold State.enqueueState
  dsimp only
  split
  · exact ⟨rfl, filter_map_state _ _ (fun g => g.payload.kind == p.kind) hf hkind,
      fun k h => nextSeq_setQueue_ne _ _ (code_ne_of_cls hk h), fun _ _ => rfl⟩
  · split
    · exact ⟨rfl, by simp [hf], fun k h => nextSeq_setQueue_ne _ _ (code_ne_of_cls hk h),
        fun _ _ => rfl⟩
    · split
      · refine ⟨rfl, ?_, fun k h => nextSeq_setQueue_ne _ _ (code_ne_of_cls hk h),
          fun c h => count_bump_ne _ h⟩
        simp [hf, List.filter_append, filter_eraseP_state]
      · exact ⟨rfl, rfl, fun _ _ => rfl, fun c h => count_bump_ne _ h⟩

theorem stateContent_cls (s : State) (k : StateKind) : (s.stateContent k).cls = .state := by
  cases k <;> rfl

/-- Queuing a STATE frame with its period timer and the content last queued (R52). -/
theorem queueState_stateQueued (s : State) (k : StateKind) : StateQueued s (s.queueState k) := by
  have h : StateQueued s (s.enqueue (s.stateContent k)) := by
    unfold State.enqueue
    rw [stateContent_cls]
    dsimp only
    split
    · exact enqueueState_stateQueued s _ (stateContent_cls s k)
    · exact StateQueued.refl s
  refine h.trans ?_
  exact ⟨rfl, rfl, fun _ _ => rfl, fun _ _ => rfl⟩

theorem foldl_stateQueued (l : List StateKind) (f : State → StateKind → State)
    (hf : ∀ s k, StateQueued s (f s k)) (s : State) : StateQueued s (l.foldl f s) := by
  induction l generalizing s with
  | nil => exact StateQueued.refl s
  | cons k l ih => exact (hf s k).trans (ih (f s k))

theorem queueAllStates_stateQueued (s : State) : StateQueued s s.queueAllStates :=
  foldl_stateQueued _ _ (fun s k => queueState_stateQueued s k) s

theorem queueChangedStates_stateQueued (s : State) : StateQueued s s.queueChangedStates :=
  foldl_stateQueued _ _ (fun s k => by
    split
    · exact queueState_stateQueued s k
    · exact StateQueued.refl s) s

/-- The latched levels do not depend on what the entries show of presence. -/
theorem syncPresence_latched (s : State) (c : Cause) (h : c ∈ demandCauses) :
    s.syncPresence.latched c = s.latched c := by
  have hl : demandCauses[causeCode c - 1]? = some c := by
    cases c <;> first | rfl | (exact absurd h (by decide))
  simp only [State.latched, State.syncPresence_brake, List.getElem?_zipWith, hl]
  cases s.brake.demands[causeCode c - 1]? <;> rfl

/-- What the end of a step can do. -/
theorem settle_settledFrom (s : State) : SettledFrom s s.settle := by
  have key : ∀ y, StateQueued s y → SettledFrom s y.syncPresence.refreshOutputs := by
    intro y ⟨h1, h2, h3, h4⟩
    refine ⟨?_, by simpa using h2, fun k hk => by simpa using h3 k hk, fun c hc => ?_, fun c hc => ?_⟩
    · rw [h1]; rfl
    · simpa [State.count] using h4 c hc
    · show y.syncPresence.latched c = s.latched c
      rw [syncPresence_latched y c hc, State.latched, h1]
      rfl
  unfold State.settle
  split
  · exact key _ (queueChangedStates_stateQueued s)
  · exact key s (StateQueued.refl s)

/-! ### What stays, field by field -/

theorem SettledFrom.of_eq {x y : State} (h : x = y) : SettledFrom y x.settle := by
  rw [← h]; exact settle_settledFrom x

theorem SettledFrom.pending_eq {x t : State} (h : SettledFrom x t) : t.pending = x.pending :=
  (congrArg State.pending h.1).trans rfl
theorem SettledFrom.clock_eq {x t : State} (h : SettledFrom x t) : t.clock = x.clock :=
  (congrArg State.clock h.1).trans rfl
theorem SettledFrom.phase_eq {x t : State} (h : SettledFrom x t) : t.phase = x.phase :=
  (congrArg State.phase h.1).trans rfl
theorem SettledFrom.resetPin_eq {x t : State} (h : SettledFrom x t) : t.resetPin = x.resetPin :=
  (congrArg State.resetPin h.1).trans rfl
theorem SettledFrom.failure_eq {x t : State} (h : SettledFrom x t) : t.failure = x.failure :=
  (congrArg State.failure h.1).trans rfl
theorem SettledFrom.cfg_eq {x t : State} (h : SettledFrom x t) : t.cfg = x.cfg :=
  (congrArg State.cfg h.1).trans rfl
theorem SettledFrom.listenDue_eq {x t : State} (h : SettledFrom x t) : t.listenDue = x.listenDue :=
  (congrArg State.listenDue h.1).trans rfl
theorem SettledFrom.sampleDue_eq {x t : State} (h : SettledFrom x t) : t.sampleDue = x.sampleDue :=
  (congrArg State.sampleDue h.1).trans rfl
theorem SettledFrom.prof_eq {x t : State} (h : SettledFrom x t) : t.prof = x.prof :=
  (congrArg State.prof h.1).trans rfl
theorem SettledFrom.meas_eq {x t : State} (h : SettledFrom x t) : t.meas = x.meas :=
  (congrArg State.meas h.1).trans rfl
theorem SettledFrom.peers_eq {x t : State} (h : SettledFrom x t) : t.peers = x.peers :=
  (congrArg State.peers h.1).trans rfl
theorem SettledFrom.sup_eq {x t : State} (h : SettledFrom x t) : t.sup = x.sup :=
  (congrArg State.sup h.1).trans rfl
theorem SettledFrom.trip_eq {x t : State} (h : SettledFrom x t) : t.trip = x.trip :=
  (congrArg State.trip h.1).trans rfl
theorem SettledFrom.door_eq {x t : State} (h : SettledFrom x t) : t.door = x.door :=
  (congrArg State.door h.1).trans rfl
theorem SettledFrom.grant_eq {x t : State} (h : SettledFrom x t) : t.grant = x.grant :=
  (congrArg State.grant h.1).trans rfl
theorem SettledFrom.gate_eq {x t : State} (h : SettledFrom x t) : t.gate = x.gate :=
  (congrArg State.gate h.1).trans rfl
theorem SettledFrom.answers_eq {x t : State} (h : SettledFrom x t) : t.answers = x.answers :=
  (congrArg State.answers h.1).trans rfl
theorem SettledFrom.rx_eq {x t : State} (h : SettledFrom x t) : t.bus.rx = x.bus.rx :=
  (congrArg (fun s : State => s.bus.rx) h.1).trans rfl
theorem SettledFrom.attempt_eq {x t : State} (h : SettledFrom x t) : t.bus.attempt = x.bus.attempt :=
  (congrArg (fun s : State => s.bus.attempt) h.1).trans rfl
theorem SettledFrom.conflictRun_eq {x t : State} (h : SettledFrom x t) : t.bus.conflictRun = x.bus.conflictRun :=
  (congrArg (fun s : State => s.bus.conflictRun) h.1).trans rfl
theorem SettledFrom.effective_eq {x t : State} (h : SettledFrom x t) : t.brake.effective = x.brake.effective :=
  (congrArg (fun s : State => s.brake.effective) h.1).trans rfl
theorem SettledFrom.records_eq {x t : State} (h : SettledFrom x t) : t.brake.records = x.brake.records :=
  (congrArg (fun s : State => s.brake.records) h.1).trans rfl
theorem SettledFrom.rows_eq {x t : State} (h : SettledFrom x t) : t.brake.rows = x.brake.rows :=
  (congrArg (fun s : State => s.brake.rows) h.1).trans rfl
theorem SettledFrom.held_eq {x t : State} (h : SettledFrom x t) : t.brake.held = x.brake.held :=
  (congrArg (fun s : State => s.brake.held) h.1).trans rfl
theorem SettledFrom.proof_eq {x t : State} (h : SettledFrom x t) : t.brake.proof = x.brake.proof :=
  (congrArg (fun s : State => s.brake.proof) h.1).trans rfl
theorem SettledFrom.debounced_eq {x t : State} (h : SettledFrom x t) : t.term.debounced = x.term.debounced :=
  (congrArg (fun s : State => s.term.debounced) h.1).trans rfl
theorem SettledFrom.rawHigh_eq {x t : State} (h : SettledFrom x t) : t.term.rawHigh = x.term.rawHigh :=
  (congrArg (fun s : State => s.term.rawHigh) h.1).trans rfl
theorem SettledFrom.hold_eq {x t : State} (h : SettledFrom x t) : t.term.hold = x.term.hold :=
  (congrArg (fun s : State => s.term.hold) h.1).trans rfl
theorem SettledFrom.replies_eq {x t : State} (h : SettledFrom x t) : t.term.replies = x.term.replies :=
  (congrArg (fun s : State => s.term.replies) h.1).trans rfl
@[simp] theorem State.settle_pending (s : State) : s.settle.pending = s.pending := (settle_settledFrom s).pending_eq
@[simp] theorem State.settle_clock (s : State) : s.settle.clock = s.clock := (settle_settledFrom s).clock_eq
@[simp] theorem State.settle_phase (s : State) : s.settle.phase = s.phase := (settle_settledFrom s).phase_eq
@[simp] theorem State.settle_resetPin (s : State) : s.settle.resetPin = s.resetPin := (settle_settledFrom s).resetPin_eq
@[simp] theorem State.settle_failure (s : State) : s.settle.failure = s.failure := (settle_settledFrom s).failure_eq
@[simp] theorem State.settle_cfg (s : State) : s.settle.cfg = s.cfg := (settle_settledFrom s).cfg_eq
@[simp] theorem State.settle_listenDue (s : State) : s.settle.listenDue = s.listenDue := (settle_settledFrom s).listenDue_eq
@[simp] theorem State.settle_sampleDue (s : State) : s.settle.sampleDue = s.sampleDue := (settle_settledFrom s).sampleDue_eq
@[simp] theorem State.settle_prof (s : State) : s.settle.prof = s.prof := (settle_settledFrom s).prof_eq
@[simp] theorem State.settle_meas (s : State) : s.settle.meas = s.meas := (settle_settledFrom s).meas_eq
@[simp] theorem State.settle_peers (s : State) : s.settle.peers = s.peers := (settle_settledFrom s).peers_eq
@[simp] theorem State.settle_sup (s : State) : s.settle.sup = s.sup := (settle_settledFrom s).sup_eq
@[simp] theorem State.settle_trip (s : State) : s.settle.trip = s.trip := (settle_settledFrom s).trip_eq
@[simp] theorem State.settle_door (s : State) : s.settle.door = s.door := (settle_settledFrom s).door_eq
@[simp] theorem State.settle_grant (s : State) : s.settle.grant = s.grant := (settle_settledFrom s).grant_eq
@[simp] theorem State.settle_gate (s : State) : s.settle.gate = s.gate := (settle_settledFrom s).gate_eq
@[simp] theorem State.settle_answers (s : State) : s.settle.answers = s.answers := (settle_settledFrom s).answers_eq

end Sys2Proof.Machine
end

