-- ==== Sys2Proof/Laws/Queue.lean ====
section
/-! SUPPORT. What queuing a frame can do, once for all its callers, and the bounds that each operation on
a buffer, list or count keeps. -/

namespace Sys2Proof.Machine

open Sys2Proof

/-! ## Announcements to the gate block -/

/-- When a recessive ack slot is announced to the gate block (R170). -/
theorem announcesNoAck_iff (a : TxFrame) (s : State) :
    s.announcesNoAck a = true ↔ s.role = .gate ∧ a.payload.kind = .admissionReport := by
  simp [State.announcesNoAck]

/-! ## Frames of queuing -/

/-- Telling a block "not sent" can ask for the latest notice again and raise counts, and no more. -/
theorem tellNotSent_frame (p : Payload) (s : State) :
    s.tellNotSent p = { s with
      trip := { s.trip with requeue := (s.tellNotSent p).trip.requeue }
      counts := (s.tellNotSent p).counts } := by
  unfold State.tellNotSent
  split
  · split
    · split <;> rfl
    · rfl
  all_goals rfl

/-- Queuing a frame can change the queue, the sequence counters, the request to queue the latest notice
again, and counts, and no more (R47 to R51). -/
theorem enqueue_frame (p : Payload) (s : State) :
    s.enqueue p = { s with
      bus := { s.bus with
        queue := (s.enqueue p).bus.queue, seqNext := (s.enqueue p).bus.seqNext }
      trip := { s.trip with requeue := (s.enqueue p).trip.requeue }
      counts := (s.enqueue p).counts } := by
  unfold State.enqueue
  split
  · split
    · unfold State.enqueueState
      dsimp only
      repeat' split
      all_goals rfl
    · unfold State.enqueueControl
      dsimp only
      split
      · rw [tellNotSent_frame]
      · repeat' split
        · rfl
        · rfl
        · rw [tellNotSent_frame]; rfl
    · unfold State.enqueueOrder
      dsimp only
      repeat' split
      all_goals first | rfl | (rw [tellNotSent_frame]; rfl)
  · rfl

@[simp] theorem enqueue_door (p : Payload) (s : State) : (s.enqueue p).door = s.door := by
  rw [enqueue_frame]
@[simp] theorem enqueue_gate (p : Payload) (s : State) : (s.enqueue p).gate = s.gate := by
  rw [enqueue_frame]
@[simp] theorem enqueue_grant (p : Payload) (s : State) : (s.enqueue p).grant = s.grant := by
  rw [enqueue_frame]
@[simp] theorem enqueue_meas (p : Payload) (s : State) : (s.enqueue p).meas = s.meas := by
  rw [enqueue_frame]
@[simp] theorem enqueue_brake (p : Payload) (s : State) : (s.enqueue p).brake = s.brake := by
  rw [enqueue_frame]
@[simp] theorem enqueue_sup (p : Payload) (s : State) : (s.enqueue p).sup = s.sup := by
  rw [enqueue_frame]
@[simp] theorem enqueue_peers (p : Payload) (s : State) : (s.enqueue p).peers = s.peers := by
  rw [enqueue_frame]
@[simp] theorem enqueue_term (p : Payload) (s : State) : (s.enqueue p).term = s.term := by
  rw [enqueue_frame]
@[simp] theorem enqueue_prof (p : Payload) (s : State) : (s.enqueue p).prof = s.prof := by
  rw [enqueue_frame]
@[simp] theorem enqueue_pending (p : Payload) (s : State) : (s.enqueue p).pending = s.pending := by
  rw [enqueue_frame]
@[simp] theorem enqueue_phase (p : Payload) (s : State) : (s.enqueue p).phase = s.phase := by
  rw [enqueue_frame]
@[simp] theorem enqueue_cfg (p : Payload) (s : State) : (s.enqueue p).cfg = s.cfg := by
  rw [enqueue_frame]
@[simp] theorem enqueue_clock (p : Payload) (s : State) : (s.enqueue p).clock = s.clock := by
  rw [enqueue_frame]
@[simp] theorem enqueue_answers (p : Payload) (s : State) : (s.enqueue p).answers = s.answers := by
  rw [enqueue_frame]
@[simp] theorem enqueue_rx (p : Payload) (s : State) : (s.enqueue p).bus.rx = s.bus.rx := by
  rw [enqueue_frame]
@[simp] theorem enqueue_attempt (p : Payload) (s : State) :
    (s.enqueue p).bus.attempt = s.bus.attempt := by
  rw [enqueue_frame]
@[simp] theorem enqueue_haulage (p : Payload) (s : State) :
    (s.enqueue p).trip.haulage = s.trip.haulage := by
  rw [enqueue_frame]

/-! ## Counts -/

/-- The count that is increased, where the list has a place for it. -/
theorem count_bump_self (s : State) (c : Count) (h : c.ctorIdx < s.counts.length) :
    (s.bump c).count c = satInc (s.count c) := by
  simp [State.count, State.bump, List.getD_eq_getElem?_getD, h]

theorem satInc_le (n : Nat) : satInc n ≤ 65535 := Nat.min_le_right _ _

/-- Increasing a count keeps every count within its bound. -/
theorem bump_counts_le (s : State) (c : Count) (h : ∀ n ∈ s.counts, n ≤ 65535) :
    ∀ n ∈ (s.bump c).counts, n ≤ 65535 := by
  intro n hn
  rw [State.bump_counts, List.mem_iff_getElem] at hn
  obtain ⟨i, hi, rfl⟩ := hn
  rw [List.getElem_modify]
  split
  · exact satInc_le _
  · exact h _ (List.getElem_mem _)

/-! ## Buffers and lists -/

/-- After a slip the receive buffer holds as many frames as before (R54). -/
theorem slipped_length (held : List Frame) (f : Frame) :
    (slipped held f).length = held.length := by
  unfold slipped
  dsimp only
  split
  next h =>
    rw [List.any_eq_true] at h
    obtain ⟨g, hg, hc⟩ := h
    have hl : 0 < held.length := List.length_pos_of_mem hg
    rw [List.length_append, List.length_eraseP, if_pos (List.any_eq_true.mpr ⟨g, hg, hc⟩)]
    simp only [List.length_cons, List.length_nil]
    omega
  next => rfl

/-- Adding to the passback list keeps its bound (R171). -/
theorem addPassback_length (ticket : Nat) (now : UnitTime) (source : PassbackSource)
    (l : List PassbackEntry) (h : l.length ≤ 64) :
    (addPassback ticket now source l).length ≤ 64 := by
  unfold addPassback passbackCapacity
  dsimp only
  split
  next e he =>
    have hlt : (l.filter (fun e => !(e.ticket == ticket))).length < l.length := by
      rw [← Nat.not_le]
      intro hle
      have hall := List.length_filter_eq_length_iff.mp (Nat.le_antisymm (List.length_filter_le _ _) hle)
      have hm := List.mem_of_find?_eq_some he
      have := hall e hm
      have hp := List.find?_some he
      simp_all
    simp only [List.length_append, List.length_cons, List.length_nil]
    omega
  next =>
    simp only [List.length_append, List.length_drop, List.length_cons, List.length_nil]
    omega

/-- Adding to the passback list keeps the ids distinct (R171). -/
theorem addPassback_nodup (ticket : Nat) (now : UnitTime) (source : PassbackSource)
    (l : List PassbackEntry) (h : (l.map (·.ticket)).Nodup) :
    ((addPassback ticket now source l).map (·.ticket)).Nodup := by
  have hrest : ((l.filter (fun e => !(e.ticket == ticket))).map (·.ticket)).Nodup :=
    h.sublist (List.Sublist.map _ List.filter_sublist)
  have hnot : ticket ∉ (l.filter (fun e => !(e.ticket == ticket))).map (·.ticket) := by
    intro hm
    obtain ⟨e, he, rfl⟩ := List.mem_map.mp hm
    have := (List.mem_filter.mp he).2
    simp at this
  have hadd : ∀ r : List PassbackEntry, r.Sublist (l.filter (fun e => !(e.ticket == ticket))) →
      ∀ e : PassbackEntry, e.ticket = ticket → ((r ++ [e]).map (·.ticket)).Nodup := by
    intro r hr e he
    rw [List.map_append, List.map_singleton, he]
    refine List.Nodup.append (hrest.sublist (List.Sublist.map _ hr)) (List.nodup_singleton _) ?_
    intro x hx hx'
    rw [List.mem_singleton] at hx'
    subst hx'
    exact hnot ((List.Sublist.map _ hr).subset hx)
  unfold addPassback
  dsimp only
  split
  · exact hadd _ (List.Sublist.refl _) _ rfl
  · exact hadd _ (List.drop_sublist _ _) _ rfl

/-- A record written keeps the bound of the brake record list (R114). -/
theorem writeRecord_length (c : Cause) (level : Nat) (s : State) :
    (s.writeRecord c level).brake.records.length ≤ 16 := by
  show (List.take 16 _).length ≤ 16
  rw [List.length_take]
  omega

end Sys2Proof.Machine
end

