-- ==== Sys2Proof/Laws/Raise.lean ====
section
/-! SUPPORT. What a change of the effective level, a raise and a brake reset can touch, once for every
caller. -/

namespace Sys2Proof.Machine

open Sys2Proof

/-- `t` differs from `s` at most in what a change of the effective level touches: the level itself and
the brake proof, the transmit queue and its timers, the trip controller, the door block, the boarding cycle
and counts (R105). -/
def LevelFrame (s t : State) : Prop :=
  t = { s with
    bus := { s.bus with
      queue := t.bus.queue, seqNext := t.bus.seqNext, periodDue := t.bus.periodDue
      lastContent := t.bus.lastContent }
    brake := { s.brake with effective := t.brake.effective, proof := t.brake.proof }
    trip := t.trip, door := t.door, gate := { s.gate with cycle := t.gate.cycle }
    counts := t.counts }

theorem LevelFrame.refl (s : State) : LevelFrame s s := rfl

theorem LevelFrame.trans {x y z : State} (h : LevelFrame x y) (g : LevelFrame y z) :
    LevelFrame x z := by
  unfold LevelFrame at *
  rw [g, h]

theorem StateQueued.levelFrame {s t : State} (h : StateQueued s t) : LevelFrame s t := by
  have := h.1
  unfold LevelFrame
  rw [this]

theorem enqueue_levelFrame (p : Payload) (s : State) : LevelFrame s (s.enqueue p) := by
  unfold LevelFrame
  rw [enqueue_frame]

theorem carWithdraw_levelFrame (b g : Nat) (r : WithdrawReason) (s : State) :
    LevelFrame s (s.carWithdraw b g r) :=
  LevelFrame.trans (show LevelFrame s (s.setDoor _) from rfl) (enqueue_levelFrame _ _)

theorem lockClosing_levelFrame (s : State) : LevelFrame s s.lockClosing := by
  unfold State.lockClosing
  refine LevelFrame.trans (show LevelFrame s s.lockSides from rfl) ?_
  unfold State.withdrawLocked
  dsimp only
  split
  · exact LevelFrame.refl _
  · refine LevelFrame.trans ?_ (y := match s.lockSides.door.stopBerth, s.lockSides.door.grantId with
      | some b, some g => s.lockSides.carWithdraw b g .departure
      | _, _ => s.lockSides) rfl
    split
    · exact carWithdraw_levelFrame _ _ _ _
    · exact LevelFrame.refl _

theorem endEvacuation_levelFrame (s : State) : LevelFrame s s.endEvacuation := by
  unfold State.endEvacuation
  split
  · exact LevelFrame.trans (show LevelFrame s (s.mapSides _) from rfl) (lockClosing_levelFrame _)
  · exact LevelFrame.refl _

/-- A rise of the level changes the trip controller alone (R127, R128, R132). -/
theorem tripRise_frame (level : Nat) (s : State) :
    s.tripRise level = s.setTrip (fun _ => (s.tripRise level).trip) := by
  unfold State.tripRise
  repeat' split
  all_goals rfl

theorem tellLevel_levelFrame (before : Nat) (s : State) : LevelFrame s (s.tellLevel before) := by
  unfold State.tellLevel
  split
  · split
    · rw [tripRise_frame]; rfl
    · exact LevelFrame.refl _
  · split
    · exact endEvacuation_levelFrame _
    · exact LevelFrame.refl _
  · rfl
  · exact LevelFrame.refl _

theorem levelChanged_levelFrame (before : Nat) (s : State) :
    LevelFrame s (s.levelChanged before) := by
  unfold State.levelChanged
  split
  · refine LevelFrame.trans ?_ (queueAllStates_stateQueued _).levelFrame
    refine LevelFrame.trans ?_ (tellLevel_levelFrame _ _)
    unfold State.proofAtChange
    split
    · rfl
    · exact LevelFrame.refl _
  · exact LevelFrame.refl _

/-- Forming the effective level anew touches no more than a change of the level does (R105). -/
theorem reform_levelFrame (s : State) : LevelFrame s s.reform := by
  unfold State.reform
  dsimp only
  split
  · exact LevelFrame.refl _
  · exact LevelFrame.trans
      (show LevelFrame s (s.setBrake ({ · with effective := s.formedLevel })) from rfl)
      (levelChanged_levelFrame _ _)

/-- Every level change leaves the demands, the rows and what has been judged as they were. -/
theorem LevelFrame.formedLevel {s t : State} (h : LevelFrame s t) : t.formedLevel = s.formedLevel :=
  (congrArg State.formedLevel h).trans rfl

/-- After a change of the level is told, the level stays as it was set. -/
theorem levelChanged_effective (before : Nat) (s : State) :
    (s.levelChanged before).brake.effective = s.brake.effective := by
  unfold State.levelChanged
  split
  · have h1 : ((s.proofAtChange before).tellLevel before).queueAllStates.brake.effective =
        ((s.proofAtChange before).tellLevel before).brake.effective :=
      (congrArg (fun x : State => x.brake.effective) (queueAllStates_stateQueued _).1).trans rfl
    rw [h1]
    have hp : (s.proofAtChange before).brake.effective = s.brake.effective := by
      unfold State.proofAtChange
      split <;> rfl
    have hc : ∀ x : State, x.lockClosing.brake = x.brake := by
      intro x
      unfold State.lockClosing State.withdrawLocked
      dsimp only
      split
      · rfl
      · simp only [State.setDoor_brake, State.mapSides]
        split <;> simp [State.carWithdraw, State.lockSides, State.mapSides]
    unfold State.tellLevel
    split
    · split
      · rw [tripRise_frame]; exact hp
      · exact hp
    · split
      · unfold State.endEvacuation
        split
        · rw [hc]; exact hp
        · exact hp
      · exact hp
    · exact hp
    · exact hp
  · rfl

/-- Forming the effective level anew gives the greatest of the own demands and the received levels
(R105). -/
theorem reform_effective (s : State) : s.reform.brake.effective = s.formedLevel := by
  unfold State.reform
  dsimp only
  split
  next h => exact h.symm
  next => rw [levelChanged_effective]; rfl

end Sys2Proof.Machine
end

