-- ==== Sys2Proof/Tests/Slice0.lean ====
section
/-! SUPPORT. Small checks of the model: ill-formed commands refused, the manual's worked figures on its
example line, one step at a time, and a state that meets the hypotheses of each statement. -/

namespace Sys2Proof.Tests

open Sys2Proof Sys2Proof.Machine

-- One test after another: elaborated side by side, they would hold a thread each.
set_option Elab.async false

/-! ## The example line (00_scope.md and Chapter 1) and small units on it -/

def exZones : List Zone :=
  [⟨0, 150000, .openTrack, 6000, 4000, true, true⟩,
   ⟨150000, 600000, .viaduct, 10000, 7000, false, false⟩,
   ⟨600000, 800000, .openTrack, 12000, 8000, true, true⟩,
   ⟨800000, 1000000, .loop, 12000, 8000, true, false⟩,
   ⟨1000000, 1100000, .openTrack, 12000, 8000, true, true⟩,
   ⟨1100000, 1650000, .tunnel, 5000, 4000, false, false⟩,
   ⟨1650000, 1800000, .openTrack, 6000, 4000, true, true⟩]

def exConstants : List (ConstName × Int) :=
  [(.countLength0, 250), (.countLength1, 250), (.sense0, 0), (.sense1, 0), (.primary, 0),
   (.disagreeTolerance, 300), (.drift, 10), (.uMax, 6000), (.captureWindow, 300),
   (.markTolerance, 20), (.loadOffset, -500), (.loadGain, 20480), (.gramsPerCount, 500),
   (.placeMass, 75), (.ratedPlaces, 120), (.rollbackTolerance, 100), (.slipTolerance, 400),
   (.slipTime, 600), (.ropeStretch, 1000), (.proofTime, 1000), (.proofDecrement, 300),
   (.stopButtonLevel, 1), (.dwell, 60), (.doorCloseTimeout, 20), (.ratedLoad, 9000),
   (.imbalance, 5000), (.derate, 750), (.overrun, 1500), (.creepDistance, 2000), (.vCreep, 300),
   (.stopTolerance, 20), (.recoverySpeed, 500), (.fullScale, 16000), (.halfLength, 6000),
   (.discardTime, 1500), (.passbackTime, 30), (.holdTime, 2000), (.passageTime, 10)]

/-- An image of a unit of the example line, with the signals of its role on its first outputs. -/
def exImage (address : Nat) (role : Role) (id : RawIdentity) : Image :=
  { header := some ⟨Config.formatCode, 0, crc32 []⟩, delivered := 0, body := []
    address := address, role := some role, identity := id, lineLength := 1800000
    samplePeriod := 20, retryLimit := 4, zones := exZones
    stops := [⟨2000, some 0, some 1⟩, ⟨1798000, some 1, some 0⟩]
    berths := [⟨0, 2000, 300, .left, true, false, 2, 2⟩,
      ⟨1, 1798000, 300, .left, false, true, 1, 2⟩]
    marks := [⟨400000, .common⟩, ⟨850000, .aSide⟩, ⟨850000, .bSide⟩, ⟨1200000, .common⟩,
      ⟨1600000, .common⟩]
    set0 := ⟨10000, 400, 500, 600, 300, 600, 1000, 1600⟩
    set1 := ⟨8000, 400, 400, 500, 300, 600, 1000, 1600⟩
    constants := exConstants, inputs := List.replicate 24 ⟨false, 2⟩, markInverted := false
    outputs := (signalsOf role).map (fun s => ⟨some s, false⟩)
      ++ List.replicate (16 - (signalsOf role).length) ⟨none, false⟩ }

def exConfig (address : Nat) (role : Role) (raw : RawIdentity) (id : Identity) : UnitConfig :=
  imageConfig (exImage address role raw) id

/-- A unit in OPERATING with every block at its reset value. -/
def unitOf (c : UnitConfig) : State :=
  { State.reset with phase := .configured .operating, cfg := some c }

def drive : State := unitOf (exConfig 0 .drive .absent .drive)
def carA : State := unitOf (exConfig 1 .car (.car .a) (.car .a))
def berth0 : State := unitOf (exConfig 6 .berth (.berth 0) (.berth 0))
def gate00 : State := unitOf (exConfig 10 .gate (.gate 0 0) (.gate 0 0))

/-- The state a command answers. -/
def after (c : Instr) (s : State) : State :=
  match exec c s with
  | .next t => t
  | _ => s

/-! ## Ill-formed commands -/

theorem test_illformed_stale_address : (Instr.staleTimerExpiry 0 32).wellFormed = false := by decide
theorem test_illformed_lost_address : (Instr.lostTimerExpiry 0 32).wellFormed = false := by decide
theorem test_illformed_raw_input : (Instr.rawInputChange 0 24 true).wellFormed = false := by decide
theorem test_illformed_debounce : (Instr.debounceTimerExpiry 0 24).wellFormed = false := by decide
theorem test_illformed_no_characters : (Instr.ticketRecord 0 []).wellFormed = false := by decide
theorem test_illformed_eleven_characters :
    (Instr.ticketRecord 0 (List.replicate 11 ⟨readerMark, true⟩)).wellFormed = false := by decide
theorem test_illformed_image_inputs :
    (Instr.configurationReadComplete 0 { exImage 0 .drive .absent with inputs := [] }
      0).wellFormed = false := by decide
theorem test_illformed_image_outputs :
    (Instr.configurationReadComplete 0 { exImage 0 .drive .absent with outputs := [] }
      0).wellFormed = false := by decide
theorem test_wellformed_image :
    (Instr.configurationReadComplete 0 (exImage 0 .drive .absent) 0).wellFormed = true := by decide

/-! ## Decoding and the counts -/

/-- No row of the opcode table gives bits. -/
theorem test_no_word_spells_a_command : decodeTableWord 16 0x1234 = none := by rfl

/-- The list of counts has a place for every count. -/
theorem test_counts_size : Count.serviceRefusals.ctorIdx + 1 = countsSize := by decide

/-! ## Worked figures -/

/-- Table 1-5, the merged limit list of the example line. -/
theorem test_merged_list :
    (drive.conf.mergedList.map (fun g => (g.start, g.stop, g.limit0, g.limit1))) =
      [(0, 150000, 6000, 4000), (150000, 700000, 5000, 4000), (700000, 1100000, 12000, 8000),
       (1100000, 1650000, 5000, 4000), (1650000, 1800000, 6000, 4000)] := by decide +kernel

theorem test_mirror_of_a_side_mark :
    (drive.conf.candidates .b).map (·.position) = [400000, 850000, 1200000, 1600000] := by decide

/-- R82: the exact square root. -/
theorem test_isqrt : isqrt 145000000 = 12041 := by decide +kernel

/-- Table 5-3. -/
theorem test_permitted_up :
    permittedSpeed drive.conf.mergedList 0 600 1060000 0 1799500 .up = 8544 := by decide +kernel

/-- Table 5-4, at and just below the boundary of a segment in down-travel. -/
theorem test_permitted_down :
    permittedSpeed drive.conf.mergedList 0 600 700000 300 500 .down = 5000 := by decide +kernel

/-- Table 2-7: 12,000 counts are 7,187 kg; a reading below the offset is 0 kg. -/
theorem test_load : carA.loadOf 12000 = 7187 ∧ carA.loadOf 300 = 0 := by decide +kernel

/-- Table 7-6: the code of 6,000 mm/s. -/
theorem test_analog_code : analogCode 6000 16000 = 12287 := by decide +kernel

/-! ## The hypotheses of the statements are met

One theorem for each statement that has hypotheses, on a concrete state, clause by clause. -/

/-- A STATE frame and a BRAKE ORDER, as they wait in a queue. -/
def exMotion : TxFrame := ⟨drive.stateContent .motion, 3, 0, false⟩
def exOrder : TxFrame := ⟨.brakeOrder 2 .start none 0, 0, 0, false⟩
def exReport : AdmissionReport :=
  { berth := 0, gateIndex := 0, cycle := some ⟨.a, 7⟩, cumulative := 2, tickets := [] }
def exReportFrame : TxFrame := ⟨.admissionReport default exReport, 0, 0, true⟩

theorem test_met_front : ({ drive with pending := [.busIdle 5] } : State).pending = [.busIdle 5] ∧
    drive.pending = [] := by decide

/-- A unit with content in every bounded part. -/
def exFull : State :=
  { drive with
    pending := [.sampleEvent 1000 0]
    bus := { drive.bus with queue := [exOrder, exMotion], rx := [⟨3, 0, exOrder.payload⟩] }
    brake := { drive.brake with records := [⟨.start, 2, none, 0, none, 0⟩] }
    gate := { drive.gate with passback := [⟨5, 0, .own⟩, ⟨6, 0, .heard⟩] } }

theorem test_met_bounds : BoundsLaw exFull ∧ ∃ t, step exFull = .next t :=
  ⟨by unfold BoundsLaw QueueLaw BufferLaw RecordLaw PassbackLaw CountLaw; decide, _, rfl⟩

/-- Level 2 latched and in effect. -/
def exBraked (s : State) : State := (s.raise .start 2).refreshOutputs

theorem test_met_brake : BrakeLaw (exBraked drive) ∧
    ∃ t, step { exBraked drive with pending := [.busIdle 5] } = .next t :=
  ⟨by unfold BrakeLaw; decide, _, rfl⟩

/-- A step with a BRAKE RESET at hand, and one without (the premises of the law of R105). -/
theorem test_met_no_reset : isResetCommand (.busIdle 5) = false ∧
    (exBraked drive).bus.rx = [] ∧
    (exBraked drive).bus.queue.find? (·.onBus) = none := by decide

theorem test_met_outputs : OutputLaw (exBraked drive) ∧
    ∃ t, step { exBraked drive with pending := [.busIdle 5] } = .next t :=
  ⟨by unfold OutputLaw; decide, _, rfl⟩

theorem test_met_withheld_level_two :
    OutputLaw (exBraked drive) ∧
      (exBraked drive).outputMap[0]? = some ⟨some .driveEnable, false⟩ ∧
      2 ≤ (exBraked drive).brake.effective ∧
      (exBraked drive).outputMap[2]? = some ⟨some .safetyBrakeHold, false⟩ ∧
      isSafetyHold .safetyBrakeHold = true ∧ (exBraked drive).term.hold.isRunning = false := by
  unfold OutputLaw; decide

theorem test_met_withheld_level_three :
    OutputLaw ((carA.raise .ropeSlip 3).refreshOutputs) ∧
      ((carA.raise .ropeSlip 3).refreshOutputs).outputMap[0]? = some ⟨some .trackBrakeHold, false⟩ ∧
      3 ≤ ((carA.raise .ropeSlip 3).refreshOutputs).brake.effective := by
  unfold OutputLaw; decide

theorem test_met_not_running : State.reset.running = false ∧ State.reset.bus.attempt = none ∧
    actsAlways (.busIdle 3) = false := by decide

theorem test_met_early : (drive.advance 7).due drive.sampleDue = false ∧
    (drive.advance 7).due drive.listenDue = false ∧
    (drive.advance 7).due (drive.bus.periodDue.getD 0 none) = false ∧
    (drive.advance 7).due (drive.brake.proof.map (·.due)) = false ∧
    (drive.advance 7).due (drive.term.debounceDue.getD 3 none) = false ∧
    (drive.advance 7).due drive.trip.dwellDue = false ∧
    (drive.advance 7).due drive.trip.doorCloseDue = false ∧
    (drive.advance 7).due drive.trip.retryDue = false ∧
    (drive.advance 7).due drive.trip.torqueDue = false ∧
    (drive.advance 7).due drive.door.repeatDue = false ∧
    (drive.advance 7).due drive.door.confirmDue = false ∧
    (drive.advance 7).due drive.grant.discardDue = false ∧
    (drive.advance 7).due drive.gate.redDue = false ∧ (drive.advance 7).due (some 8) = false ∧
    (drive.advance 7).ticketHoldDue = false ∧ (drive.advance 7).passageDue = false ∧
    (drive.advance 7).holdDue = false := by decide

theorem test_met_resets : drive.resetPin = false ∧ drive.phase ≠ .unpowered ∧
    ({ drive with phase := .unpowered } : State).phase = .unpowered ∧
    ({ drive with resetPin := true } : State).resetPin = true := by decide

/-- The image of the DRIVE of the example line passes every check (R182). -/
theorem test_image_passes : checkImage (exImage 0 .drive .absent) = none := by
  have h : checkRecords (exImage 0 .drive .absent) = none := by decide +kernel
  simp only [checkImage, h]
  simp [checkRead, checkFormat, checkCrc, exImage, failIf, firstFailure]

theorem test_image_identity : imageIdentity (exImage 0 .drive .absent) = some .drive := by decide

/-- An image without a header fails the first check, READ. -/
theorem test_image_refused : checkImage { exImage 0 .drive .absent with header := none } =
    some { check := .read, item := .none } := by rfl

theorem test_met_listening :
    ({ drive with phase := .configured .listening, listenDue := some 5 } : State).phase =
      .configured .listening ∧
    (State.advance 10 { drive with
      phase := .configured .listening, listenDue := some 5 }).due (some 5) = true := by decide

theorem test_met_channels : drive.alive = true ∧ State.reset.alive = true ∧
    drive.cfg.isSome = true ∧ State.reset.cfg = none ∧ QuadTransition.reverseOrder ≠ .bothChanged ∧
    (({ drive with meas := { drive.meas with
      e1 := { drive.meas.e1 with lastEdge := some 4 } } } : State).meas.channel .e1).lastEdge =
        some 4 := by decide

/-- A unit whose sample event falls due at 20,000 µs. -/
def sampling (s : State) : State := { s with sampleDue := some 20000 }

theorem test_met_sample : (sampling carA).running = true ∧ (sampling carA).role = .car ∧
    ((sampling carA).advance 20000).due (sampling carA).sampleDue = true := by decide

/-- A CAR that holds the notice of trip 41 and hears a FRESH DRIVE show a trip. -/
def exNotice (number : Nat) : TripNotice :=
  { number := number, revision := 2, fromStop := some 0, toStop := some 1, direction := .up
    set := 0, pending := false, hEnd := 1799500, recovery := false }
def exDriveMotion (number : Nat) : Motion :=
  { h := some 5000, v := 0, u := 0, ref := .normal, standstill := true, synchronised := true
    status := .haulage .running, trip := some ⟨number, 2⟩ }
def onTrip (number : Nat) : State :=
  { sampling carA with
    prof := { carA.prof with notice := some (exNotice 41) }
    peers := carA.peers.modify 0 (fun e => { e with
      freshness := .fresh, announcement := some .drive, digest := some carA.prof.digest
      motion := some (exDriveMotion number) }) }

theorem test_met_set_in_force : (onTrip 41).driveTrip = some ⟨41, 2⟩ ∧
    (onTrip 41).prof.notice = some (exNotice 41) ∧ (exNotice 41).number = 41 ∧
    (onTrip 42).driveTrip = some ⟨42, 2⟩ ∧ (exNotice 41).number ≠ 42 ∧
    (onTrip 41).running = true ∧ (onTrip 41).role = .car ∧
    ((onTrip 41).advance 20000).due (onTrip 41).sampleDue = true := by decide

/-- A CAR at standstill whose sample event is due stands still after it, and the load joins the filter:
12,000 counts are 7,187 kg (Table 2-7). -/
theorem test_met_load_sample :
    let s := { sampling carA with meas := { carA.meas with standstill := true, slowSince := some 0 } }
    s.running = true ∧ s.role = .car ∧ (s.advance 20000).due s.sampleDue = true ∧
      (after (.sampleEvent 20000 12000) s).meas.standstill = true ∧
      (after (.sampleEvent 20000 12000) s).meas.filter = [7187] := by decide +kernel

/-- A unit at its latest sample, 2 s after reset, with every timer of a sample run out. -/
def timed (s : State) : State :=
  { s with
    clock := 2000000
    sup := { s.sup with slipSince := some 0 }
    meas := { s.meas with
      lastSample := some 2000000, disagreeSince := some 0, agreeSince := some 0
      slowSince := some 0
      e0 := { s.meas.e0 with zeroSince := some 0, illegalTimes := List.replicate 16 1500000 } } }

theorem test_met_loss : (timed carA).running = true ∧ BrakeLaw (timed carA) ∧
    (timed carA).meas.lastSample = some 2000000 ∧
    ((timed carA).meas.channel .e0).inService = true ∧
    ((timed carA).meas.channel .e0).silentAt 2000000 = true ∧
    ((timed carA).meas.channel .e0).illegalAt 2000000 = true ∧
    ((timed carA).meas.channel (otherChannel .e0)).inService = true ∧
    (timed carA).supervises = true := by
  unfold BrakeLaw; decide

/-- The other channel lost already. -/
def oneLeft : State :=
  { timed carA with meas := { (timed carA).meas with
      e1 := { (timed carA).meas.e1 with inService := false }, status := .fallback } }

theorem test_met_second_loss : BrakeLaw oneLeft ∧ (oneLeft.meas.channel .e0).silentAt 2000000 = true ∧
    (oneLeft.meas.channel (otherChannel .e0)).inService = false ∧ oneLeft.supervises = true := by
  unfold BrakeLaw; decide

theorem test_met_disagreement : BrakeLaw (timed carA) ∧ (timed carA).supervises = true ∧
    (timed carA).meas.e0.inService = true ∧ (timed carA).meas.e1.inService = true ∧
    (timed carA).meas.status = .normal ∧
    ranFor (timed carA).meas.disagreeSince 2000000 500 = true ∧
    ({ (timed carA).meas with status := .disagree } : Measurement).status = .disagree ∧
    ranFor (timed carA).meas.agreeSince 2000000 500 = true := by
  unfold BrakeLaw; decide

theorem test_met_standstill_and_slip : BrakeLaw (timed carA) ∧
    (timed carA).meas.standstill = false ∧ ranFor (timed carA).meas.slowSince 2000000 500 = true ∧
    (timed carA).role = .car ∧
    ranFor (timed carA).sup.slipSince 2000000 ((timed carA).k .slipTime) = true ∧
    Cause.ropeSlip ∉ (timed carA).sup.present := by
  unfold BrakeLaw; decide

/-- Car A at a track position, known. -/
def carAt (mm : Nat) : State :=
  { carA with meas := { carA.meas with known := true, acc := (mm : Int) * 1000, h := mm, u := 40 } }

theorem test_met_mark : (carAt 400100).running = true ∧ (carAt 400100).role = .car ∧
    (carAt 400100).markActive true = true ∧ (carAt 400100).meas.known = true ∧
    nearestMark ((carAt 400100).conf.candidates .a) (carAt 400100).edgeEstimate =
      some (0, ⟨400000, .common⟩) ∧
    ((400000 : Int) - (carAt 400100).edgeEstimate).natAbs ≤ max 300 40 ∧
    max 300 40 < ((400000 : Int) - (carAt 400301).edgeEstimate).natAbs ∧
    carA.meas.known = false ∧ (carAt 400100).markActive false = false ∧ drive.role ≠ .car := by
  decide

theorem test_met_joining : (∀ g ∈ drive.conf.segmentsOf drive.conf.boundaries, g.start < g.stop) ∧
    (drive.conf.segmentsOf drive.conf.boundaries).IsChain (fun a b => a.stop = b.start) := by
  decide +kernel

theorem test_met_thresholds : drive.conf.set0.offW ≤ drive.conf.set0.offS ∧
    drive.conf.set0.offS ≤ drive.conf.set0.offE ∧ drive.conf.set0.offE ≤ drive.conf.set0.offT ∧
    drive.currentLimit 0 ≤ 16000 := by decide

theorem test_met_boundaries : drive.conf.boundaries[1]? = some 150000 ∧
    drive.conf.boundaries[2]? = some 600000 ∧ drive.role = .drive := by decide +kernel

/-- A DRIVE on trip 41 to stop 1 at a haul position, in a haulage state with a setpoint. -/
def travelling (st : Haulage) (h : Nat) (setpoint : Int) : State :=
  { sampling drive with
    meas := { drive.meas with known := true, h := h, acc := (h : Int) * 1000 }
    sup := { drive.sup with
      result := some ⟨0, 6000, 6300, 6600, 7000, 7600⟩
      authority := some ⟨1799500, .up, 41⟩ }
    trip := { drive.trip with
      haulage := st, setpoint := setpoint, latestSetpoint := setpoint.tdiv 1000, requeue := false
      trip := some { number := 41, revision := 0, set := 0, pending := false, fromStop := some 0
                     target := some 1, direction := .up, hEnd := 1799500, derated := false
                     recovery := false } } }

theorem test_met_setpoint :
    let s := travelling .running 1748000 6000000
    s.running = true ∧ s.role = .drive ∧ (s.advance 20000).due s.sampleDue = true ∧
      (s.trip.trip.bind (·.target)) = some 1 ∧ s.sup.result.isSome = true ∧
      s.k .creepDistance < s.dStop 1 .up ∧ s.meas.standstill = false ∧
      (travelling .running 1796500 0).dStop 1 .up ≤ s.k .creepDistance ∧
      (travelling .running 1797985 0).dStop 1 .up ≤ s.k .stopTolerance ∧
      ¬((travelling .running 1796500 0).dStop 1 .up ≤ s.k .stopTolerance) ∧
      s.trip.rests = false ∧ (travelling .stopping 1796500 0).trip.rests = true := by decide

/-- A unit with a frame in the queue, and one with that frame on the bus. -/
def queued (s : State) (f : TxFrame) : State := { s with bus := { s.bus with queue := [f] } }
def attempting (s : State) (f : TxFrame) : State :=
  { s with bus := { s.bus with
      queue := [{ f with onBus := true }], attempt := some { f with onBus := true } } }

theorem test_met_offer : (queued drive exMotion).operating = true ∧
    (queued drive exMotion).bus.attempt = none ∧ (queued drive exMotion).heldOff = false ∧
    (queued drive exMotion).bus.queue = exMotion :: [] ∧ drive.operating = true ∧
    drive.bus.queue = [] := by decide

theorem test_met_attempt : (attempting drive exMotion).bus.attempt.isSome = true ∧
    (attempting drive exMotion).bus.queue.find? (·.onBus) = some { exMotion with onBus := true } ∧
    (attempting drive exMotion).givesUp { exMotion with onBus := true } = false ∧
    (attempting drive { exMotion with failed := 4 }).givesUp
      { exMotion with failed := 4, onBus := true } = true ∧
    exMotion.isState = true ∧
    ¬((attempting drive exMotion).role = .gate ∧ exMotion.payload.kind = .admissionReport) ∧
    ((attempting gate00 exReportFrame).role = .gate ∧
      exReportFrame.payload.kind = .admissionReport) := by decide

theorem test_met_conflict_run : countsForConflict .source = true ∧
    (attempting drive exMotion).bus.conflictRun ≤ 1 ∧
    ({ (attempting drive exMotion).bus with conflictRun := 1 } : LineBus).conflictRun ≤ 1 ∧
    (attempting drive ⟨.tripNotice (exNotice 41), 0, 4, false⟩).givesUp
      ⟨.tripNotice (exNotice 41), 0, 4, true⟩ = true ∧
    ({ (attempting drive exMotion) with bus := { (attempting drive exMotion).bus with
      queue := [exMotion] } } : State).bus.queue.find? (·.onBus) = none := by decide

theorem test_met_third_error :
    let s := { attempting drive exMotion with bus := { (attempting drive exMotion).bus with
      conflictRun := 2 } }
    BrakeLaw s ∧ s.operating = true ∧ s.bus.attempt.isSome = true ∧ s.bus.conflictRun = 2 ∧
      countsForConflict .source = true := by
  unfold BrakeLaw; decide

/-- A GATE of berth 0 with an OPEN cycle of Car A. -/
def openGate : State :=
  gate00.setCycle ({ · with
    state := .open_, car := .a, id := 7, budget := 57, direction := .up, confirmed := 1
    unannounced := [⟨100, 1, 2⟩]
    others := List.replicate 8 { heard := 3, certain := true } })

theorem test_met_sent : exReport.cycle.isSome = true ∧ exReport.cycle = openGate.gate.cycle.ref ∧
    openGate.gate.cycle.confirmed < exReport.cumulative ∧
    (attempting openGate exReportFrame).bus.queue.find? (·.onBus) = some exReportFrame ∧
    (attempting openGate exReportFrame).gate.ticket = .none ∧
    (attempting drive ⟨.brakeReset 4, 0, 0, true⟩).bus.queue.find? (·.onBus) =
      some ⟨.brakeReset 4, 0, 0, true⟩ := by decide

/-- A BRAKE RESET of address 0 as its bits arrive. -/
def exRaw : RawFrame :=
  { cls := 1, source := 0, kind := 1, seq := 3, length := 1, bits := List.replicate 8 false
    read := .fields (.brakeReset 0), check := 0, aborted := false, cutShort := false }

/-- The same with the check that its bits give. -/
def exSound : RawFrame := { exRaw with check := crc16 exRaw.checkedBits }

def listening (s : State) : State := { s with bus := { s.bus with footing := true } }

theorem test_met_judged : (listening carA).receives = true ∧
    exSound.judge = .correct ⟨0, 3, .brakeReset 0⟩ ∧ (0 : Nat) ≠ carA.conf.address ∧
    carA.bus.rx.length < 16 ∧ (listening drive).receives = true ∧ drive.conf.address = 0 ∧
    { exSound with aborted := true }.judge = .error .aborted := by decide +kernel

/-- A wrong check is a check error, an early idle a form error (R41, R55). -/
theorem test_receive_errors : exRaw.judge = .error .check ∧
    { exSound with cutShort := true }.judge = .error .form := by decide +kernel

/-- A full buffer with a STATE frame at its third place. -/
def exHeld : List Frame :=
  List.replicate 2 ⟨3, 0, .brakeReset 1⟩ ++ ⟨4, 0, exMotion.payload⟩ ::
    List.replicate 13 ⟨3, 0, exOrder.payload⟩

theorem test_met_slip : exHeld.length = 16 ∧
    (∀ x ∈ List.replicate 2 (Frame.mk 3 0 (.brakeReset 1)),
      x.payload.cls.code < exMotion.payload.cls.code) ∧
    (∀ x ∈ List.replicate 13 (Frame.mk 3 0 exOrder.payload),
      x.payload.cls.code ≤ exMotion.payload.cls.code) ∧
    (Payload.brakeReset 0).cls.code ≤ exMotion.payload.cls.code ∧
    (∀ g ∈ List.replicate 16 (Frame.mk 3 0 exOrder.payload),
      g.payload.cls.code < (Payload.brakeReset 0).cls.code) := by decide

/-- A CAR that has applied a BRAKE RESET of address 0 with number 3, and holds frames. -/
def taking (rx : List Frame) : State :=
  { carA with
    bus := { carA.bus with rx := rx }
    peers := carA.peers.modify 0 (fun e => { e with
      controlSeq := e.controlSeq.set 0 (some (3, 0)) }) }

theorem test_met_taken : (taking [⟨0, 3, .brakeReset 0⟩]).running = true ∧
    ((taking [⟨0, 3, .brakeReset 0⟩]).advance 1000).duplicate ⟨0, 3, .brakeReset 0⟩ = true ∧
    (Payload.brakeReset 0).cls = .control ∧ (taking []).gate.ticket = .none ∧
    BrakeLaw (taking [⟨5, 0, exOrder.payload⟩]) ∧ (5 : Nat) < 32 ∧
    exMotion.payload.common = some drive.common ∧ 5 < (taking []).peers.length := by
  unfold BrakeLaw; decide

/-- A CAR on trip 41 that holds a frame of the DRIVE. -/
def hearing (p : Payload) : State :=
  { onTrip 41 with bus := { carA.bus with rx := [⟨0, 4, p⟩] } }

theorem test_met_notice :
    let s := hearing (.tripNotice (exNotice 42))
    s.running = true ∧ s.role = .car ∧
      (s.advance 0).duplicate ⟨0, 4, .tripNotice (exNotice 42)⟩ = false ∧ 0 < s.peers.length ∧
      (s.entry 0).announcement = some .drive ∧ (s.entry 0).digest = some s.prof.digest ∧
      s.heldElsewhere 0 .drive = false ∧ s.gate.ticket = .none ∧
      s.hStop 0 < s.hStop 1 ∧ 1 < s.conf.stops.length := by decide +kernel

/-- R15: a consistent notice replaces the stored one; one whose stops run against its direction is
rejected. R17: trip 41's MOTION keeps notice 41 and notice 42, trip 43's empties the store. -/
theorem test_notice_store :
    (after (.takeFrame 0) (hearing (.tripNotice (exNotice 42)))).prof.notice =
      some (exNotice 42) ∧
    (after (.takeFrame 0) (hearing (.tripNotice { exNotice 42 with
      direction := .down }))).count .rejectedNotices = 1 ∧
    (onTrip 41).prof.notice = (after (.takeFrame 0) (hearing (.motion
      { drive.common with digest := carA.prof.digest } (exDriveMotion 40)))).prof.notice ∧
    (after (.takeFrame 0) (hearing (.motion
      { drive.common with digest := carA.prof.digest } (exDriveMotion 43)))).prof.notice = none := by
  decide +kernel

theorem test_met_period :
    let s := { carA with bus := { carA.bus with
      periodDue := [some 5, none, none, none, none] } }
    s.running = true ∧ StateKind.motion ∈ stateKinds s.role ∧
      (s.advance 10).due (s.bus.periodDue.getD 0 none) = true ∧ s.bus.periodDue.length = 5 ∧
      s.bus.lastContent.length = 5 ∧ s.bus.queue.length ≤ 5 := by decide

/-- A CAR that heard address 0 last at reset, FRESH. -/
def heard (f : Freshness) : State :=
  { carA with peers := carA.peers.modify 0 (fun e => { e with
      freshness := f, announcement := some .drive, age := some 0 }) }

theorem test_met_silence : ((heard .fresh).entry 0).freshness = .fresh ∧
    ((heard .fresh).entry 0).staleTime ≤
      ((heard .fresh).advance 1000000).silence ((heard .fresh).entry 0) ∧
    ((heard .fresh).advance 999000).silence ((heard .fresh).entry 0) <
      ((heard .fresh).entry 0).staleTime ∧
    5000 ≤ ((heard .stale).advance 5000000).silence ((heard .stale).entry 0) ∧
    ((heard .stale).entry 0).freshness = .stale ∧
    (∀ p ∈ (heard .stale).peers, p.freshness ≠ .conflict) ∧
    ((heard .stale).advance 4999000).silence ((heard .stale).entry 0) < 5000 ∧
    (heard .stale).role = .car ∧
    ((heard .stale).advance 5000000).answer .drive = some 0 := by decide

theorem test_met_raise : BrakeLaw carA ∧ Cause.stopButton ∈ demandCauses ∧
    carA.highestOwn < 1 ∧ 1 ≤ (exBraked carA).highestOwn ∧ BrakeLaw (exBraked carA) ∧
    carA.running = true := by
  unfold BrakeLaw; decide

theorem test_met_reset_judged : BrakeLaw (exBraked carA) ∧ (exBraked carA).brake.held ≠ some 4 ∧
    (exBraked carA).meas.standstill = false ∧
    ((exBraked carA).setMeas ({ · with standstill := true })).meas.standstill = true ∧
    BrakeLaw ((exBraked carA).setMeas ({ · with standstill := true })) ∧
    ((exBraked carA).setBrake ({ · with held := some 4 })).brake.held = some 4 := by
  unfold BrakeLaw; decide

/-- A unit with a brake proof of a level at a speed of 1,000 mm/s, due, at a speed now. -/
def proving (s : State) (level : Nat) (v : Int) : State :=
  (s.setMeas ({ · with v := v })).setBrake ({ · with
    proof := some { level := level, speed := 1000, due := 5 } })

theorem test_met_proof : BrakeLaw (proving drive 1 600) ∧ (proving drive 1 600).running = true ∧
    (proving drive 1 700).absV + (proving drive 1 700).k .proofDecrement ≤ 1000 ∧
    (proving drive 1 19).absV < 20 ∧ 20 ≤ (proving drive 1 701).absV ∧
    1000 < (proving drive 1 701).absV + (proving drive 1 701).k .proofDecrement ∧
    (proving drive 2 701).role = .drive ∧ (proving carA 3 701).role = .car ∧
    BrakeLaw (proving carA 3 701) ∧ BrakeLaw (proving carA 1 701) ∧
    (proving carA 1 701).running = true := by
  unfold BrakeLaw; decide

/-- A DRIVE in a haulage state with its timers due. -/
def hauling (st : Haulage) (auto resumption : Bool) : State :=
  { drive with
    trip := { drive.trip with
      haulage := st, dwellDue := some 5, doorCloseDue := some 5, retryDue := some 5
      torqueDue := some 5, resumption := resumption }
    term := { drive.term with
      debounced := drive.term.debounced.set 2 auto
      rawHigh := drive.term.rawHigh.set 14 true
      debounceDue := drive.term.debounceDue.set 14 (some 5) } }

theorem test_met_departure : (hauling .atStop true false).running = true ∧
    (hauling .atStop true false).modeAuto = true ∧ (hauling .atStop false false).modeAuto = false ∧
    ((hauling .atStop true false).advance 10).due (some 5) = true ∧
    (hauling .doorClosing true false).trip.haulage = .doorClosing ∧
    (hauling .releasing true true).trip.resumption = true ∧
    Haulage.running ∉ [Haulage.unsynced, .parked, .tripped] := by decide

/-- A DRIVE in READY_CHECK at stop 0 with both cars and both berths FRESH, locked and closed. -/
def ready (level : Nat) : State :=
  let car (i : CarId) (e : PeerEntry) : PeerEntry := { e with
    freshness := .fresh, announcement := some (.car i)
    motion := some { h := some 2000, v := 0, u := 0, ref := .normal, standstill := true
                     synchronised := false, status := .doorsLocked true, trip := none }
    door := some ⟨⟨true, false, .locked, none⟩, ⟨true, false, .locked, none⟩⟩
    load := some ⟨4000, 54, 120, none⟩ }
  let berth (n : Nat) (e : PeerEntry) : PeerEntry := { e with
    freshness := .fresh, announcement := some (.berth n)
    berth := some { presence := true, gatesClosed := true, summary := none, stopButton := false } }
  { drive with
    brake := { drive.brake with effective := level }
    peers := ((((drive.peers.modify 1 (car .a)).modify 2 (car .b)).modify 6 (berth 0)).modify 7
      (berth 1))
    trip := { drive.trip with haulage := .readyCheck, currentStop := some 0, counter := 255 } }

/-- R122, R124: trip 255 departs up-travel, and the counter passes 255. -/
theorem test_met_ready : (ready 0).trip.currentStop = some 0 ∧ (ready 0).trip.resumption = false ∧
    firstFailing ((ready 0).readyConditions true) = none ∧
    firstFailing ((ready 1).readyConditions true) = some .brakeLevel ∧
    (ready 0).operating = true ∧ (ready 0).bus.queue.length < 8 ∧
    (ready 0).judgeReady.trip.haulage = .releasing ∧ (ready 0).judgeReady.trip.counter = 0 ∧
    ((ready 0).judgeReady.trip.trip.map (fun r => (r.number, r.hEnd))) = some (255, 1799500) := by
  decide +kernel

theorem test_met_park : (hauling .atStop false false).operating = true ∧
    (hauling .atStop false false).role = .drive ∧
    ((hauling .atStop false false).advance 10).due
      ((hauling .atStop false false).term.debounceDue.getD 14 none) = true ∧
    (hauling .atStop false false).rawActive 14 = true := by decide

/-- A CAR at standstill whose left side is in a release state, with berth 0 FRESH at address 6. -/
def releasing (st : ReleaseState) (retries : Nat) : State :=
  { carA with
    meas := { carA.meas with standstill := true }
    peers := carA.peers.modify 6 (fun e => { e with
      freshness := .fresh, announcement := some (.berth 0) })
    door := { carA.door with
      stopBerth := some 0, grantId := some 9, retryCount := retries
      repeatDue := some 5, confirmDue := some 5
      left := { state := st, confirmed := false, withdrawAtLock := false } } }

theorem test_met_repeat : (releasing .requesting 39).running = true ∧
    ((releasing .requesting 39).advance 10).due (releasing .requesting 39).door.repeatDue = true ∧
    (releasing .requesting 39).anySide .requesting = true ∧
    (releasing .requesting 39).door.retryCount < 40 ∧
    ((releasing .requesting 39).requestBerth.map (·.number)) = some 0 ∧
    (releasing .requesting 39).phase ≠ .configured .addressConflict ∧
    40 ≤ (releasing .requesting 40).door.retryCount ∧
    (releasing .locked 1).anySide .requesting = false := by decide

theorem test_met_confirmation :
    ((releasing .released 1).advance 10).due (releasing .released 1).door.confirmDue = true ∧
    (releasing .released 1).door.left =
      { state := .released, confirmed := false, withdrawAtLock := false } ∧
    (releasing .released 1).door.right.state = .locked ∧
    (releasing .released 1).door.right.withdrawAtLock = false ∧
    (releasing .released 1).meas.standstill = true ∧
    ((releasing .released 1).fresh (.berth 0)).isSome = true := by decide

/-- Car A braked at 700,000 mm, standing since reset, 5 s ago. -/
def stranded : State :=
  { exBraked (carAt 700000) with
    clock := 5000000
    meas := { (carAt 700000).meas with standstill := true }
    door := { carA.door with standstillTime := some 0 } }

theorem test_met_evacuation : 2 ≤ stranded.brake.effective ∧ stranded.meas.standstill = true ∧
    (∃ x, stranded.door.standstillTime = some x ∧ 5000 ≤ stranded.elapsed x) ∧
    stranded.meas.known = true ∧ stranded.operating = true ∧
    stranded.conf.evacuationPermitted (700000 - 6040) (700000 + 6040) .left = true ∧
    stranded.conf.evacuationPermitted (596000 - 6040) (596000 + 6040) .left = false :=
  ⟨by decide, by decide, ⟨0, by decide, by decide⟩, by decide, by decide, by decide, by decide⟩

/-- A BERTH with its presence and gate inputs active, and the DRIVE AT_STOP at stop 0 heard FRESH. -/
def atStop (presence : Bool) : State :=
  { berth0 with
    term := { berth0.term with
      debounced := (berth0.term.debounced.set 0 presence).set 1 true }
    grant := { berth0.grant with discardDue := some 5 }
    peers := (berth0.peers.modify 0 (fun e => { e with
      freshness := .fresh, announcement := some .drive
      motion := some { h := some 2000, v := 0, u := 0, ref := .normal, standstill := true
                       synchronised := true, status := .haulage .atStop, trip := none } })).modify 1
      (fun e => { e with
        freshness := .fresh, announcement := some (.car .a)
        motion := some { h := some 2000, v := 0, u := 500, ref := .normal, standstill := true
                         synchronised := false, status := .doorsLocked true, trip := none } }) }

theorem test_met_request : (atStop true).grant.state = .none ∧
    (atStop true).standingRefusal .a .left = none ∧ (atStop true).presenceInput = true ∧
    (atStop true).platformGatesClosed = true ∧ (atStop true).carStanding .a = true ∧
    (atStop false).presenceInput = false ∧ (atStop false).standingRefusal .a .left = none ∧
    (atStop true).standingRefusal .b .left = some .wrongBerth ∧
    berth0.standingRefusal .a .left = some .notAtStop ∧ (atStop true).running = true ∧
    (atStop true).phase ≠ .configured .addressConflict ∧
    (atStop true).bus.queue.length < 8 := by decide +kernel

theorem test_met_discard : ((atStop true).advance 10).due (atStop true).grant.discardDue = true ∧
    ((atStop true).setGrant ({ · with state := .pending })).grant.state = .pending ∧
    (atStop true).grant.state ≠ .pending ∧ (atStop true).grant.state ≠ .ready := by decide

/-- An adult ticket for travel up, and its record on the reader line. -/
def exTicket : Ticket := { id := 258, cls := .adult, places := 1, direction := .up, exempt := false }
def exRecord : List ReaderChar :=
  ([165, 0, 0, 1, 2, 0, 1, 0, 0, 2] : List Byte).map (⟨·, true⟩)

theorem test_met_presented : openGate.readsReader = true ∧ openGate.term.assembling = [] ∧
    openGate.bus.rx = [] ∧ openGate.gate.ticket = .none ∧ exRecord.length = 10 ∧
    (∀ c ∈ exRecord, c.stopOk = true) ∧
    readTicket (exRecord.map (·.value)) = some exTicket ∧ openGate.ownRefusal exTicket = none ∧
    openGate.mustHold exTicket = false ∧
    openGate.countedPlaces + exTicket.places ≤ openGate.gate.cycle.budget := by decide +kernel

theorem test_met_presented_otherwise : gate00.ownRefusal exTicket = some .closed ∧
    (openGate.setCycle ({ · with others := List.replicate 8 ⟨0, false⟩ })).mustHold exTicket =
      true ∧
    (openGate.setCycle ({ · with others := List.replicate 8 ⟨0, false⟩ })).ownRefusal exTicket =
      none ∧
    (openGate.setCycle ({ · with budget := 7 })).gate.cycle.budget <
      (openGate.setCycle ({ · with budget := 7 })).countedPlaces + exTicket.places ∧
    (openGate.setCycle ({ · with budget := 7 })).mustHold exTicket = false := by decide +kernel

theorem test_met_refusals : openGate.gate.cycle.state = .open_ ∧
    openGate.ownRefusal { exTicket with direction := .down } = some .direction ∧
    (openGate.setGate ({ · with passback := [⟨258, 0, .heard⟩] })).ownRefusal exTicket =
      some .passback ∧
    openGate.allowance < ({ exTicket with places := 3 } : Ticket).places ∧
    (openGate.setCycle ({ · with state := .suspended })).gate.cycle.state = .suspended := by
  decide +kernel

/-- The LOAD REPORT of Car A that opens cycle 8 at berth 0. -/
def exLoad : LoadReport :=
  { load := 4700, places := 63, rated := 120
    opening := some { berth := 0, cycleId := 8, budget := 57, direction := .up } }

theorem test_met_cycle : openGate.gate.cycle.ref ≠ some ⟨.a, 8⟩ ∧ openGate.conf.ownBerth = 0 ∧
    (openGate.carFlags .a).seenClear = false ∧
    ((openGate.setCarFlags .a (fun f => { f with seenClear := true })).carFlags .a).seenClear =
      true := by decide

/-- A DOOR STATE with one state on both sides and the LEFT released flag as given. -/
def exDoors (st : ReleaseState) (released : Bool) : DoorReport :=
  { left := { locked := st == .locked, released := released, state := st, grantId := none }
    right := { locked := st == .locked, released := false, state := st, grantId := none } }

/-- R159: a locked record closes the cycle only after one that showed a release, CLOSING records lying
between the two. -/
theorem test_cycle_closes_at_lock :
    (openGate.judgeDoorState .a true (exDoors .locked false)).gate.cycle.state = .open_ ∧
    (((openGate.judgeDoorState .a true (exDoors .released true)).judgeDoorState .a true
      (exDoors .closing false)).judgeDoorState .a true (exDoors .locked false)).gate.cycle.state =
        .closed := by decide

theorem test_met_ticket_timers :
    (openGate.setTicket (.held exTicket 5)).gate.ticket = .held exTicket 5 ∧
    (openGate.setTicket (.awaitingPassage exTicket 5)).gate.ticket = .awaitingPassage exTicket 5 ∧
    (openGate.setGate ({ · with redDue := some 5 })).gate.redDue = some 5 ∧
    openGate.running = true ∧ openGate.role = .gate ∧ 5 ≤ openGate.clock + 10 := by decide

theorem test_met_reader : openGate.readsReader = true ∧
    (openGate.setTerm ({ · with assembling := [165] })).term.assembling ≠ [] ∧
    openGate.term.lastChar + 20000 < openGate.clock + 20001 ∧
    openGate.clock + 20000 ≤ openGate.term.lastChar + 20000 ∧
    (7 : Byte) ≠ readerMark ∧ (165 : Byte) = readerMark := by decide

theorem test_met_raw : 3 < carA.term.rawHigh.length ∧ carA.running = true ∧
    3 ∈ inputsRead carA.role ∧ 7 ∉ inputsRead carA.role ∧ State.reset.running = false := by decide

theorem test_met_debounce :
    let s := { openGate.setTicket (.awaitingPassage exTicket 5) with term := { openGate.term with
      rawHigh := openGate.term.rawHigh.set 0 true
      debounceDue := openGate.term.debounceDue.set 0 (some 5) } }
    s.running = true ∧ (s.advance 10).due (s.term.debounceDue.getD 0 none) = true ∧
      s.role = .gate ∧ s.rawActive 0 = true ∧ s.gate.ticket = .awaitingPassage exTicket 5 := by
  decide

theorem test_met_output_hold :
    (drive.setTerm ({ · with hold := .running 5 })).term.hold = .running 5 ∧
    5 ≤ drive.clock + 10 := by decide

theorem test_met_service : drive.running = true ∧ drive.commandInProgress = false ∧
    drive.phase = .configured .operating ∧ openGate.role = .gate ∧ drive.role ≠ .gate ∧
    drive.meas.standstill = false ∧
    (drive.setMeas ({ · with standstill := true })).meas.standstill = true ∧
    (drive.advance 5).channelClean drive.meas.e0 = true ∧
    (drive.advance 5).channelClean { drive.meas.e0 with lastFault := some 0 } = false ∧
    ({ drive with answers := [⟨.done, true⟩] } : State).commandInProgress = true ∧
    drive.alive = true ∧ State.reset.phase = .starting ∧
    State.reset.commandInProgress = false ∧
    ({ State.reset with phase := .configured .configFault } : State).commandInProgress =
      false := by decide

/-! ### Laws of the device -/

/-- A CAR at standstill whose LEFT side is in a release state with its confirmed flag, the output hold timer
running, and grant 9 of Car A shown GRANTED by the FRESH berth 0. -/
def releasedDoor (st : ReleaseState) (confirmed : Bool) : State :=
  ({ carA with
    meas := { carA.meas with standstill := true, slowSince := some 0 }
    term := { carA.term with hold := .running 60000 }
    peers := carA.peers.modify 6 (fun e => { e with
      freshness := .fresh, announcement := some (.berth 0)
      berth := some { presence := true, gatesClosed := false, stopButton := false
                      summary := some { car := .a, grantId := 9, state := .granted } } })
    door := { carA.door with
      stopBerth := some 0, grantId := some 9
      left := { state := st, confirmed := confirmed, withdrawAtLock := false } } } :
    State).refreshOutputs

/-- A confirmed release keeps the door law and energises its output; a moving CAR, or an evacuation below
level 2, would break it. -/
theorem test_met_door_law : DoorLaw (releasedDoor .released true) ∧
    DoorLaw (releasedDoor .released false) ∧
    ¬DoorLaw { releasedDoor .released true with meas := carA.meas } ∧
    ¬DoorLaw (releasedDoor .evacuation false) := by
  refine ⟨?_, ?_, ?_, ?_⟩ <;> unfold DoorLaw <;> decide +kernel

theorem test_met_release_output : OutputLaw (releasedDoor .released true) ∧
    (releasedDoor .released true).role = .car ∧ (releasedDoor .released true).running = true ∧
    (releasedDoor .released true).outputMap[1]? = some ⟨some .doorReleaseLeft, false⟩ ∧
    (releasedDoor .released true).term.energised[1]? = some true ∧
    (releasedDoor .released false).term.energised[1]? = some false := by
  unfold OutputLaw; decide +kernel

theorem test_met_door_step :
    ∃ t, step { releasedDoor .released true with pending := [.busIdle 5] } = .next t := ⟨_, rfl⟩

/-- An evacuation at level 2 that energises its output. -/
def evacuating : State :=
  ((stranded.takeEvacuation .left).setTerm ({ · with hold := .running 60000000 })).refreshOutputs

theorem test_met_evacuation_output : DoorLaw evacuating ∧ OutputLaw evacuating ∧
    evacuating.releaseAsked .left = true ∧ evacuating.term.energised[1]? = some true := by
  refine ⟨?_, ?_, ?_⟩
  · unfold DoorLaw; decide +kernel
  · unfold OutputLaw; decide +kernel
  · decide +kernel

/-- A GATE whose ticket awaits its passage. -/
def awaitingGate : State :=
  (openGate.setTicket (.awaitingPassage exTicket 5)).setCycle ({ · with pending := 1 })

theorem test_met_grant_and_gate_laws :
    GrantLaw ((atStop true).setGrant ({ · with state := .granted })) ∧
    ¬GrantLaw ((atStop false).setGrant ({ · with state := .granted })) ∧
    GateLaw awaitingGate ∧ ¬GateLaw (awaitingGate.setCycle ({ · with pending := 2 })) ∧
    awaitingGate.awaitedPlaces = 1 := by
  refine ⟨?_, ?_, ?_, ?_, rfl⟩
  · unfold GrantLaw; decide +kernel
  · unfold GrantLaw; decide +kernel
  · unfold GateLaw; decide +kernel
  · unfold GateLaw; decide +kernel

/-! ### A sample of the measurement block -/

/-- A unit whose sample is due, each channel with 160 edges of 250 µm in the 20 ms: 2,000 mm/s
(Table 2-2, sample a). -/
def rolling (s : State) : State :=
  let c (x : Channel) : Channel := { x with acc := 40000, lastEdge := some 19900, edges := 160 }
  { sampling s with meas := { s.meas with e0 := c s.meas.e0, e1 := c s.meas.e1 } }

/-- R20, R26, R28, R29: 2,000 mm/s moves the position by 40 mm and leaves a residue. -/
theorem test_rolling :
    let t := after (.sampleEvent 20000 0) (rolling (carAt 700000))
    (rolling (carAt 700000)).running = true ∧ Underway (rolling (carAt 700000)) ∧
    ((rolling (carAt 700000)).advance 20000).due (rolling (carAt 700000)).sampleDue = true ∧
    BrakeLaw (rolling (carAt 700000)) ∧
    t.meas.v = 2000 ∧ t.meas.acc = 700040000 ∧ t.meas.h = 700040 ∧ t.meas.u = 40 ∧
    t.meas.residue = 400000 ∧ t.meas.status = .normal ∧ t.meas.lastSign = some true := by
  unfold BrakeLaw Underway; decide +kernel

/-- R20, Table 2-2, samples b, d and e: the cases of the interval formula and of silence. -/
theorem test_sample_speeds :
    let c : Channel := { Channel.reset with
      lastEdge := some 5000, interval := some 12500, edges := 3, acc := 750 }
    c.sampleSpeed 250 20 10000 = 20 ∧ c.sampleSpeed 250 20 45000 = 6 ∧
    c.sampleSpeed 250 20 505000 = 0 ∧
    { c with edges := 4 }.sampleSpeed 250 20 10000 = 37 ∧
    { c with interval := none }.sampleSpeed 250 20 10000 = 37 ∧
    { c with lastEdge := none }.sampleSpeed 250 20 10000 = 0 := by decide +kernel

/-- R23, R24: 16 illegal transitions lose one channel, and both. -/
theorem test_met_lost_at_sample :
    let ill (c : Channel) : Channel := { c with illegalTimes := List.replicate 16 10000 }
    let one := { sampling carA with meas := { carA.meas with e0 := ill carA.meas.e0 } }
    let two := { one with meas := { one.meas with e1 := ill one.meas.e1 } }
    let t := after (.sampleEvent 20000 0) one
    let x := after (.sampleEvent 20000 0) two
    BrakeLaw two ∧ Underway two ∧ two.supervises = true ∧
    t.meas.e0.inService = false ∧ t.meas.e1.inService = true ∧ t.meas.status = .fallback ∧
    x.meas.e0.inService = false ∧ x.meas.e1.inService = false ∧ x.meas.status = .none ∧
    2 ≤ x.latched .referenceLost := by
  unfold BrakeLaw Underway; decide +kernel

/-- R25, Table 2-4: channels 2,000 mm/s apart for 500 ms disagree, and 500 ms of agreement ends it. -/
theorem test_met_disagree_at_sample :
    let s := rolling carA
    let apart := { s with
      clock := 500000, sampleDue := some 520000
      meas := { s.meas with disagreeSince := some 0, e1 := carA.meas.e1
                            e0 := { s.meas.e0 with lastEdge := some 519900 } } }
    let close := { apart with meas := { carA.meas with
      status := .disagree, agreeSince := some 0 } }
    let t := after (.sampleEvent 20000 0) apart
    BrakeLaw apart ∧ Underway apart ∧ apart.supervises = true ∧
    t.meas.status = .disagree ∧ t.meas.v = 2000 ∧ 1 ≤ t.latched .referenceDisagree ∧
    (after (.sampleEvent 20000 0) close).meas.status = .normal ∧
    oneLeft.meas.status = .fallback := by
  unfold BrakeLaw Underway; decide +kernel

/-- R33: a CAR at standstill adopts 5,000 mm of a FRESH standing DRIVE; without the DRIVE's MOTION, or with
one of unknown h, it does not. -/
theorem test_met_adoption :
    let still (s : State) : State := { s with meas := { s.meas with
      standstill := true, slowSince := some 0 } }
    let t := after (.sampleEvent 20000 0) (still (onTrip 41))
    let x := after (.sampleEvent 20000 0) (still (sampling carA))
    (onTrip 41).driveMotion = some (exDriveMotion 41) ∧ 5000 ≤ (onTrip 41).conf.lineLength ∧
    (onTrip 41).meas.known = false ∧ t.meas.standstill = true ∧ t.meas.known = true ∧
    t.meas.h = 5000 ∧ t.meas.u = 500 ∧ t.meas.expected = some 0 ∧
    (sampling carA).driveMotion = none ∧ x.meas.standstill = true ∧ x.meas.known = false ∧
    (after (.sampleEvent 20000 0) (sampling carA)).meas.standstill = false := by decide +kernel

/-- R34, R29: a position off the track and a u above 6,000 mm are raised at the sample. -/
theorem test_met_limits :
    let off := sampling { carAt 0 with meas := { (carAt 0).meas with acc := -1000, u := 6001 } }
    let t := after (.sampleEvent 20000 0) off
    let x := after (.sampleEvent 20000 0) (sampling (carAt 0))
    BrakeLaw off ∧ Underway off ∧ off.supervises = true ∧ t.meas.known = true ∧
    off.meas.outside = false ∧ off.meas.degraded = false ∧
    t.meas.outside = true ∧ 2 ≤ t.latched .endOfTrack ∧
    t.meas.degraded = true ∧ 1 ≤ t.latched .positionDegraded ∧
    x.meas.outside = false ∧ x.meas.degraded = false := by
  unfold BrakeLaw Underway; decide +kernel

/-- R31: 301 mm beyond the mark at 400,000 mm is a miss, the second one in a row; 300 mm is none; a
reversal forms the expected mark anew. -/
theorem test_met_missed_mark :
    let at_ (mm : Nat) : State := sampling { carAt mm with meas := { (carAt mm).meas with
      expected := some 0, misses := 1, lastSign := some true } }
    let t := after (.sampleEvent 20000 0) (at_ 400301)
    let x := after (.sampleEvent 20000 0) (at_ 400300)
    let r := rolling (at_ 700000)
    let y := after (.sampleEvent 20000 0) { r with meas := { r.meas with lastSign := some false } }
    BrakeLaw (at_ 400301) ∧ (at_ 400301).meas.known = true ∧
    t.meas.misses = 2 ∧ t.meas.expected = some 1 ∧ t.count .missedMarks = 1 ∧
    1 ≤ t.latched .missedMarks ∧ x.meas.misses = 1 ∧ x.meas.expected = some 0 ∧
    y.meas.expected = some 1 ∧ y.meas.misses = 1 ∧ (carAt 0).meas.expected = none := by
  unfold BrakeLaw; decide +kernel

/-! ### Supervision and the sample of the trip controller -/

/-- A unit with the merged limit list of its configuration. -/
def profiled (s : State) : State := { s with prof := { s.prof with merged := s.conf.mergedList } }

/-- R14: a pending set 1 is declared at 1,000 mm/s. -/
theorem test_met_declaration :
    let s := profiled <| travelling .running 1748000 0
    let p (v : Int) : State := { s.setTrip (fun x => { x with
      trip := x.trip.map (fun r => { r with pending := true }) }) with
        meas := { s.meas with v := v } }
    s.supervises = true ∧ s.role = .drive ∧ (p 1000).absV ≤ (p 1000).samplePermitted 1 ∧
    (p 9000).samplePermitted 1 < (p 9000).absV ∧
    ((p 1000).supervisionSample.trip.trip.map (fun r => (r.set, r.revision))) = some (1, 1) := by
  decide +kernel

/-- R84, R85: 9,000 mm/s on the last segment is above every threshold. -/
theorem test_met_overspeed :
    let s := profiled (travelling .running 1748000 0)
    let t := ({ s with meas := { s.meas with v := 9000 } } : State).supervisionSample
    BrakeLaw s ∧ s.sup.warning = false ∧ t.sup.warning = true ∧
    t.sup.present = [.overspeedService, .overspeedSafety, .overspeedTrack, .carSilent] ∧
    s.sup.present = [] ∧ 3 ≤ t.latched .overspeedTrack ∧ t.count .speedWarnings = 1 := by
  unfold BrakeLaw; decide +kernel

/-- R94: an armed moving CAR without a FRESH DRIVE asks for a brake proof; R95: the DRIVE without its cars.
R92, R93: a CAR 1,000 mm/s faster than the DRIVE, and 100 m away, for the slip time. -/
theorem test_met_causes :
    let armed (s : State) : State := s.setSup ({ · with armed := true })
    let t := (armed carA).supervisionSample
    let far := ({ onTrip 41 with
      clock := 600000, meas := { (carAt 105000).meas with v := 1000 }
      sup := { carA.sup with slipSince := some 0 } } : State).supervisionSample
    t.sup.present = [.driveSilent] ∧ t.brake.proof.isSome = true ∧ carA.brake.proof = none ∧
    (armed drive).supervisionSample.sup.present = [.carSilent] ∧
    (onTrip 41).role = .car ∧ (onTrip 41).driveMotion.isSome = true ∧
    far.sup.present.contains .ropeSlip = true ∧
    far.sup.present.contains .positionDisagree = true ∧ far.sup.slipSince = some 0 := by
  decide +kernel

/-- R90, row by row: trip 41 shown and its notice stored; trip 42 shown; no trip shown; no FRESH DRIVE. -/
theorem test_met_authority :
    let bare : State := { onTrip 41 with peers := carA.peers.modify 0 (fun e => { e with
      freshness := .fresh, announcement := some .drive
      motion := some { exDriveMotion 41 with trip := none } }) }
    (onTrip 41).supervises = true ∧
    (onTrip 41).supervisionSample.sup.authority = some ⟨1799500, .up, 41⟩ ∧
    (onTrip 42).supervisionSample.sup.authority = none ∧
    (bare.setSup ({ · with authority := some ⟨5, .up, 41⟩ })).supervisionSample.sup.authority =
      none ∧ bare.driveTrip = none ∧ (bare.fresh .drive).isSome = true ∧
    (carA.setSup ({ · with authority := some ⟨5, .up, 41⟩ })).supervisionSample.sup.authority =
      some ⟨5, .up, 41⟩ ∧ (carA.fresh .drive).isNone = true := by decide +kernel

/-- The sample of the trip controller in each state stated, with no demand risen. -/
theorem test_met_trip_sample :
    let x (s : State) : State :=
      (((s.advance 20000).restartSample 0).sampleMeasurement 0).supervisionSample
    let still (s : State) : State := { s with meas := { s.meas with
      standstill := true, slowSince := some 0 } }
    let t (s : State) : State := after (.sampleEvent 20000 0) s
    let run := profiled <| travelling .running 1748000 0
    let hold := profiled <| travelling .holding 1748000 600000
    let stop := still (travelling .stopping 1796500 0)
    let sync := still { sampling (ready 0) with trip := { drive.trip with resetSeen := true } }
    ((x run).highestOwn ≤ run.brake.judged ∧ (t run).trip.setpoint = 8000) ∧
    ((x hold).highestOwn ≤ hold.brake.judged ∧ (t hold).trip.setpoint = 590000) ∧
    ((x stop).highestOwn ≤ stop.brake.judged ∧ (x stop).meas.standstill = true ∧
      (t stop).trip.haulage = .atStop) ∧
    ((x sync).highestOwn ≤ sync.brake.judged ∧ sync.trip.haulage = .unsynced ∧
      (t sync).trip.lastReason.map (·.1) = some .syncAmbiguous) ∧
    (travelling .recovery 1748000 0).trip.haulage = .recovery ∧
    (sampling carA).supervises = true := by decide +kernel

/-- R131: a recovery trip without a target, with and without a matching stop. -/
theorem test_met_recovery_run :
    let r : TripRecord :=
      { number := 3, revision := 0, set := 1, pending := false, fromStop := none, target := none
        direction := .up, hEnd := 1800000, derated := false, recovery := true }
    let s (base : State) : State := { profiled base with
      trip := { drive.trip with haulage := .recovery, trip := some r, torqueProved := true }
      sup := { drive.sup with result := some ⟨1, 4000, 4300, 4600, 5000, 5600⟩ } }
    (s (ready 0)).matchingStops = [0, 1] ∧ (s (ready 0)).runSample.trip.haulage = .stopping ∧
    (s drive).matchingStops = [] ∧ (s drive).runSample.trip.setpoint = 8000 ∧
    (s (ready 0)).completeStop.trip.currentStop = some 1 ∧
    (s drive).completeStop.trip.haulage = .unsynced ∧
    (s (ready 0)).matchingStops.head? = some 0 := by decide +kernel

/-! ### The trip controller -/

theorem test_met_torque_departure : (hauling .releasing true false).running = true ∧
    (hauling .releasing true false).trip.haulage = .releasing ∧
    ((hauling .releasing true false).advance 10).due
      (hauling .releasing true false).trip.torqueDue = true ∧
    (hauling .releasing true false).trip.resumption = false := by decide

/-- R129: within the creep distance the run ends AT_STOP, short of it in STRANDED. -/
theorem test_met_arrival :
    let near := travelling .stopping 1796000 0
    let short := travelling .stopping 1795999 0
    (near.trip.trip.bind (·.target)) = some 1 ∧ near.dStop 1 .up ≤ near.k .creepDistance ∧
    near.completeStop.trip.haulage = .atStop ∧ near.completeStop.meas.h = 1798000 ∧
    near.completeStop.trip.heldDir = .down ∧
    short.k .creepDistance < short.dStop 1 .up ∧ short.presenceAt 1 = false ∧
    short.completeStop.trip.haulage = .stranded := by decide +kernel

/-- R130, row by row. -/
theorem test_met_brake_reset_table :
    let at_ (st : Haulage) (h : Nat) : State := { ready 0 with
      meas := { drive.meas with known := true, h := h, standstill := true }
      trip := { drive.trip with haulage := st } }
    (at_ .tripped 2300).stopHere = some 0 ∧ (at_ .tripped 2301).stopHere = none ∧
    (at_ .tripped 2300).tripReset.trip.haulage = .atStop ∧
    (at_ .tripped 2301).tripReset.trip.haulage = .stranded ∧
    ({ at_ .tripped 0 with meas := drive.meas } : State).tripReset.trip.haulage = .unsynced ∧
    (travelling .holding 1748000 0).trip.trip.map (·.recovery) = some false ∧
    (at_ .holding 2000).trip.trip = none ∧
    (at_ .unsynced 2000).tripReset.trip.resetSeen = true ∧
    (at_ .parked 2000).parkKey = false ∧ (at_ .parked 2000).tripReset.trip.haulage = .atStop ∧
    ((at_ .parked 2000).setTerm (fun x => { x with
      debounced := x.debounced.set 14 true })).parkKey = true ∧
    Haulage.running ∉ [Haulage.tripped, .holding, .unsynced, .parked] := by decide +kernel

theorem test_met_reset_at_drive :
    let s := (exBraked drive).setMeas ({ · with standstill := true })
    BrakeLaw s ∧ s.role = .drive ∧ s.brake.held ≠ some 4 ∧ s.meas.standstill = true ∧
    (s.judgeReset 4).brake.effective = 0 ∧
    2 ≤ ((({ s with phase := .configured .listening } : State).judgeReset 4).brake.effective) := by
  unfold BrakeLaw; decide +kernel

/-- A DRIVE at standstill that may recover, with the direction selector UP. -/
def recovering (st : Haulage) (h : Nat) : State :=
  { ready 0 with
    meas := { drive.meas with known := true, h := h, standstill := true }
    trip := { drive.trip with haulage := st }
    term := { drive.term with
      debounced := drive.term.debounced.set 6 true, rawHigh := drive.term.rawHigh.set 5 true
      debounceDue := drive.term.debounceDue.set 5 (some 5) } }

/-- R119, R131: what the recovery key does. -/
theorem test_met_recovery_key :
    let s := recovering .stranded 2000
    s.keysJudged = true ∧ s.role = .drive ∧
    (s.advance 10).due (s.term.debounceDue.getD 5 none) = true ∧ s.rawActive 5 = true ∧
    s.directionSelector = some .up ∧ drive.directionSelector = none ∧
    s.recoveryFailure = none ∧ s.conf.nextStopFrom 2000 .up = some 1 ∧
    s.recoveryKey.trip.haulage = .recovery ∧
    ((after (.debounceTimerExpiry 10 5) s).trip.trip.bind (·.target)) = some 1 ∧
    s.conf.nextStopFrom 1798000 .up = none ∧
    ((recovering .stranded 1798000).recoveryKey.trip.lastReason.map (·.1)) = some .noTarget ∧
    (recovering .unsynced 0).matchingStops.head? = some 0 ∧
    (recovering .unsynced 0).recoveryKey.trip.currentStop = some 0 ∧
    ((s.setMeas ({ · with standstill := false })).recoveryKey.trip.lastReason.map (·.1)) =
      some .notStandstill ∧
    TakesControl s := by
  unfold TakesControl; decide +kernel

/-- R119: with no berth showing presence, UNSYNCED recovers to the end of the track. -/
theorem test_met_recovery_to_the_end :
    let absent (e : PeerEntry) : PeerEntry := { e with berth := none }
    let s := { recovering .unsynced 0 with
      peers := ((recovering .unsynced 0).peers.modify 6 absent).modify 7 absent }
    s.matchingStops = [] ∧ s.recoveryFailure = none ∧
    (s.recoveryKey.trip.trip.map (·.hEnd)) = some 1800000 := by decide +kernel

/-! ### The door block -/

/-- Car A at standstill in the window of berth 0, the FRESH DRIVE AT_STOP at stop 0, the flag set. -/
def requesting (mm : Nat) (st : ReleaseState) : State :=
  { releasing st 1 with
    meas := { (carAt mm).meas with standstill := true, slowSince := some 0, u := 0 }
    sampleDue := some 20000
    peers := (releasing st 1).peers.modify 0 (fun e => { e with
      freshness := .fresh, announcement := some .drive
      motion := some { exDriveMotion 41 with
        h := some 2000, status := .haulage .atStop, trip := none } })
    door := { (releasing st 1).door with armed := true } }

/-- R138, R139: within 300 mm of the berth the request starts; 1 mm further it does not, and a request in
progress is abandoned. -/
theorem test_met_request_start :
    (requesting 2300 .locked).requestConditions = true ∧
    (requesting 2301 .locked).requestConditions = false ∧
    ((requesting 2300 .locked).carBerth.bind (requesting 2300 .locked).conf.berth?).isSome =
      true ∧
    (requesting 2300 .locked).judgeRequest.door.left.state = .requesting ∧
    (requesting 2300 .locked).judgeRequest.door.requestNumber = 1 ∧
    TakesControl (requesting 2300 .locked) ∧
    (requesting 2301 .requesting).anySide .requesting = true ∧
    (requesting 2301 .requesting).judgeRequest.door.left.state = .closing ∧
    (requesting 2301 .requesting).judgeRequest.door.armed = true ∧
    (requesting 2301 .locked).judgeRequest = requesting 2301 .locked := by
  unfold TakesControl; decide +kernel

theorem test_met_request_at_sample :
    let s := requesting 2000 .locked
    let x := ((((s.advance 20000).restartSample 0).sampleMeasurement
      0).supervisionSample).judgeOpenMoving
    s.running = true ∧ s.role = .car ∧ (s.advance 20000).due s.sampleDue = true ∧
    x.highestOwn ≤ s.brake.judged ∧
    (after (.sampleEvent 20000 0) s).door.left.state = .requesting := by decide +kernel

/-- R145: grant 9 for the current request is accepted, confirmed where the berth shows it; one for another
request is rejected; one already held changes nothing. -/
theorem test_met_grant :
    let s := { requesting 2000 .requesting with door :=
      { (requesting 2000 .requesting).door with grantId := none } }
    let shown := { s with peers := (releasedDoor .locked false).peers }
    (s.takeGrant 0 .left 0 9).door.left = ⟨.released, false, false⟩ ∧
    (s.takeGrant 0 .left 0 9).door.confirmDue = some 1000000 ∧
    (shown.takeGrant 0 .left 0 9).door.left = ⟨.released, true, false⟩ ∧
    (shown.berthSummary 0).isSome = true ∧ (s.berthSummary 0) = none ∧
    (s.takeGrant 0 .left 1 9).count .rejectedGrants = 1 ∧
    (requesting 2000 .requesting).takeGrant 0 .left 0 9 = requesting 2000 .requesting := by
  decide +kernel

/-- R148: the sides at a departure notice; the lock sends the withdrawal when the last side has locked. -/
theorem test_met_departure_notice :
    let left (st : ReleaseState) (wait locked : Bool) : State := { releasing st 1 with
      door := { (releasing st 1).door with left := ⟨st, false, wait⟩ }
      term := { carA.term with
        debounced := carA.term.debounced.set 0 locked
        debounceDue := carA.term.debounceDue.set 0 (some 5) } }
    ((left .released false false).doorDriveMotion .running).door.left =
      ⟨.closing, false, true⟩ ∧
    ((left .requesting false true).doorDriveMotion .parked).door.left = ⟨.locked, false, false⟩ ∧
    ((left .fault false false).doorDriveMotion .doorClosing).door.left.state = .closing ∧
    ((left .released false false).doorDriveMotion .atStop).door.armed = true ∧
    (left .closing true true).lockClosing.door.grantId = none ∧
    (((left .closing true true).lockClosing.bus.queue.map (·.payload))) =
      [.releaseWithdrawal 0 .a 9 .departure] ∧
    (left .closing true false).lockClosing = left .closing true false ∧
    TakesControl (left .closing true true) ∧ BrakeLaw (left .closing true true) ∧
    (left .closing true true).meas.standstill = true ∧
    ((left .closing true true).advance 10).due
      ((left .closing true true).term.debounceDue.getD 0 none) = true := by
  unfold TakesControl BrakeLaw; decide +kernel

/-- A MOTION of the FRESH DRIVE that shows RUNNING reaches the door block. -/
theorem test_met_drive_motion :
    let c : Common := { drive.common with digest := carA.prof.digest }
    let s := hearing (.motion c (exDriveMotion 41))
    s.running = true ∧ s.role = .car ∧ s.bus.rx = [⟨0, 4, .motion c (exDriveMotion 41)⟩] ∧
    0 < s.peers.length ∧ c.identity = .drive ∧ c.digest = s.prof.digest ∧
    (s.entry 0).freshness = .fresh ∧ (s.entry 0).announcement = some .drive ∧
    s.heldElsewhere 0 .drive = false ∧ (∀ p ∈ s.peers, p.freshness ≠ .conflict) ∧
    (after (.takeFrame 0) s).door.lastDriveState = some .running := by decide +kernel

/-! ### Delivery -/

/-- The hypotheses of delivery of a CONTROL frame: not a duplicate, of a source whose freshness it leaves, no
entry in CONFLICT, no ticket held. -/
def deliverable (s : State) (p : Payload) (source : Nat) : Bool :=
  s.running && s.gate.ticket == .none && p.cls == .control &&
    !(s.duplicate ⟨source, 0, p⟩) && decide (source < s.peers.length) &&
    s.judgeFreshness source == (s.entry source).freshness &&
    s.peers.all (fun e => !(e.freshness == .conflict))

/-- A source with the identity required, FRESH. -/
def known (s : State) (source : Nat) (id : Identity) : Bool :=
  (s.entry source).freshness == .fresh && (s.entry source).announcement == some id

/-- Each kind is met by a FRESH source with its identity at the unit it names. -/
theorem test_met_delivery :
    let car := onTrip 41
    let atBerth := atStop true
    let asking := releasing .requesting 1
    (deliverable car (.brakeReset 7) 0 && deliverable car (.tripNotice (exNotice 41)) 0 &&
      deliverable car (.evacuationOrder .a .left) 0 && known car 0 .drive &&
      car.role == .car && car.conf.identity == .car .a &&
      deliverable (ready 0) (.evacuationReply .b .left .moving) 2 && known (ready 0) 2 (.car .b) &&
      deliverable atBerth (.releaseRequest 0 .a .left 5) 1 && known atBerth 1 (.car .a) &&
      deliverable atBerth (.releaseWithdrawal 0 .a 5 .moving) 1 &&
      atBerth.conf.identity == .berth 0 &&
      deliverable asking (.releaseGrant 0 .a .left 0 9) 6 && known asking 6 (.berth 0) &&
      deliverable asking (.releaseRefusal 0 .a 0 .notAtStop) 6 &&
      deliverable asking (.releaseWithdrawal 0 .a 9 .presenceLost) 6) = true := by decide +kernel

/-- A source not heard of leaves each frame unrouted, and a frame for another unit does nothing. -/
theorem test_met_unrouted :
    (deliverable carA (.brakeReset 7) 5 && !known carA 5 .drive &&
      deliverable carA (.evacuationOrder .b .left) 5 && deliverable berth0 (.tripNotice
        (exNotice 41)) 5 && !(berth0.role == .car) &&
      deliverable carA (.releaseWithdrawal 3 .a 9 .moving) 5 &&
      (carA.entry 5).announcement == none &&
      deliverable carA (.releaseGrant 0 .b .left 0 9) 5) = true ∧
    (after (.takeFrame 0) (taking [⟨5, 0, .releaseWithdrawal 3 .a 9 .moving⟩])).count
      .unroutedFrames = 1 ∧
    (after (.takeFrame 0) (taking [⟨5, 0, .releaseGrant 0 .b .left 0 9⟩])).count
      .unroutedFrames = 0 := by decide +kernel

/-- R158: a LOAD REPORT of Car A, FRESH at a GATE, opens its cycle. -/
theorem test_met_load_report :
    let k : Common := { carA.common with digest := openGate.prof.digest }
    let s := { openGate.setCarFlags .a (fun f => { f with seenClear := true }) with
      bus := { openGate.bus with rx := [⟨1, 0, .loadReport k exLoad⟩] }
      peers := openGate.peers.modify 1 (fun e => { e with
        freshness := .fresh, announcement := some (.car .a) }) }
    s.running = true ∧ s.role = .gate ∧ s.gate.ticket = .none ∧ 1 < s.peers.length ∧
    k.identity = .car .a ∧ k.digest = s.prof.digest ∧ (s.entry 1).freshness = .fresh ∧
    (s.entry 1).announcement = some (.car .a) ∧ s.heldElsewhere 1 (.car .a) = false ∧
    (∀ p ∈ s.peers, p.freshness ≠ .conflict) ∧
    (after (.takeFrame 0) s).gate.cycle.id = 8 := by decide +kernel

/-- A GATE that receives an erroneous frame, and a CAR whose full buffer meets a sound one. -/
theorem test_met_gate_error_and_full_buffer :
    (listening openGate).receives = true ∧ (listening openGate).role = .gate ∧
    exRaw.judge = .error .check ∧
    (after (.frameComplete 0 exRaw) (listening
      (openGate.setCarFlags .a (fun f => { f with doubt := false })))).gate.carA.doubt = true ∧
    (let s := { listening carA with bus := { (listening carA).bus with rx := exHeld } }
     s.receives = true ∧ s.bus.rx.length = 16 ∧
       exSound.judge = .correct ⟨0, 3, .brakeReset 0⟩ ∧ (0 : Nat) ≠ s.conf.address ∧
       (after (.frameComplete 0 exSound) s).count .slips = 1) := by decide +kernel

/-! ## One step, with the results the manual gives -/

/-- R19: one forward edge of 250 µm. -/
theorem test_edge : (after (.quadratureTransition 10 .e0 .normalOrder) drive).meas.e0.acc = 250 ∧
    (after (.quadratureTransition 10 .e1 .reverseOrder) drive).meas.e1.acc = -250 := by
  decide +kernel

/-- R19: a channel counts before the image has passed, and the accepted image gives the edges their count
length. -/
theorem test_edge_before_image :
    let s := after (.quadratureTransition 10 .e0 .normalOrder) State.reset
    s.meas.e0.edges = 1 ∧ (s.takeConfig drive.conf).meas.e0.acc = 250 := by decide +kernel

/-- R41, Table 3-3: a CAR's MOTION with the synchronised flag set or with a haulage state breaks a form
rule. R69: a MOTION of a GATE is no form error. -/
theorem test_motion_by_role :
    let m : Motion := { exDriveMotion 41 with synchronised := false, status := .doorsLocked true }
    let p (m : Motion) : Payload := .motion { carA.common with unitState := some .operating } m
    (p m).inRange = true ∧ (p { m with synchronised := true }).inRange = false ∧
      (p { m with status := .haulage .atStop }).inRange = false ∧
      (Payload.motion { gate00.common with unitState := some .operating } m).inRange = true := by
  decide +kernel

/-- R170: a report still queued whose ack slot is recessive puts a car in doubt. -/
theorem test_unheard_report :
    let s := (openGate.setCarFlags .a (fun f => { f with doubt := false }))
    (after (.noAckAttempt 0) (attempting s exReportFrame)).gate.carA.doubt = true := by
  decide +kernel

/-- A GATE whose ADMISSION REPORT has left the queue while its attempt runs, no car in doubt. -/
def lostReport : State :=
  { openGate.setCarFlags .a (fun f => { f with doubt := false }) with bus := { openGate.bus with queue := [], attempt := some exReportFrame } }

theorem test_met_lost_report : lostReport.bus.attempt = some exReportFrame ∧
    lostReport.role = .gate ∧ exReportFrame.payload.kind = .admissionReport ∧
    lostReport.bus.queue.find? (·.onBus) = none := by decide

/-- R170: each attempt with a recessive ack slot is announced, of such a report too. -/
theorem test_lost_report_doubt : lostReport.gate.carA.doubt = false ∧
    (after (.noAckAttempt 0) lostReport).gate.carA.doubt = true ∧
    ((after (.noAckAttempt 0) lostReport).gate.cycle.others.all (fun o => !o.certain)) = true := by
  decide +kernel

/-- R14: a notice refused at a declaration within a sample is queued again at the next sample event, not
in the same one. -/
theorem test_notice_owed :
    let s := travelling .running 1748000 0
    let r := s.trip.trip.getD default
    let q := s.setTrip (fun x => { x with requeue := true, trip := some { r with revision := 1 } })
    s.owedNotice = none ∧ (q.requeueNotice s.owedNotice).bus.queue = [] ∧
      (q.requeueNotice q.owedNotice).bus.queue.length = 1 ∧
      (q.requeueNotice (some r)).bus.queue = [] := by decide +kernel

/-- R130, Table 7-2: a recovery trip ended in HOLDING leaves nothing asked for and no setpoint. -/
theorem test_recovery_ended :
    let s := travelling .holding 1748000 500000
    let x := (s.setTrip (fun t => { t with
      askEnable := true, askService := true
      trip := t.trip.map (fun r => { r with recovery := true }) })).tripReset
    x.trip.haulage = .stranded ∧ x.trip.setpoint = 0 ∧ x.trip.askEnable = false ∧
      x.trip.askService = false := by decide +kernel

/-- R134: a trip between samples leaves the setpoint of the latest sample in STATUS. -/
theorem test_status_setpoint :
    ((travelling .running 1748000 6000000).tripRise 2).trip.setpoint = 0 ∧
    ((travelling .running 1748000 6000000).tripRise 2).tripStatus.setpoint = 6000 := by
  decide +kernel

/-- R140, R139: a request abandoned because the DRIVE has left AT_STOP leaves the flag clear. -/
theorem test_abandoned_unarmed :
    let shows (st : Haulage) (f : Freshness) : State := { releasing .requesting 1 with
      peers := (releasing .requesting 1).peers.modify 0 (fun e => { e with
        freshness := f, announcement := some .drive
        motion := some { exDriveMotion 41 with status := .haulage st } }) }
    (shows .tripped .fresh).abandonRequest.door.armed = false ∧
    (shows .atStop .fresh).abandonRequest.door.armed = true ∧
    (shows .atStop .stale).abandonRequest.door.armed = true ∧
    (shows .tripped .conflict).abandonRequest.door.armed = true := by decide

/-- R177: the hold timer runs at 3 × T_s after a sample. -/
theorem test_sample_hold :
    (after (.sampleEvent 20000 0) (sampling drive)).term.hold = .running 80000 := by decide +kernel

/-- R165, R179: the ticket that fits is accepted, with 10 s to pass. -/
theorem test_ticket_accepted :
    (after (.ticketRecord 0 exRecord) openGate).term.replies = [.accept] ∧
    (after (.ticketRecord 0 exRecord) openGate).gate.ticket =
      .awaitingPassage exTicket 10000000 := by decide +kernel

/-- R142: a request that meets every condition is granted at once, with the first id 1. -/
theorem test_request_granted :
    let s := { atStop true with bus := { (atStop true).bus with
      rx := [⟨1, 0, .releaseRequest 0 .a .left 5⟩] } }
    (after (.takeFrame 0) s).grant.state = .granted ∧
      (after (.takeFrame 0) s).grant.grantId = 1 ∧
      ((after (.takeFrame 0) s).bus.queue.map (fun f => f.payload.kind)).contains .releaseGrant =
        true := by decide +kernel

/-- R72: the same request from a source that is not FRESH is unrouted. -/
theorem test_request_unrouted :
    let s := { berth0 with bus := { berth0.bus with
      rx := [⟨1, 0, .releaseRequest 0 .a .left 5⟩] } }
    (after (.takeFrame 0) s).grant.state = .none ∧
      (after (.takeFrame 0) s).count .unroutedFrames = 1 := by decide +kernel

/-- R151: an evacuation to the left at 700,000 mm is accepted. -/
theorem test_evacuation : (stranded.takeEvacuation .left).door.left.state = .evacuation ∧
    (stranded.takeEvacuation .left).door.right.state = .locked := by decide +kernel

/-- R104, R105: an order of level 2 puts a CAR at level 2. -/
theorem test_order_taken :
    (after (.takeFrame 0) (taking [⟨5, 0, exOrder.payload⟩])).brake.effective = 2 := by
  decide +kernel

/-- R183: CONFIG_FAULT stands at level 2 and answers a command it does not serve NOT_CONFIGURED. -/
theorem test_config_fault :
    let s := after (.configurationReadComplete 0 { exImage 0 .drive .absent with header := none } 0)
      State.reset
    s.phase = .configured .configFault ∧ s.brake.effective = 2 ∧
      ((after (.counts 0) s).answers.map (·.answer)) = [.refused .notConfigured] := by
  decide +kernel

/-- R120, R121: a dwell that expires in AUTO begins the departure. -/
theorem test_dwell : (after (.dwellTimerExpiry 10) (hauling .atStop true false)).trip.haulage =
    .doorClosing := by decide +kernel

/-- R45: a frame sent leaves the queue. -/
theorem test_sent : (after (.frameSent 10) (attempting berth0 exOrder)).bus.queue.any
    (fun f => f.isOrder) = false := by decide +kernel

/-- R34 and R28: Car B's haul position is L − p. -/
theorem test_car_b_haul :
    (exConfig 2 .car (.car .b) (.car .b)).rawHaul 1798000000 = 2000 := by decide +kernel

end Sys2Proof.Tests
end

section
/-! # The boundaries of the merged limit list (R5, R6)

`insertPosition` is insertion into a strictly increasing list, so folding it over any list of positions
sorts that list and removes its duplicates; `segmentsOf` cuts a list of boundaries at each neighbouring pair. -/

namespace Sys2Proof.Machine

@[simp] theorem mem_insertPosition (p x : Nat) (l : List Nat) :
    p ∈ insertPosition x l ↔ p = x ∨ p ∈ l := by
  induction l with
  | nil => simp [insertPosition]
  | cons y ys ih =>
    simp only [insertPosition]
    split
    · exact List.mem_cons
    · split
      · next hxy => simp [hxy]
      · simp [ih, or_left_comm]

theorem insertPosition_keeps_increasing (x : Nat) {l : List Nat} (hl : l.Pairwise (· < ·)) :
    (insertPosition x l).Pairwise (· < ·) := by
  induction l with
  | nil => exact List.pairwise_singleton _ x
  | cons y ys ih =>
    obtain ⟨hy, hys⟩ := List.pairwise_cons.mp hl
    simp only [insertPosition]
    split
    · next hlt =>
      have below : ∀ z ∈ y :: ys, x < z :=
        List.forall_mem_cons.mpr ⟨hlt, fun z hz => hlt.trans (hy z hz)⟩
      exact List.pairwise_cons.mpr ⟨below, hl⟩
    · split
      · exact hl
      · next hge hne =>
        have above : ∀ z ∈ insertPosition x ys, y < z := by
          intro z hz
          obtain rfl | hz := (mem_insertPosition z x ys).mp hz
          · omega
          · exact hy z hz
        exact List.pairwise_cons.mpr ⟨above, ih hys⟩

theorem foldr_insertPosition_increasing (l : List Nat) :
    (l.foldr insertPosition []).Pairwise (· < ·) := by
  induction l with
  | nil => exact List.Pairwise.nil
  | cons x xs ih => exact insertPosition_keeps_increasing x ih

theorem mem_foldr_insertPosition (p : Nat) (l : List Nat) :
    p ∈ l.foldr insertPosition [] ↔ p ∈ l := by
  induction l with
  | nil => exact Iff.rfl
  | cons x xs ih => simp [ih]

namespace UnitConfig

theorem boundaries_increasing (c : UnitConfig) : c.boundaries.Pairwise (· < ·) :=
  foldr_insertPosition_increasing _

theorem mem_boundaries (c : UnitConfig) (p : Nat) :
    p ∈ c.boundaries ↔ p ∈ c.zoneBoundaries ∨ ∃ q ∈ c.zoneBoundaries, p = c.lineLength - q := by
  rw [boundaries, mem_foldr_insertPosition, List.mem_append, List.mem_map]
  simp only [eq_comm]

/-- R6 for any list of boundaries, not only the sorted one of R5. -/
theorem segmentsOf_getElem? (c : UnitConfig) (l : List Nat) (i a b : Nat)
    (ha : l[i]? = some a) (hb : l[i + 1]? = some b) :
    (c.segmentsOf l)[i]? = some
      { start := a, stop := b
        limit0 := min (c.zoneAt a).limit0 (c.zoneAt (c.lineLength - b)).limit0
        limit1 := min (c.zoneAt a).limit1 (c.zoneAt (c.lineLength - b)).limit1 } := by
  induction l generalizing i with
  | nil => cases ha
  | cons x rest ih =>
    cases rest with
    | nil => cases hb
    | cons y ys =>
      cases i with
      | zero =>
        cases ha
        cases hb
        rfl
      | succ i => exact ih i ha hb

end UnitConfig

/-- Settles O24: the boundaries are a fold of `insertPosition`, and the segments are read off the
list of boundaries by position. -/
theorem boundariesSorted : Obligations.BoundariesSorted := fun c =>
  ⟨c.boundaries_increasing, c.mem_boundaries, c.segmentsOf_getElem? c.boundaries⟩

end Sys2Proof.Machine
end

section
/-! # A slip at the receive buffer (R54, R170)

The lowest class among frames is the greatest class code, so the frame a slip drops is found by comparing
codes; what the slip does to the buffer, to the counts and to the gate block are three separate facts of
`State.store`. -/

namespace Sys2Proof.Machine

open Sys2Proof

/-! ## The frame that is dropped -/

theorem lowestClass_le_iff (l : List Frame) (n : Nat) :
    lowestClass l ≤ n ↔ ∀ x ∈ l, x.payload.cls.code ≤ n := by
  have fold (m : Nat) : l.foldl (fun m f => max m f.payload.cls.code) m ≤ n ↔
      m ≤ n ∧ ∀ x ∈ l, x.payload.cls.code ≤ n := by
    induction l generalizing m with
    | nil => simp
    | cons x xs ih => simp [ih, and_assoc]
  exact (fold 0).trans (and_iff_right n.zero_le)

theorem lowestClass_eq_code {l : List Frame} {g : Frame} (hg : g ∈ l)
    (h : ∀ x ∈ l, x.payload.cls.code ≤ g.payload.cls.code) :
    lowestClass l = g.payload.cls.code :=
  le_antisymm ((lowestClass_le_iff l _).mpr h) ((lowestClass_le_iff l _).mp le_rfl g hg)

/-- R54, the arriving frame alone in the lowest class. -/
theorem slipped_eq_held {held : List Frame} {f : Frame}
    (h : ∀ g ∈ held, g.payload.cls.code < f.payload.cls.code) : slipped held f = held := by
  have hlow : lowestClass (f :: held) = f.payload.cls.code :=
    lowestClass_eq_code List.mem_cons_self
      (List.forall_mem_cons.mpr ⟨le_rfl, fun g hg => (h g hg).le⟩)
  have hnone : ¬ held.any (fun g => g.payload.cls.code == f.payload.cls.code) = true := by
    simpa using fun g hg => (h g hg).ne
  simp only [slipped, hlow, if_neg hnone]

/-- R54, `g` the oldest held frame of the lowest class. -/
theorem slipped_drops_oldest {before after : List Frame} {f g : Frame}
    (hbefore : ∀ x ∈ before, x.payload.cls.code < g.payload.cls.code)
    (hafter : ∀ x ∈ after, x.payload.cls.code ≤ g.payload.cls.code)
    (hf : f.payload.cls.code ≤ g.payload.cls.code) :
    slipped (before ++ g :: after) f = before ++ after ++ [f] := by
  have hlow : lowestClass (f :: (before ++ g :: after)) = g.payload.cls.code := by
    refine lowestClass_eq_code (by simp) (List.forall_mem_cons.mpr ⟨hf, ?_⟩)
    exact List.forall_mem_append.mpr
      ⟨fun x hx => (hbefore x hx).le, List.forall_mem_cons.mpr ⟨le_rfl, hafter⟩⟩
  have hsome : (before ++ g :: after).any
      (fun x => x.payload.cls.code == g.payload.cls.code) = true := by simp
  have herase : (before ++ g :: after).eraseP
      (fun x => x.payload.cls.code == g.payload.cls.code) = before ++ after := by
    rw [List.eraseP_append_right _ (fun x hx => by simpa using (hbefore x hx).ne),
      List.eraseP_cons_of_pos (by simp)]
  simp only [slipped, hlow, if_pos hsome, herase]

/-! ## What a gate is told -/

/-- A notice that a frame may have been missed touches the gate block alone (R170). -/
theorem gateDoubt_frame (s : State) : s.gateDoubt = { s with gate := s.gateDoubt.gate } := by
  unfold State.gateDoubt
  dsimp only
  split <;> rfl

@[simp] theorem gateDoubt_bus (s : State) : s.gateDoubt.bus = s.bus := by rw [gateDoubt_frame]

@[simp] theorem gateDoubt_counts (s : State) : s.gateDoubt.counts = s.counts := by
  rw [gateDoubt_frame]

/-- Both cars are in doubt, whatever the cycle's state (R170). -/
theorem gateDoubt_cars (s : State) :
    s.gateDoubt.gate.carA.doubt = true ∧ s.gateDoubt.gate.carB.doubt = true := by
  unfold State.gateDoubt
  dsimp only
  split <;> exact ⟨rfl, rfl⟩

/-- Every other gate of a cycle held is uncertain (R170). -/
theorem gateDoubt_others (s : State) (h : s.gate.cycle.state ≠ .none) :
    ∀ o ∈ s.gateDoubt.gate.cycle.others, o.certain = false := by
  unfold State.gateDoubt
  dsimp only
  split
  next hnone => exact absurd (eq_of_beq hnone) h
  next =>
    intro o ho
    obtain ⟨_, _, rfl⟩ := List.mem_map.mp ho
    rfl

/-! ## A frame offered to a full buffer -/

/-- The slip itself, before a GATE is told of it (R54). -/
def State.slip (f : Frame) (s : State) : State :=
  (s.setBus (fun b => { b with rx := slipped b.rx f })).bump .slips

theorem store_of_full (f : Frame) (s : State) (h : s.bus.rx.length = rxCapacity) :
    s.store f = if s.role = .gate then (s.slip f).gateDoubt else s.slip f := by
  simp [State.store, State.slip, h]

theorem store_full_rx (f : Frame) (s : State) (h : s.bus.rx.length = rxCapacity) :
    (s.store f).bus.rx = slipped s.bus.rx f := by
  rw [store_of_full f s h]
  split <;> simp [State.slip]

theorem store_full_counts (f : Frame) (s : State) (h : s.bus.rx.length = rxCapacity) :
    (s.store f).counts = (s.bump .slips).counts := by
  rw [store_of_full f s h]
  split <;> simp [State.slip]

theorem store_full_gate (f : Frame) (s : State) (h : s.bus.rx.length = rxCapacity)
    (hrole : s.role = .gate) :
    (s.store f).gate.carA.doubt = true ∧ (s.store f).gate.carB.doubt = true ∧
      (s.gate.cycle.state ≠ .none → ∀ o ∈ (s.store f).gate.cycle.others, o.certain = false) := by
  rw [store_of_full f s h, if_pos hrole]
  obtain ⟨hcarA, hcarB⟩ := gateDoubt_cars (s.slip f)
  exact ⟨hcarA, hcarB, gateDoubt_others (s.slip f)⟩

/-! ## The command -/

/-- A correct frame of another unit is offered to the receive buffer (R53, R57). -/
theorem frameComplete_stores (dt : Nat) (raw : RawFrame) (f : Frame) (s : State)
    (hrecv : s.receives = true) (hjudge : raw.judge = .correct f)
    (hsource : f.source ≠ s.conf.address) :
    ∃ t, exec (.frameComplete dt raw) s = .next t ∧
      SettledFrom (((s.advance dt).setBus ({ · with ackDriven := s.operating })).store f) t := by
  have hadvance : (s.advance dt).receives = true := hrecv
  have hcomplete : (s.advance dt).complete raw =
      ((s.advance dt).setBus ({ · with ackDriven := s.operating })).store f := by
    simp [State.complete, hjudge, hsource]
  refine ⟨_, rfl, .of_eq ?_⟩
  rw [if_pos hadvance, hcomplete]

/-- Settles O34: the command offers the frame to the full buffer, and what ends the step leaves the receive
buffer, the gate block and the count of slips as `State.store` made them. -/
theorem slipDropsLowest : Obligations.SlipDropsLowest := by
  intro dt raw f s hrecv hfull hjudge hsource
  obtain ⟨t, hexec, hsettled⟩ := frameComplete_stores dt raw f s hrecv hjudge hsource
  have hfull' : ((s.advance dt).setBus ({ · with ackDriven := s.operating })).bus.rx.length =
      rxCapacity := hfull
  have hrx : t.bus.rx = slipped s.bus.rx f := hsettled.rx_eq.trans (store_full_rx f _ hfull')
  refine ⟨t, hexec, ?slips, ?gate, ?alone, ?oldest⟩
  case slips =>
    obtain ⟨-, -, -, hcounts, -⟩ := hsettled
    exact (hcounts .slips (by decide)).trans
      (congrArg (·.getD Count.slips.ctorIdx 0) (store_full_counts f _ hfull'))
  case gate =>
    intro hrole
    rw [hsettled.gate_eq]
    exact store_full_gate f _ hfull' hrole
  case alone =>
    intro halone
    rw [hrx, slipped_eq_held halone]
  case oldest =>
    intro before after g hheld hbefore hafter hf
    rw [hrx, hheld, slipped_drops_oldest hbefore hafter hf]

end Sys2Proof.Machine
end

section
/-! # The exact integer square root and the braking curve (00_scope.md section 6.3, R82)

The search keeps a window: the root is at least the part found so far, and below that part plus `2 ^ n` while
bits `n - 1` down to 0 are open. With no bit open, the window holds one number, the root of Mathlib's
`Nat.sqrt`.
-/

namespace Sys2Proof.Machine

open Sys2Proof

/-- The search ends at the root of `x` when the root lies in the window it starts with. -/
theorem isqrtBits_eq_sqrt {x : Nat} (n root : Nat) (hlow : root * root ≤ x)
    (hhigh : x < (root + 2 ^ n) * (root + 2 ^ n)) : isqrtBits x n root = x.sqrt := by
  induction n generalizing root with
  | zero => exact Nat.eq_sqrt.mpr ⟨hlow, by simpa [isqrtBits] using hhigh⟩
  | succ n ih =>
    unfold isqrtBits
    split
    next htaken =>
      have hwindow : root + 2 ^ n + 2 ^ n = root + 2 ^ (n + 1) := by rw [pow_succ]; omega
      exact ih (root + 2 ^ n) htaken (by rwa [hwindow])
    next hleft => exact ih root hlow (Nat.lt_of_not_le hleft)

/-- The search of `isqrt` opens enough bits: `x` has at most twice as many. -/
theorem lt_sq_two_pow_half_log2 (x : Nat) :
    x < 2 ^ (x.log2 / 2 + 1) * 2 ^ (x.log2 / 2 + 1) :=
  calc x < 2 ^ (x.log2 + 1) := Nat.lt_log2_self
    _ ≤ 2 ^ ((x.log2 / 2 + 1) + (x.log2 / 2 + 1)) := Nat.pow_le_pow_right two_pos (by omega)
    _ = 2 ^ (x.log2 / 2 + 1) * 2 ^ (x.log2 / 2 + 1) := pow_add ..

theorem isqrt_eq_sqrt (x : Nat) : isqrt x = x.sqrt :=
  isqrtBits_eq_sqrt _ 0 (Nat.zero_le x) (by simpa using lt_sq_two_pow_half_log2 x)

theorem le_curve_iff (v a d w : Nat) : w ≤ curve v a d ↔ w * w ≤ v * v + 2 * a * d := by
  rw [curve, isqrt_eq_sqrt, Nat.le_sqrt]

/-- Settles O23: the search finds the root of `Nat.sqrt`, whose bounds are the two the statement asks for. -/
theorem squareRootExact : Obligations.SquareRootExact := by
  refine ⟨fun x => ?_, le_curve_iff⟩
  rw [isqrt_eq_sqrt]
  exact ⟨Nat.sqrt_le x, Nat.lt_succ_sqrt x⟩

end Sys2Proof.Machine
end

section
/-! # The refusals of a ticket on its own fields (R162)

The model decides with Booleans. Each test is read once as the condition of R162 it stands for; in an open
cycle the refusal is then the first of the three conditions that is met.
-/

namespace Sys2Proof.Machine

open Sys2Proof

/-- Decision 2: a ticket for any direction matches every cycle, so only opposite directions refuse one. -/
theorem directionMatches_eq_false_iff (t : TicketDirection) (d : Direction) :
    directionMatches t d = false ↔ (t = .up ∧ d = .down) ∨ (t = .down ∧ d = .up) := by
  cases t <;> cases d <;> simp [directionMatches]

/-- Decision 3: the list is read by the ticket alone, whatever the source of its entry. -/
theorem passback_test_iff (s : State) (t : Ticket) :
    (!t.exempt && s.gate.passback.any (fun e => e.ticket == t.id)) = true ↔
      t.exempt = false ∧ ∃ e ∈ s.gate.passback, e.ticket = t.id := by
  simp only [Bool.and_eq_true, Bool.not_eq_true', List.any_eq_true, beq_iff_eq]

section

variable {s : State} {t : Ticket}

theorem ownRefusal_of_suspended (h : s.gate.cycle.state = .suspended) :
    s.ownRefusal t = some .suspended := by
  simp only [State.ownRefusal, h]

theorem ownRefusal_of_none_or_closed
    (h : s.gate.cycle.state = .none ∨ s.gate.cycle.state = .closed) :
    s.ownRefusal t = some .closed := by
  rcases h with h | h <;> simp only [State.ownRefusal, h]

/-- Decisions 2 to 4 in their order, the only ones an open cycle leaves. -/
theorem ownRefusal_of_open (h : s.gate.cycle.state = .open_) :
    s.ownRefusal t =
      if directionMatches t.direction s.gate.cycle.direction = false then some .direction
      else if t.exempt = false ∧ ∃ e ∈ s.gate.passback, e.ticket = t.id then some .passback
      else if s.allowance < t.places then some .places
      else none := by
  simp only [State.ownRefusal, h, passback_test_iff, Bool.not_eq_true']

end

/-- Settles O50: the state of the cycle decides first, and in an open cycle each later decision is reached
when the ones before it refuse nothing. -/
theorem ticketRefusals : Obligations.TicketRefusals := by
  intro s t
  refine ⟨ownRefusal_of_suspended, ownRefusal_of_none_or_closed, ?direction, ?passback, ?places, ?passes⟩
  all_goals
    intro hopen
    rw [ownRefusal_of_open hopen, ← directionMatches_eq_false_iff]
  case direction =>
    intro hopposed
    rw [if_pos hopposed]
  case passback =>
    intro hmatch hrepeated
    rw [if_neg hmatch, if_pos hrepeated]
  case places =>
    intro hmatch hfresh hlarge
    rw [if_neg hmatch, if_neg hfresh, if_pos hlarge]
  case passes =>
    intro hmatch hfresh hfits
    rw [if_neg hmatch, if_neg hfresh, if_neg (Nat.not_lt.mpr hfits)]

end Sys2Proof.Machine
end


section
/-! # What each operation can touch

The state is cut into parts, finer than the blocks of Table 0-2 where a law reads only some fields of a
block. `Touches X s t` says that `t` agrees with `s` in every part outside `X`. One lemma for each operation
names the parts it may change; what it leaves unchanged then follows without unfolding it. -/

namespace Sys2Proof.Machine

open Sys2Proof

/-- The parts of the state. -/
inductive Part where
  | pending | clock | phase | resetPin | failure | cfg | listenDue | sampleDue | answers | counts
  | profile | setInForce | notice
  | channels | reference | speed | standstill | position | marks | weight
  | queue | periods | attempt | rx | conflictRun | receiver | abortPlaced
  | peers
  | authority | supervision
  | demands | judged | rows | effective | held | issue | proof | records | trackAsk
  | requeue | trip
  | sides | door
  | grant
  | places | cycle | ticket | cars | passback | red
  | wires | debounced | debounceDue | outputs | hold | analogIn | setCode | reader | replies
  deriving DecidableEq

/-- What a part holds. A part that is the rest of a block is the block with the named fields blanked. -/
def Part.Held : Part → Type
  | .pending => List Instr
  | .clock => Nat
  | .phase => Phase
  | .resetPin => Bool
  | .failure => Option CheckFailure
  | .cfg => Option UnitConfig
  | .listenDue | .sampleDue => Option Nat
  | .answers => List QueuedAnswer
  | .counts => List Nat
  | .profile => List Segment × Digest
  | .setInForce => Nat × Option TripRef
  | .notice => Option TripNotice
  | .channels => Channel × Channel
  | .reference => RefStatus × ChannelId × Option Nat × Option Nat
  | .speed => Int × Option Nat × Option Nat
  | .standstill => Bool
  | .position => Int × Bool × Bool × Nat × Nat × Nat × Bool × Bool
  | .marks => Option Nat × Bool × Nat × Option Bool
  | .weight => List Nat × Nat × Bool
  | .queue => List TxFrame × List Nat
  | .periods => List (Option Nat) × List (Option Payload)
  | .attempt => Option TxFrame
  | .rx => List Frame
  | .conflictRun => Nat
  | .receiver => Bool × Bool
  | .abortPlaced => Bool
  | .peers => List PeerEntry
  | .authority => Option TripAuthority
  | .supervision => Supervision
  | .demands => List DemandEntry
  | .judged => Nat × List (Cause × Nat)
  | .rows => List LevelRow
  | .effective => Nat
  | .held => Option Nat
  | .issue => Nat
  | .proof => Option BrakeProof
  | .records => List BrakeRecord
  | .trackAsk => Bool
  | .requeue => Bool
  | .trip => TripController
  | .sides => DoorSideContext × DoorSideContext × Option Nat × Option Nat
  | .door => DoorBlock
  | .grant => GrantTable
  | .places => Nat × List Unannounced
  | .cycle => BoardingCycle
  | .ticket => TicketState
  | .cars => CarFlags × CarFlags
  | .passback => List PassbackEntry
  | .red => Option Nat
  | .wires | .debounced => List Bool
  | .debounceDue => List (Option Nat)
  | .outputs => List Bool × List Bool × Int
  | .hold => HoldTimer
  | .analogIn | .setCode => Int
  | .reader => List Byte × Nat
  | .replies => List Reply

/-- The content of a part in a state. -/
def Part.of : (p : Part) → State → p.Held
  | .pending, s => s.pending
  | .clock, s => s.clock
  | .phase, s => s.phase
  | .resetPin, s => s.resetPin
  | .failure, s => s.failure
  | .cfg, s => s.cfg
  | .listenDue, s => s.listenDue
  | .sampleDue, s => s.sampleDue
  | .answers, s => s.answers
  | .counts, s => s.counts
  | .profile, s => (s.prof.merged, s.prof.digest)
  | .setInForce, s => (s.prof.setInForce, s.prof.carTrip)
  | .notice, s => s.prof.notice
  | .channels, s => (s.meas.e0, s.meas.e1)
  | .reference, s => (s.meas.status, s.meas.reference, s.meas.disagreeSince, s.meas.agreeSince)
  | .speed, s => (s.meas.v, s.meas.slowSince, s.meas.lastSample)
  | .standstill, s => s.meas.standstill
  | .position, s => (s.meas.acc, s.meas.known, s.meas.synchronised, s.meas.h, s.meas.u,
      s.meas.residue, s.meas.outside, s.meas.degraded)
  | .marks, s => (s.meas.expected, s.meas.expectedUp, s.meas.misses, s.meas.lastSign)
  | .weight, s => (s.meas.filter, s.meas.published, s.meas.established)
  | .queue, s => (s.bus.queue, s.bus.seqNext)
  | .periods, s => (s.bus.periodDue, s.bus.lastContent)
  | .attempt, s => s.bus.attempt
  | .rx, s => s.bus.rx
  | .conflictRun, s => s.bus.conflictRun
  | .receiver, s => (s.bus.footing, s.bus.ackDriven)
  | .abortPlaced, s => s.bus.abortPlaced
  | .peers, s => s.peers
  | .authority, s => s.sup.authority
  | .supervision, s => { s.sup with authority := none }
  | .demands, s => s.brake.demands
  | .judged, s => (s.brake.judged, s.brake.raised)
  | .rows, s => s.brake.rows
  | .effective, s => s.brake.effective
  | .held, s => s.brake.held
  | .issue, s => s.brake.issue
  | .proof, s => s.brake.proof
  | .records, s => s.brake.records
  | .trackAsk, s => s.brake.trackAsk
  | .requeue, s => s.trip.requeue
  | .trip, s => { s.trip with requeue := false }
  | .sides, s => (s.door.left, s.door.right, s.door.stopBerth, s.door.grantId)
  | .door, s => { s.door with left := default, right := default, stopBerth := none, grantId := none }
  | .grant, s => s.grant
  | .places, s => (s.gate.cycle.pending, s.gate.cycle.unannounced)
  | .cycle, s => { s.gate.cycle with pending := 0, unannounced := [] }
  | .ticket, s => s.gate.ticket
  | .cars, s => (s.gate.carA, s.gate.carB)
  | .passback, s => s.gate.passback
  | .red, s => s.gate.redDue
  | .wires, s => s.term.rawHigh
  | .debounced, s => s.term.debounced
  | .debounceDue, s => s.term.debounceDue
  | .outputs, s => (s.term.energised, s.term.outOn, s.term.analogOut)
  | .hold, s => s.term.hold
  | .analogIn, s => s.term.analogIn
  | .setCode, s => s.term.setCode
  | .reader, s => (s.term.assembling, s.term.lastChar)
  | .replies, s => s.term.replies

/-- `t` agrees with `s` in every part outside `X`. -/
def Touches (X : List Part) (s t : State) : Prop := ∀ p, p ∉ X → p.of t = p.of s

namespace Touches

variable {X Y : List Part} {s t u : State}

theorem refl (X : List Part) (s : State) : Touches X s s := fun _ _ => rfl

theorem mono (h : Touches X s t) (hXY : X ⊆ Y) : Touches Y s t := fun p hp =>
  h p (fun hX => hp (hXY hX))

theorem trans (h : Touches X s t) (g : Touches X t u) : Touches X s u := fun p hp =>
  (g p hp).trans (h p hp)

theorem comp (h : Touches X s t) (g : Touches Y t u) : Touches (X ++ Y) s u :=
  (h.mono (List.subset_append_left X Y)).trans (g.mono (List.subset_append_right X Y))

theorem ite {c : Prop} [Decidable c] (h : c → Touches X s t) (g : ¬c → Touches X s u) :
    Touches X s (if c then t else u) := by
  split
  · exact h ‹_›
  · exact g ‹_›

theorem foldl {α : Type} {f : State → α → State} (hf : ∀ s a, Touches X s (f s a)) (l : List α)
    (s : State) : Touches X s (l.foldl f s) := by
  induction l generalizing s with
  | nil => exact refl X s
  | cons a l ih => exact (hf s a).trans (ih (f s a))

/-! What agreement in a part says of the fields that are read most. -/

theorem phase_eq (h : Touches X s t) (hX : Part.phase ∉ X := by decide) : t.phase = s.phase :=
  h .phase hX

theorem cfg_eq (h : Touches X s t) (hX : Part.cfg ∉ X := by decide) : t.cfg = s.cfg := h .cfg hX

theorem clock_eq (h : Touches X s t) (hX : Part.clock ∉ X := by decide) : t.clock = s.clock :=
  h .clock hX

theorem running_eq (h : Touches X s t) (hX : Part.phase ∉ X := by decide) :
    t.running = s.running := by unfold State.running; rw [h.phase_eq hX]

theorem conf_eq (h : Touches X s t) (hX : Part.cfg ∉ X := by decide) : t.conf = s.conf := by
  unfold State.conf; rw [h.cfg_eq hX]

theorem role_eq (h : Touches X s t) (hX : Part.cfg ∉ X := by decide) : t.role = s.role := by
  unfold State.role; rw [h.conf_eq hX]

theorem k_eq (h : Touches X s t) (hX : Part.cfg ∉ X := by decide) (n : ConstName) :
    t.k n = s.k n := by unfold State.k; rw [h.conf_eq hX]

theorem peers_eq (h : Touches X s t) (hX : Part.peers ∉ X := by decide) : t.peers = s.peers :=
  h .peers hX

theorem rx_eq (h : Touches X s t) (hX : Part.rx ∉ X := by decide) : t.bus.rx = s.bus.rx := h .rx hX

theorem standstill_eq (h : Touches X s t) (hX : Part.standstill ∉ X := by decide) :
    t.meas.standstill = s.meas.standstill := h .standstill hX

theorem effective_eq (h : Touches X s t) (hX : Part.effective ∉ X := by decide) :
    t.brake.effective = s.brake.effective := h .effective hX

theorem counts_eq (h : Touches X s t) (hX : Part.counts ∉ X := by decide) : t.counts = s.counts :=
  h .counts hX

theorem grant_eq (h : Touches X s t) (hX : Part.grant ∉ X := by decide) : t.grant = s.grant :=
  h .grant hX

theorem ticket_eq (h : Touches X s t) (hX : Part.ticket ∉ X := by decide) :
    t.gate.ticket = s.gate.ticket := h .ticket hX

theorem left_eq (h : Touches X s t) (hX : Part.sides ∉ X := by decide) : t.door.left = s.door.left :=
  congrArg (fun x : DoorSideContext × DoorSideContext × Option Nat × Option Nat => x.1) (h .sides hX)

theorem right_eq (h : Touches X s t) (hX : Part.sides ∉ X := by decide) :
    t.door.right = s.door.right :=
  congrArg (fun x : DoorSideContext × DoorSideContext × Option Nat × Option Nat => x.2.1) (h .sides hX)

theorem stopBerth_eq (h : Touches X s t) (hX : Part.sides ∉ X := by decide) :
    t.door.stopBerth = s.door.stopBerth :=
  congrArg (fun x : DoorSideContext × DoorSideContext × Option Nat × Option Nat => x.2.2.1)
    (h .sides hX)

theorem grantId_eq (h : Touches X s t) (hX : Part.sides ∉ X := by decide) :
    t.door.grantId = s.door.grantId :=
  congrArg (fun x : DoorSideContext × DoorSideContext × Option Nat × Option Nat => x.2.2.2)
    (h .sides hX)

theorem pending_eq (h : Touches X s t) (hX : Part.places ∉ X := by decide) :
    t.gate.cycle.pending = s.gate.cycle.pending :=
  congrArg (fun x : Nat × List Unannounced => x.1) (h .places hX)

theorem unannounced_eq (h : Touches X s t) (hX : Part.places ∉ X := by decide) :
    t.gate.cycle.unannounced = s.gate.cycle.unannounced :=
  congrArg (fun x : Nat × List Unannounced => x.2) (h .places hX)

theorem queue_eq (h : Touches X s t) (hX : Part.queue ∉ X := by decide) :
    t.bus.queue = s.bus.queue :=
  congrArg (fun x : List TxFrame × List Nat => x.1) (h .queue hX)

end Touches

end Sys2Proof.Machine
end


section
/-! # What the shared operations and the blocks can touch (Chapters 3 and 6 to 9) -/

namespace Sys2Proof.Machine

open Sys2Proof

/-! ## Updates of one block -/

theorem advance_touches (dt : Nat) (s : State) : Touches [.clock] s (s.advance dt) := fun p hp => by
  cases p <;> first | rfl | exact absurd (by decide) hp

theorem bump_touches (c : Count) (s : State) : Touches [.counts] s (s.bump c) := fun p hp => by
  cases p <;> first | rfl | exact absurd (by decide) hp

theorem setTrip_touches (f : TripController → TripController) (s : State) :
    Touches [.trip, .requeue] s (s.setTrip f) := fun p hp => by
  cases p <;> first | rfl | exact absurd (by decide) hp

theorem setDoor_touches (f : DoorBlock → DoorBlock) (s : State) :
    Touches [.sides, .door] s (s.setDoor f) := fun p hp => by
  cases p <;> first | rfl | exact absurd (by decide) hp

theorem setGrant_touches (f : GrantTable → GrantTable) (s : State) :
    Touches [.grant] s (s.setGrant f) := fun p hp => by
  cases p <;> first | rfl | exact absurd (by decide) hp

theorem setCycle_touches (f : BoardingCycle → BoardingCycle) (s : State) :
    Touches [.cycle, .places] s (s.setCycle f) := fun p hp => by
  cases p <;> first | rfl | exact absurd (by decide) hp

theorem setTicket_touches (x : TicketState) (s : State) :
    Touches [.ticket] s (s.setTicket x) := fun p hp => by
  cases p <;> first | rfl | exact absurd (by decide) hp

theorem setEntry_touches (a : Nat) (f : PeerEntry → PeerEntry) (s : State) :
    Touches [.peers] s (s.setEntry a f) := fun p hp => by
  cases p <;> first | rfl | exact absurd (by decide) hp

/-! ## The transmit queue -/

theorem enqueue_touches (p : Payload) (s : State) :
    Touches [.queue, .requeue, .counts] s (s.enqueue p) := fun q hq => by
  rw [enqueue_frame]
  cases q <;> first | rfl | exact absurd (by decide) hq

theorem tellNotSent_touches (p : Payload) (s : State) :
    Touches [.requeue, .counts] s (s.tellNotSent p) := fun q hq => by
  rw [tellNotSent_frame]
  cases q <;> first | rfl | exact absurd (by decide) hq

theorem StateQueued.touches {s t : State} (h : StateQueued s t) :
    Touches [.queue, .periods, .counts] s t := fun q hq => by
  rw [h.1]
  cases q <;> first | rfl | exact absurd (by decide) hq

theorem queueState_touches (k : StateKind) (s : State) :
    Touches [.queue, .periods, .counts] s (s.queueState k) := (queueState_stateQueued s k).touches

theorem queueAllStates_touches (s : State) :
    Touches [.queue, .periods, .counts] s s.queueAllStates := (queueAllStates_stateQueued s).touches

theorem SettledFrom.touches {x t : State} (h : SettledFrom x t) :
    Touches [.queue, .periods, .demands, .outputs, .counts] x t := fun q hq => by
  rw [h.1]
  cases q <;> first | rfl | exact absurd (by decide) hq

theorem settle_touches (s : State) :
    Touches [.queue, .periods, .demands, .outputs, .counts] s s.settle :=
  (settle_settledFrom s).touches

/-! ## The door block -/

/-- What the door block changes of its own, and by queuing frames. -/
def doorParts : List Part := [.sides, .door, .queue, .requeue, .counts]

theorem mapSides_touches (f : Side → DoorSideContext → DoorSideContext) (s : State) :
    Touches [.sides] s (s.mapSides f) := fun p hp => by
  cases p <;> first | rfl | exact absurd (by decide) hp

theorem carWithdraw_touches (b g : Nat) (r : WithdrawReason) (s : State) :
    Touches [.door, .queue, .requeue, .counts] s (s.carWithdraw b g r) :=
  have noted : Touches [.door] s (s.setDoor (fun d => { d with
      recentWithdraw := (g, s.clock) :: d.recentWithdraw.filter (fun e => !(e.1 == g)) })) :=
    fun p hp => by cases p <;> first | rfl | exact absurd (by decide) hp
  (noted.comp (enqueue_touches _ _)).mono (by decide)

theorem withdrawLocked_touches (s : State) : Touches doorParts s s.withdrawLocked := by
  unfold State.withdrawLocked
  refine .ite (fun _ => .refl _ _) (fun _ => ?_)
  refine .trans ?_ (((mapSides_touches _ _).comp (setDoor_touches _ _)).mono (Y := doorParts)
    (by decide))
  split
  · exact (carWithdraw_touches _ _ _ s).mono (by decide)
  · exact .refl _ _

theorem lockClosing_touches (s : State) : Touches doorParts s s.lockClosing :=
  ((mapSides_touches _ s).mono (by decide)).trans (withdrawLocked_touches _)

theorem startRequest_touches (b : Berth) (s : State) : Touches doorParts s (s.startRequest b) := by
  unfold State.startRequest
  exact (((mapSides_touches _ s).comp (setDoor_touches _ _)).comp (enqueue_touches _ _)).mono
    (by decide)

theorem abandonRequest_touches (s : State) : Touches doorParts s s.abandonRequest :=
  ((mapSides_touches _ s).comp (setDoor_touches _ _)).mono (by decide)

theorem judgeRequest_touches (s : State) : Touches doorParts s s.judgeRequest := by
  unfold State.judgeRequest
  refine .ite (fun _ => abandonRequest_touches s) (fun _ => .ite (fun _ => ?_) (fun _ => .refl _ _))
  split
  · exact startRequest_touches _ s
  · exact .refl _ _

theorem repeatExpiry_touches (s : State) : Touches doorParts s s.repeatExpiry := by
  unfold State.repeatExpiry
  refine .ite (fun _ => (setDoor_touches _ s).mono (by decide))
    (fun _ => .ite (fun _ => ?_) (fun _ => ?_))
  · dsimp only
    split
    · exact ((setDoor_touches _ s).comp (enqueue_touches _ _)).mono (by decide)
    · exact (setDoor_touches _ s).mono (by decide)
  · exact (((mapSides_touches _ s).comp (setDoor_touches _ _)).comp (bump_touches _ _)).mono
      (by decide)

theorem takeRefusal_touches (b n : Nat) (r : RefusalReason) (s : State) :
    Touches doorParts s (s.takeRefusal b n r) :=
  .ite (fun _ => ((setDoor_touches _ s).comp (bump_touches _ _)).mono (by decide))
    (fun _ => (bump_touches _ s).mono (by decide))

theorem judgeConfirm_touches (s : State) : Touches doorParts s s.judgeConfirm :=
  .ite (fun _ => ((mapSides_touches _ s).comp (setDoor_touches _ _)).mono (by decide))
    (fun _ => .refl _ _)

theorem dropRelease_touches (s : State) : Touches doorParts s s.dropRelease :=
  ((mapSides_touches _ s).comp (setDoor_touches _ _)).mono (by decide)

theorem judgeHold_touches (s : State) : Touches doorParts s s.judgeHold := by
  unfold State.judgeHold
  refine .ite (fun _ => ?_) (fun _ => .refl _ _)
  split
  · split
    · exact (dropRelease_touches s).trans ((carWithdraw_touches _ _ _ _).mono (by decide))
    · exact dropRelease_touches s
  · exact .refl _ _

theorem judgeStanding_touches (s : State) : Touches doorParts s s.judgeStanding := by
  unfold State.judgeStanding
  split
  · split
    · exact .ite (fun _ => (carWithdraw_touches _ _ _ s).mono (by decide)) (fun _ => .refl _ _)
    · exact .refl _ _
  · exact .refl _ _

theorem takeGrant_touches (b : Nat) (side : DoorSide) (n g : Nat) (s : State) :
    Touches doorParts s (s.takeGrant b side n g) :=
  .ite (fun _ => .refl _ _) (fun _ => .ite
    (fun _ => (((mapSides_touches _ s).comp (setDoor_touches _ _)).comp
      (judgeConfirm_touches _)).mono (by decide))
    (fun _ => ((carWithdraw_touches _ _ _ s).comp (bump_touches _ _)).mono (by decide)))

theorem takeBerthWithdrawal_touches (b g : Nat) (s : State) :
    Touches doorParts s (s.takeBerthWithdrawal b g) :=
  .ite (fun _ => (dropRelease_touches s).trans (lockClosing_touches _)) (fun _ => .refl _ _)

theorem departureNotice_touches (s : State) : Touches doorParts s s.departureNotice :=
  (((mapSides_touches _ s).comp (setDoor_touches _ _)).mono (by decide)).trans
    (lockClosing_touches _)

theorem doorDriveMotion_touches (st : Haulage) (s : State) :
    Touches doorParts s (s.doorDriveMotion st) :=
  .ite (fun _ => ((setDoor_touches _ s).mono (by decide)).trans (departureNotice_touches _))
    (fun _ => (setDoor_touches _ s).mono (by decide))

theorem doorButton_touches (s : State) : Touches doorParts s s.doorButton :=
  .ite (fun _ => .refl _ _) (fun _ => (setDoor_touches _ s).mono (by decide))

theorem takeEvacuation_touches (side : DoorSide) (s : State) :
    Touches doorParts s (s.takeEvacuation side) := by
  unfold State.takeEvacuation
  split
  · exact ((mapSides_touches _ s).comp (enqueue_touches _ _)).mono (by decide)
  · exact ((enqueue_touches _ s).comp (bump_touches _ _)).mono (by decide)

theorem endEvacuation_touches (s : State) : Touches doorParts s s.endEvacuation :=
  .ite (fun _ => ((mapSides_touches _ s).mono (by decide)).trans (lockClosing_touches _))
    (fun _ => .refl _ _)

theorem judgeRelease_touches (s : State) : Touches doorParts s s.judgeRelease :=
  (judgeConfirm_touches s).trans (judgeHold_touches _)

theorem doorDriveNotice_touches (s : State) : Touches doorParts s s.doorDriveNotice :=
  (judgeRequest_touches s).trans (lockClosing_touches _)

theorem doorBerthNotice_touches (s : State) : Touches doorParts s s.doorBerthNotice :=
  ((judgeRelease_touches s).trans (judgeStanding_touches _)).trans (lockClosing_touches _)

theorem latch_touches (c : Cause) (level : Nat) (s : State) :
    Touches [.demands, .judged] s (s.latch c level) := fun p hp => by
  cases p <;> first | rfl | exact absurd (by decide) hp

theorem judgeOpenMoving_touches (s : State) :
    Touches [.door, .demands, .judged] s s.judgeOpenMoving := by
  have noted : Touches [.door] s (s.setDoor ({ · with openMoving :=
      !s.meas.standstill && !(s.doorLocked .left && s.doorLocked .right) })) :=
    fun p hp => by cases p <;> first | rfl | exact absurd (by decide) hp
  exact .ite (fun _ => noted.comp (latch_touches _ _ _)) (fun _ => noted.mono (by decide))

theorem doorSample_touches (s : State) :
    Touches (doorParts ++ [.demands, .judged]) s s.doorSample := by
  have moving : Touches (doorParts ++ [.demands, .judged]) s s.judgeOpenMoving :=
    (judgeOpenMoving_touches s).mono (by decide)
  refine moving.trans (.trans (t := if s.judgeOpenMoving.meas.standstill then s.judgeOpenMoving
    else s.judgeOpenMoving.endEvacuation) ?_ ?_)
  · exact .ite (fun _ => .refl _ _) (fun _ => (endEvacuation_touches _).mono (by decide))
  · exact ((((judgeRelease_touches _).trans (judgeRequest_touches _)).trans
      (judgeStanding_touches _)).trans (lockClosing_touches _)).mono (by decide)

theorem judgeOpening_touches (k : Nat) (d : Direction) (s : State) :
    Touches [.door] s (s.judgeOpening k d) := by
  have opened (b : Nat) (dir : Direction) : Touches [.door] s (s.newOpening b dir) := fun p hp => by
    cases p <;> first | rfl | exact absurd (by decide) hp
  have closed : Touches [.door] s (s.setDoor ({ · with opening := none })) := fun p hp => by
    cases p <;> first | rfl | exact absurd (by decide) hp
  unfold State.judgeOpening
  split
  · exact .refl _ _
  · refine .ite (fun _ => closed) (fun _ => ?_)
    split
    · exact .ite (fun _ => .refl _ _) (fun _ => opened _ _)
    · exact opened _ _

/-! ## The gate block -/

theorem setCarFlags_touches (c : CarId) (f : CarFlags → CarFlags) (s : State) :
    Touches [.cars] s (s.setCarFlags c f) := fun p hp => by
  cases c <;> cases p <;> first | rfl | exact absurd (by decide) hp

theorem passback_touches (x : Nat) (source : PassbackSource) (s : State) :
    Touches [.passback] s (s.passback x source) := fun p hp => by
  cases p <;> first | rfl | exact absurd (by decide) hp

theorem expirePassback_touches (s : State) : Touches [.passback] s s.expirePassback := fun p hp => by
  cases p <;> first | rfl | exact absurd (by decide) hp

theorem reply_touches (r : Reply) (s : State) : Touches [.replies, .red, .counts] s (s.reply r) :=
  fun p hp => by cases r <;> cases p <;> first | rfl | exact absurd (by decide) hp

theorem replyFormat_touches (s : State) : Touches [.replies, .red, .counts] s s.replyFormat :=
  ((reply_touches _ s).comp (bump_touches _ _)).mono (by decide)

/-- What a decision on a ticket, a passage or the end of a timer of the gate block changes. -/
def ticketParts : List Part := [.ticket, .places, .cycle, .passback, .replies, .red, .counts]

theorem settleTicket_touches (r : Reply) (s : State) : Touches ticketParts s (s.settleTicket r) :=
  ((setTicket_touches _ s).comp (reply_touches _ _)).mono (by decide)

theorem admitTicket_touches (x : Ticket) (s : State) : Touches ticketParts s (s.admitTicket x) :=
  (((((setCycle_touches _ s).comp (passback_touches _ _ _)).comp (setTicket_touches _ _)).comp
    (reply_touches _ _)).comp (bump_touches _ _)).mono (by decide)

theorem decideTicket_touches (x : Ticket) (due : Nat) (s : State) :
    Touches ticketParts s (s.decideTicket x due) := by
  unfold State.decideTicket
  split
  · exact settleTicket_touches _ s
  · exact .ite (fun _ => (setTicket_touches _ s).mono (by decide))
      (fun _ => .ite (fun _ => admitTicket_touches x s) (fun _ => settleTicket_touches _ s))

theorem decideAgain_touches (s : State) : Touches ticketParts s s.decideAgain := by
  unfold State.decideAgain
  split
  · exact decideTicket_touches _ _ s
  · exact .refl _ _

theorem passage_touches (s : State) : Touches ticketParts s s.passage := by
  unfold State.passage
  split
  · exact (((setCycle_touches _ s).comp (passback_touches _ _ _)).comp (setTicket_touches _ _)).mono
      (by decide)
  · exact (bump_touches _ s).mono (by decide)

theorem passageTimeout_touches (s : State) : Touches ticketParts s s.passageTimeout := by
  have forgotten (f : List PassbackEntry → List PassbackEntry) (x : State) :
      Touches [.passback] x (x.setGate (fun g => { g with passback := f g.passback })) :=
    fun p hp => by cases p <;> first | rfl | exact absurd (by decide) hp
  unfold State.passageTimeout
  split
  · exact (((((setCycle_touches _ s).comp (forgotten (List.filter _) _)).comp
      (setTicket_touches _ _)).comp (reply_touches _ _)).comp (bump_touches _ _)).mono (by decide)
  · exact .refl _ _

theorem holdTimeout_touches (s : State) : Touches ticketParts s s.holdTimeout := by
  unfold State.holdTimeout
  split
  · exact settleTicket_touches _ s
  · exact .refl _ _

theorem forgetReleases_touches (s : State) : Touches [.cars] s s.forgetReleases :=
  (setCarFlags_touches _ _ s).trans (setCarFlags_touches _ _ _)

/-- What the boarding cycle and the counts of the other gates change. -/
def cycleParts : List Part := [.cycle, .places, .cars, .passback, .counts]

theorem openCycle_touches (c : CarId) (o : Opening) (s : State) :
    Touches cycleParts s (s.openCycle c o) :=
  (((forgetReleases_touches s).comp (setCycle_touches _ _)).comp (bump_touches _ _)).mono (by decide)

theorem judgeLoadReport_touches (c : CarId) (l : LoadReport) (s : State) :
    Touches cycleParts s (s.judgeLoadReport c l) := by
  unfold State.judgeLoadReport
  refine .trans ?_ ((setCarFlags_touches _ _ _).mono (Y := cycleParts) (by decide))
  have clear : Touches cycleParts s (s.setCarFlags c (fun f => { f with seenClear := true })) :=
    (setCarFlags_touches _ _ s).mono (by decide)
  split
  · refine .ite (fun _ => .ite (fun _ => .refl _ _) (fun _ => .ite (fun _ => openCycle_touches c _ s)
      (fun _ => (bump_touches _ s).mono (by decide)))) (fun _ => ?_)
    exact .ite (fun _ => clear.trans ((setCycle_touches _ _).mono (by decide))) (fun _ => clear)
  · exact clear

theorem judgeDoorState_touches (c : CarId) (fresh : Bool) (d : DoorReport) (s : State) :
    Touches cycleParts s (s.judgeDoorState c fresh d) := by
  have flagged : Touches cycleParts s (s.setCarFlags c (fun f => { f with
      released := f.released || d.left.released || d.right.released })) :=
    (setCarFlags_touches _ _ s).mono (by decide)
  exact .ite (fun _ => .ite (fun _ => flagged.trans ((setCycle_touches _ _).mono (by decide)))
    (fun _ => flagged)) (fun _ => .refl _ _)

theorem gateLevel_touches (s : State) : Touches [.cycle] s s.gateLevel := fun p hp => by
  cases p <;> first | rfl | exact absurd (by decide) hp

theorem reportSent_touches (a : AdmissionReport) (s : State) :
    Touches [.cycle, .places] s (s.reportSent a) :=
  .ite (fun _ => setCycle_touches _ s) (fun _ => .refl _ _)

theorem takeAdmission_touches (a : AdmissionReport) (i : Nat) (s : State) :
    Touches cycleParts s (s.takeAdmission a i) :=
  .ite (fun _ => .ite (fun _ => (bump_touches _ s).mono (by decide)) (fun _ => .ite
    (fun _ => (bump_touches _ s).mono (by decide))
    (fun _ => ((setCycle_touches _ s).mono (by decide)).trans
      (.foldl (fun t id => (passback_touches id _ t).mono (by decide)) _ _)))) (fun _ => .refl _ _)

theorem gateDoubt_touches (s : State) : Touches [.cars, .cycle] s s.gateDoubt := by
  have doubted : Touches [.cars, .cycle] s ((s.setCarFlags .a (fun f => { f with doubt := true })).setCarFlags
      .b (fun f => { f with doubt := true })) :=
    ((setCarFlags_touches _ _ s).trans (setCarFlags_touches _ _ _)).mono (by decide)
  refine .ite (fun _ => doubted) (fun _ => doubted.trans fun p hp => ?_)
  cases p <;> first | rfl | exact absurd (by decide) hp

end Sys2Proof.Machine
end


section
/-! # What the trip controller, the brake block and the grant table can touch (Chapters 6 to 8) -/

namespace Sys2Proof.Machine

open Sys2Proof

/-! ## The trip controller -/

theorem setPosition_touches (acc rawH : Int) (u : Nat) (s : State) :
    Touches [.position] s (s.setPosition acc rawH u) := fun p hp => by
  cases p <;> first | rfl | exact absurd (by decide) hp

theorem synchronise_touches (h : Nat) (s : State) : Touches [.position] s (s.synchronise h) :=
  fun p hp => by cases p <;> first | rfl | exact absurd (by decide) hp

theorem setReason_touches (r : Reason) (s : State) : Touches [.trip] s (s.setReason r) :=
  fun p hp => by cases p <;> first | rfl | exact absurd (by decide) hp

theorem enterAtStop_touches (k : Nat) (s : State) : Touches [.trip] s (s.enterAtStop k) :=
  fun p hp => by cases p <;> first | rfl | exact absurd (by decide) hp

theorem arriveAt_touches (k : Nat) (s : State) : Touches [.position, .trip] s (s.arriveAt k) :=
  (synchronise_touches _ s).comp (enterAtStop_touches _ _)

theorem clearTrip_touches (s : State) : Touches [.trip, .requeue] s s.clearTrip :=
  setTrip_touches _ s

theorem endTrip_touches (s : State) : Touches [.trip, .requeue, .authority] s s.endTrip :=
  fun p hp => by cases p <;> first | rfl | exact absurd (by decide) hp

/-- What the trip controller changes, its notices and the position it sets included. -/
def tripParts : List Part := [.trip, .requeue, .queue, .counts, .authority, .position]

theorem setTrip_tripParts (f : TripController → TripController) (s : State) :
    Touches tripParts s (s.setTrip f) := (setTrip_touches f s).mono (by decide)

theorem bump_tripParts (c : Count) (s : State) : Touches tripParts s (s.bump c) :=
  (bump_touches c s).mono (by decide)

theorem queueNotice_touches (s : State) : Touches tripParts s s.queueNotice := by
  unfold State.queueNotice
  split
  · exact (setTrip_tripParts _ s).trans ((enqueue_touches _ _).mono (by decide))
  · exact .refl _ _

theorem startTrip_touches (r : TripRecord) (s : State) : Touches tripParts s (s.startTrip r) := by
  have taken : Touches tripParts s { s.setTrip ({ · with
      trip := some r, counter := (s.trip.counter + 1) % 256 }) with sup := { s.sup with
        authority := some { hEnd := r.hEnd, direction := r.direction, trip := r.number } } } :=
    fun p hp => by cases p <;> first | rfl | exact absurd (by decide) hp
  exact taken.trans (queueNotice_touches _)

theorem torqueProof_touches (s : State) : Touches tripParts s s.torqueProof := by
  unfold State.torqueProof
  split
  · exact setTrip_tripParts _ s
  · exact .ite (fun _ => .refl _ _) (fun _ => setTrip_tripParts _ s)
  · exact .refl _ _

theorem startRelease_touches (st : Haulage) (s : State) : Touches tripParts s (s.startRelease st) :=
  .ite (fun _ => (setTrip_tripParts _ s).trans (torqueProof_touches _))
    (fun _ => setTrip_tripParts _ s)

theorem standHolding_touches (s : State) : Touches tripParts s s.standHolding := setTrip_tripParts _ s

theorem returnToStop_touches (s : State) : Touches tripParts s s.returnToStop := setTrip_tripParts _ s

theorem endTrip_tripParts (s : State) : Touches tripParts s s.endTrip :=
  (endTrip_touches s).mono (by decide)

theorem setReason_tripParts (r : Reason) (s : State) : Touches tripParts s (s.setReason r) :=
  (setReason_touches r s).mono (by decide)

theorem torqueTimeout_touches (s : State) : Touches tripParts s s.torqueTimeout := by
  unfold State.torqueTimeout
  have counted : Touches tripParts s (((s.setTrip
      ({ · with torqueDue := none, askEnable := false })).setReason .driveNotReady).bump
        .torqueTimeouts) :=
    ((setTrip_tripParts _ s).trans (setReason_tripParts _ _)).trans (bump_tripParts _ _)
  dsimp only
  split
  · refine .ite (fun _ => counted.trans (standHolding_touches _)) (fun _ => ?_)
    exact ((counted.trans (setTrip_tripParts _ _)).trans (endTrip_tripParts _)).trans
      (returnToStop_touches _)
  · exact .ite (fun _ => (counted.trans (endTrip_tripParts _)).trans (setTrip_tripParts _ _))
      (fun _ => (counted.trans (endTrip_tripParts _)).trans (setTrip_tripParts _ _))
  · exact .refl _ _

theorem enterDoorClosing_touches (s : State) : Touches tripParts s s.enterDoorClosing :=
  setTrip_tripParts _ s

theorem judgeClosing_touches (s : State) : Touches tripParts s s.judgeClosing :=
  .ite (fun _ => setTrip_tripParts _ s) (fun _ => .refl _ _)

theorem doorCloseTimeout_touches (s : State) : Touches tripParts s s.doorCloseTimeout := by
  unfold State.doorCloseTimeout State.startDwell
  exact (((setTrip_tripParts _ s).trans (setReason_tripParts _ _)).trans
    (bump_tripParts _ _)).trans (setTrip_tripParts _ _)

theorem dwellExpiry_touches (s : State) : Touches tripParts s s.dwellExpiry :=
  .ite (fun _ => (setTrip_tripParts _ s).trans (enterDoorClosing_touches _))
    (fun _ => setTrip_tripParts _ s)

theorem depart_touches (s : State) : Touches tripParts s s.depart := by
  unfold State.depart
  exact ((startTrip_touches _ s).trans (setTrip_tripParts _ _)).trans (startRelease_touches _ _)

theorem resume_touches (r : TripRecord) (s : State) : Touches tripParts s (s.resume r) :=
  (startTrip_touches _ s).trans (startRelease_touches _ _)

theorem judgeReady_touches (s : State) : Touches tripParts s s.judgeReady := by
  unfold State.judgeReady
  split
  · have counted (r : Reason) : Touches tripParts s ((s.setReason r).bump .readyCheckFailures) :=
      (setReason_tripParts _ s).trans (bump_tripParts _ _)
    exact .ite (fun _ => (counted _).trans (standHolding_touches _))
      (fun _ => (counted _).trans (returnToStop_touches _))
  · refine .ite (fun _ => ?_) (fun _ => depart_touches s)
    split
    · exact resume_touches _ s
    · exact standHolding_touches s

theorem runSample_touches (s : State) : Touches tripParts s s.runSample := by
  unfold State.runSample
  split
  · exact .ite (fun _ => (setTrip_tripParts _ s).trans (setTrip_tripParts _ _))
      (fun _ => setTrip_tripParts _ s)
  · exact setTrip_tripParts _ s

theorem arriveAt_tripParts (k : Nat) (s : State) : Touches tripParts s (s.arriveAt k) :=
  (arriveAt_touches k s).mono (by decide)

theorem arrive_touches (k : Nat) (d : Direction) (s : State) : Touches tripParts s (s.arrive k d) :=
  ((endTrip_tripParts s).trans (setTrip_tripParts _ _)).trans (arriveAt_tripParts _ _)

theorem completeStop_touches (s : State) : Touches tripParts s s.completeStop := by
  unfold State.completeStop
  have asked : Touches tripParts s (s.setTrip ({ · with askService := false, askEnable := false })) :=
    setTrip_tripParts _ s
  have ended (r : Reason) := (asked.trans (endTrip_tripParts _)).trans (setReason_tripParts r _)
  dsimp only
  split
  · split
    · exact .ite (fun _ => asked.trans (arrive_touches _ _ _))
        (fun _ => (ended _).trans (setTrip_tripParts _ _))
    · split
      · exact asked.trans (arrive_touches _ _ _)
      · exact (ended _).trans (setTrip_tripParts _ _)
  · exact asked.trans (setTrip_tripParts _ _)

theorem holdSample_touches (s : State) : Touches tripParts s s.holdSample := by
  unfold State.holdSample
  refine .ite (fun _ => standHolding_touches s) (fun _ => ?_)
  split
  · exact setTrip_tripParts _ s
  · exact setTrip_tripParts _ s

theorem judgeSync_touches (s : State) : Touches tripParts s s.judgeSync := by
  unfold State.judgeSync
  refine .ite (fun _ => ?_) (fun _ => .refl _ _)
  split
  · exact .refl _ _
  · exact arriveAt_tripParts _ s
  · exact setReason_tripParts _ s

theorem haulageSample_touches (s : State) : Touches tripParts s s.haulageSample := by
  unfold State.haulageSample
  split
  · exact judgeSync_touches s
  · exact judgeClosing_touches s
  · exact judgeReady_touches s
  · exact runSample_touches s
  · exact .ite (fun _ => runSample_touches s) (fun _ => .refl _ _)
  · exact .ite (fun _ => completeStop_touches s) (fun _ => .refl _ _)
  · exact holdSample_touches s
  · exact .refl _ _

theorem requeueNotice_touches (owed : Option TripRecord) (s : State) :
    Touches tripParts s (s.requeueNotice owed) :=
  .ite (fun _ => queueNotice_touches s) (fun _ => .refl _ _)

theorem restSetpoint_touches (s : State) : Touches [.trip] s s.restSetpoint := by
  rw [State.restSetpoint_eq]
  exact fun p hp => by cases p <;> first | rfl | exact absurd (by decide) hp

theorem setAnalogCode_touches (s : State) : Touches [.trip, .setCode] s s.setAnalogCode :=
  fun p hp => by cases p <;> first | rfl | exact absurd (by decide) hp

theorem tripRise_touches (level : Nat) (s : State) : Touches [.trip] s (s.tripRise level) := by
  unfold State.tripRise
  repeat' split
  all_goals exact fun p hp => by cases p <;> first | rfl | exact absurd (by decide) hp

theorem tripReset_touches (s : State) : Touches tripParts s s.tripReset := by
  have cleared := setTrip_tripParts ({ · with replyA := none, replyB := none }) s
  unfold State.tripReset
  dsimp only
  split
  · refine .ite (fun _ => ?_) (fun _ => ?_)
    · split
      · exact (cleared.trans (setTrip_tripParts _ _)).trans (arriveAt_tripParts _ _)
      · exact (cleared.trans (setTrip_tripParts _ _)).trans (setTrip_tripParts _ _)
    · exact (cleared.trans (setTrip_tripParts _ _)).trans (setTrip_tripParts _ _)
  · split
    · refine .ite (fun _ => ?_) (fun _ => cleared)
      exact .ite
        (fun _ => ((cleared.trans (setTrip_tripParts _ _)).trans (setTrip_tripParts _ _)).trans
          (setTrip_tripParts _ _))
        (fun _ => ((cleared.trans (setTrip_tripParts _ _)).trans (setTrip_tripParts _ _)).trans
          (setTrip_tripParts _ _))
    · exact cleared
  · exact cleared.trans (setTrip_tripParts _ _)
  · exact .ite (fun _ => cleared) (fun _ => (cleared.trans (setTrip_tripParts _ _)).trans
      (setTrip_tripParts _ _))
  · exact cleared

theorem dispatchKey_touches (s : State) : Touches tripParts s s.dispatchKey := by
  unfold State.dispatchKey
  split
  · exact .ite (fun _ => setTrip_tripParts _ s) (fun _ => bump_tripParts _ s)
  · split
    · exact .ite (fun _ => setTrip_tripParts _ s) (fun _ => bump_tripParts _ s)
    · exact bump_tripParts _ s
  · exact bump_tripParts _ s

theorem modeKey_touches (s : State) : Touches tripParts s s.modeKey :=
  .ite (fun _ => .ite (fun _ => setTrip_tripParts _ s) (fun _ => .refl _ _))
    (fun _ => setTrip_tripParts _ s)

theorem reducedSpeedKey_touches (s : State) : Touches tripParts s s.reducedSpeedKey := by
  unfold State.reducedSpeedKey
  split
  · exact .ite (fun _ => (setTrip_tripParts _ s).trans (queueNotice_touches _)) (fun _ => .refl _ _)
  · exact .refl _ _

theorem startRecovery_touches (d : Direction) (target : Option Nat) (s : State) :
    Touches tripParts s (s.startRecovery d target) := by
  unfold State.startRecovery
  exact ((startTrip_touches _ s).trans (setTrip_tripParts _ _)).trans (startRelease_touches _ _)

theorem refuseRecovery_touches (r : Reason) (s : State) : Touches tripParts s (s.refuseRecovery r) :=
  (setReason_tripParts _ s).trans (bump_tripParts _ _)

theorem recoveryKey_touches (s : State) : Touches tripParts s s.recoveryKey := by
  unfold State.recoveryKey
  split
  · exact bump_tripParts _ s
  · split
    · split
      · exact refuseRecovery_touches _ s
      · split
        · exact (setTrip_tripParts _ s).trans (arriveAt_tripParts _ _)
        · exact startRecovery_touches _ _ s
    · split
      · exact refuseRecovery_touches _ s
      · split
        · exact startRecovery_touches _ _ s
        · exact refuseRecovery_touches _ s
    · exact bump_tripParts _ s

theorem evacuationKey_touches (s : State) : Touches tripParts s s.evacuationKey := by
  unfold State.evacuationKey
  split
  · split
    · exact (enqueue_touches _ s).mono (by decide)
    · exact (enqueue_touches _ s).mono (by decide)
    · exact bump_tripParts _ s
  · exact bump_tripParts _ s

theorem parkKeyOn_touches (s : State) : Touches tripParts s s.parkKeyOn := by
  unfold State.parkKeyOn
  split
  · exact setTrip_tripParts _ s
  · exact bump_tripParts _ s

theorem recordReply_touches (c : CarId) (side : DoorSide) (r : EvacResult) (s : State) :
    Touches tripParts s (s.recordReply c side r) := by
  unfold State.recordReply
  cases c <;> exact setTrip_tripParts _ s

/-! ## The brake block -/

theorem writeRecord_touches (c : Cause) (level : Nat) (s : State) :
    Touches [.records] s (s.writeRecord c level) := fun p hp => by
  cases p <;> first | rfl | exact absurd (by decide) hp

theorem startProof_touches (level speed : Nat) (s : State) :
    Touches [.proof] s (s.startProof level speed) := fun p hp => by
  cases p <;> first | rfl | exact absurd (by decide) hp

theorem requestProof_touches (s : State) : Touches [.proof] s s.requestProof :=
  .ite (fun _ => .refl _ _) (fun _ => startProof_touches _ _ s)

/-- What a change of the effective level changes beside the level (R105). -/
def toldParts : List Part :=
  [.proof, .queue, .periods, .requeue, .counts, .trip, .sides, .door, .cycle]

theorem tellLevel_touches (before : Nat) (s : State) : Touches toldParts s (s.tellLevel before) := by
  unfold State.tellLevel
  split
  · exact .ite (fun _ => (tripRise_touches _ s).mono (by decide)) (fun _ => .refl _ _)
  · exact .ite (fun _ => (endEvacuation_touches s).mono (by decide)) (fun _ => .refl _ _)
  · exact (gateLevel_touches s).mono (by decide)
  · exact .refl _ _

theorem proofAtChange_touches (before : Nat) (s : State) :
    Touches [.proof] s (s.proofAtChange before) := by
  unfold State.proofAtChange
  split
  · exact startProof_touches _ _ s
  · exact .refl _ _

theorem levelChanged_touches (before : Nat) (s : State) :
    Touches toldParts s (s.levelChanged before) :=
  .ite (fun _ => ((((proofAtChange_touches before s).mono (by decide)).trans
      (tellLevel_touches before _)).trans ((queueAllStates_touches _).mono (by decide))))
    (fun _ => .refl _ _)

/-- What a change of the effective level changes (R105). -/
def levelParts : List Part := .effective :: toldParts

theorem setEffective_touches (level : Nat) (s : State) :
    Touches [.effective] s (s.setBrake ({ · with effective := level })) := fun p hp => by
  cases p <;> first | rfl | exact absurd (by decide) hp

theorem reform_touches (s : State) : Touches levelParts s s.reform := by
  unfold State.reform
  exact .ite (fun _ => .refl _ _) (fun _ => ((setEffective_touches _ s).mono (by decide)).trans
    ((levelChanged_touches _ _).mono (by decide)))

theorem queueOrder_touches (level : Nat) (c : Cause) (s : State) :
    Touches [.queue, .requeue, .counts] s (s.queueOrder level c) := enqueue_touches _ s

/-- What the judgement of a rise changes (R100). -/
def riseParts : List Part := .judged :: .records :: levelParts

theorem judgeRise_touches (s : State) : Touches riseParts s s.judgeRise := by
  have judged : Touches riseParts s
      (s.setBrake ({ · with judged := s.highestOwn, raised := [] })) := fun p hp => by
    cases p <;> first | rfl | exact absurd (by decide) hp
  unfold State.judgeRise
  refine .ite (fun _ => ?_) (fun _ => judged)
  split
  · exact ((judged.trans ((queueOrder_touches _ _ _).mono (by decide))).trans
      ((writeRecord_touches _ _ _).mono (by decide))).trans ((reform_touches _).mono (by decide))
  · exact judged.trans ((reform_touches _).mono (by decide))

/-- What a raise changes (R100). -/
def raiseParts : List Part := .demands :: riseParts

theorem raise_touches (c : Cause) (level : Nat) (s : State) :
    Touches raiseParts s (s.raise c level) :=
  ((latch_touches c level s).mono (by decide)).trans ((judgeRise_touches _).mono (by decide))

theorem takeOrder_touches (addr level : Nat) (c : Cause) (h : Option Nat) (n : Nat) (s : State) :
    Touches (.rows :: levelParts) s (s.takeOrder addr level c h n) := by
  have raised (x : State) (f : List LevelRow → List LevelRow) : Touches (.rows :: levelParts) x
      (x.setBrake (fun b => { b with rows := f b.rows })) := fun p hp => by
    cases p <;> first | rfl | exact absurd (by decide) hp
  unfold State.takeOrder
  refine .trans (.trans ?_ (raised _ (List.modify · addr _)))
    ((reform_touches _).mono (Y := .rows :: levelParts) (by decide))
  split
  · exact .ite (fun _ => .refl _ _) (fun _ => (bump_touches _ s).mono (by decide))
  · exact .refl _ _

theorem takeAnnounced_touches (addr level : Nat) (s : State) :
    Touches (.rows :: levelParts) s (s.takeAnnounced addr level) := by
  have raised : Touches (.rows :: levelParts) s (s.setBrake (fun b => { b with
      rows := b.rows.modify addr (fun r => { r with announced := max r.announced level }) })) :=
    fun p hp => by cases p <;> first | rfl | exact absurd (by decide) hp
  exact raised.trans ((reform_touches _).mono (by decide))

/-- What an accepted brake reset changes (R111). -/
def resetParts : List Part :=
  [.held, .rows, .demands, .judged, .authority, .position] ++ levelParts

theorem releaseAbsent_touches (s : State) : Touches [.demands] s s.releaseAbsent := fun p hp => by
  cases p <;> first | rfl | exact absurd (by decide) hp

theorem authorityReset_touches (s : State) : Touches [.authority] s s.authorityReset :=
  .ite (fun _ => fun p hp => by cases p <;> first | rfl | exact absurd (by decide) hp)
    (fun _ => .refl _ _)

theorem tellReset_touches (s : State) : Touches resetParts s s.tellReset := by
  unfold State.tellReset
  split
  · refine .trans ?_ ((authorityReset_touches _).mono (Y := resetParts) (by decide))
    have reset : Touches resetParts s s.tripReset := (tripReset_touches s).mono (by decide)
    exact .ite (fun _ => reset.trans ((tripRise_touches _ _).mono (by decide))) (fun _ => reset)
  · exact ((authorityReset_touches s).mono (by decide)).trans
      ((endEvacuation_touches _).mono (by decide))
  · exact .refl _ _

theorem reOrder_touches (s : State) : Touches [.queue, .requeue, .counts] s s.reOrder := by
  unfold State.reOrder
  split
  · exact queueOrder_touches _ _ s
  · exact .refl _ _

/-- An accepted reset before the effective level is formed anew (R111, steps 1 to 5). -/
def State.resetDemands (number : Nat) (s : State) : State :=
  let s1 := (s.setBrake ({ · with
    held := some number, rows := List.replicate 32 LevelRow.zero })).releaseAbsent
  s1.setBrake (fun b => { b with proof := none, judged := min b.judged s1.highestOwn })

theorem acceptReset_eq (number : Nat) (s : State) :
    s.acceptReset number = (s.resetDemands number).reform.tellReset.reOrder := rfl

theorem resetDemands_touches (number : Nat) (s : State) :
    Touches [.held, .rows, .demands, .judged, .proof] s (s.resetDemands number) := by
  have cleared : Touches [.held, .rows] s (s.setBrake ({ · with
      held := some number, rows := List.replicate 32 LevelRow.zero })) := fun p hp => by
    cases p <;> first | rfl | exact absurd (by decide) hp
  have lowered (x : State) (n : Nat) : Touches [.proof, .judged] x
      (x.setBrake (fun b => { b with proof := none, judged := min b.judged n })) := fun p hp => by
    cases p <;> first | rfl | exact absurd (by decide) hp
  exact ((cleared.comp (releaseAbsent_touches _)).comp (lowered _ _)).mono (by decide)

theorem acceptReset_touches (number : Nat) (s : State) :
    Touches resetParts s (s.acceptReset number) := by
  rw [acceptReset_eq]
  exact ((((resetDemands_touches number s).mono (by decide)).trans
    ((reform_touches _).mono (by decide))).trans (tellReset_touches _)).trans
    ((reOrder_touches _).mono (by decide))

theorem judgeReset_touches (number : Nat) (s : State) :
    Touches resetParts s (s.judgeReset number) :=
  .ite (fun _ => (bump_touches _ s).mono (by decide)) (fun _ => .ite
    (fun _ => acceptReset_touches number s) (fun _ => (bump_touches _ s).mono (by decide)))

theorem clearHeld_touches (s : State) : Touches [.held] s s.clearHeld := fun p hp => by
  cases p <;> first | rfl | exact absurd (by decide) hp

theorem resetKey_touches (s : State) : Touches [.issue, .queue, .requeue, .counts] s s.resetKey := by
  have issued : Touches [.issue, .queue, .requeue, .counts] s
      (s.setBrake ({ · with issue := (s.brake.issue + 1) % 256 })) := fun p hp => by
    cases p <;> first | rfl | exact absurd (by decide) hp
  exact .ite (fun _ => issued.trans ((enqueue_touches _ _).mono (by decide)))
    (fun _ => (bump_touches _ s).mono (by decide))

theorem proofFailed_touches (p : BrakeProof) (s : State) :
    Touches raiseParts s (s.proofFailed p) := by
  have counted : Touches raiseParts s (s.bump .proofFailures) := (bump_touches _ s).mono (by decide)
  unfold State.proofFailed
  split
  · exact counted.trans (raise_touches _ _ _)
  · exact counted.trans (raise_touches _ _ _)
  · exact (counted.trans ((writeRecord_touches _ _ _).mono (by decide))).trans
      ((bump_touches _ _).mono (by decide))
  · exact counted.trans (raise_touches _ _ _)

theorem endProof_touches (s : State) : Touches [.proof] s (s.setBrake ({ · with proof := none })) :=
  fun p hp => by cases p <;> first | rfl | exact absurd (by decide) hp

theorem judgeProof_touches (p : BrakeProof) (s : State) :
    Touches raiseParts s (s.judgeProof p) :=
  .ite (fun _ => (endProof_touches s).mono (by decide))
    (fun _ => ((endProof_touches s).mono (by decide)).trans (proofFailed_touches p _))

/-! ## The grant table -/

/-- What the grant table changes, a demand it raises apart. -/
def grantParts : List Part := [.grant, .queue, .requeue, .counts]

theorem setGrant_grantParts (f : GrantTable → GrantTable) (s : State) :
    Touches grantParts s (s.setGrant f) := (setGrant_touches f s).mono (by decide)

theorem enqueue_grantParts (p : Payload) (s : State) : Touches grantParts s (s.enqueue p) :=
  (enqueue_touches p s).mono (by decide)

theorem refuseRequest_touches (c : CarId) (n : Nat) (r : RefusalReason) (s : State) :
    Touches grantParts s (s.refuseRequest c n r) :=
  (enqueue_grantParts _ s).trans ((bump_touches _ _).mono (by decide))

theorem issueGrant_touches (s : State) : Touches grantParts s s.issueGrant :=
  ((setGrant_grantParts _ s).trans (enqueue_grantParts _ _)).trans
    ((bump_touches _ _).mono (by decide))

theorem newRequest_touches (c : CarId) (side : DoorSide) (n : Nat) (s : State) :
    Touches grantParts s (s.newRequest c side n) := by
  unfold State.newRequest
  split
  · exact refuseRequest_touches _ _ _ s
  · exact .ite (fun _ => (setGrant_grantParts _ s).trans (issueGrant_touches _))
      (fun _ => (setGrant_grantParts _ s).trans (setGrant_grantParts _ _))

theorem leaveWithdrawing_touches (s : State) : Touches grantParts s s.leaveWithdrawing :=
  .ite (fun _ => setGrant_grantParts _ s) (fun _ => .refl _ _)

theorem repeatRequest_touches (c : CarId) (side : DoorSide) (n : Nat) (s : State) :
    Touches grantParts s (s.repeatRequest c side n) := by
  unfold State.repeatRequest
  split
  · exact enqueue_grantParts _ s
  · exact enqueue_grantParts _ s
  · split
    · exact (setGrant_grantParts _ s).trans (refuseRequest_touches _ _ _ _)
    · exact setGrant_grantParts _ s
  · split
    · exact (setGrant_grantParts _ s).trans (refuseRequest_touches _ _ _ _)
    · exact .ite (fun _ => issueGrant_touches s) (fun _ => setGrant_grantParts _ s)
  · exact .refl _ _

theorem takeRequest_touches (c : CarId) (side : DoorSide) (n : Nat) (s : State) :
    Touches grantParts s (s.takeRequest c side n) :=
  .ite (fun _ => repeatRequest_touches _ _ _ s) (fun _ => .ite
    (fun _ => (((setGrant_grantParts _ s).trans (enqueue_grantParts _ _)).trans
      (newRequest_touches _ _ _ _)).trans (leaveWithdrawing_touches _))
    (fun _ => newRequest_touches _ _ _ s))

theorem takeCarWithdrawal_touches (c : CarId) (g : Nat) (r : WithdrawReason) (s : State) :
    Touches grantParts s (s.takeCarWithdrawal c g r) :=
  .ite (fun _ => (setGrant_grantParts _ s).trans (leaveWithdrawing_touches _))
    (fun _ => (bump_touches _ s).mono (by decide))

theorem judgeGranted_touches (s : State) : Touches (.grant :: raiseParts) s s.judgeGranted := by
  have withdrawn (r : WithdrawReason) : Touches (.grant :: raiseParts) s
      ((s.startWithdrawing r).sendWithdrawal r) :=
    ((setGrant_grantParts _ s).trans (enqueue_grantParts _ _)).mono (by decide)
  exact .ite
    (fun _ => (((withdrawn _).trans ((bump_touches _ _).mono (by decide))).trans
      ((raise_touches _ _ _).mono (by decide))).trans ((leaveWithdrawing_touches _).mono (by decide)))
    (fun _ => .ite (fun _ => (withdrawn _).trans ((leaveWithdrawing_touches _).mono (by decide)))
      (fun _ => .refl _ _))

theorem judgeGrant_touches (s : State) : Touches (.grant :: raiseParts) s s.judgeGrant := by
  have setState (f : GrantTable → GrantTable) : Touches (.grant :: raiseParts) s (s.setGrant f) :=
    (setGrant_touches f s).mono (by decide)
  unfold State.judgeGrant
  split
  · exact .ite (fun _ => setState _) (fun _ => .refl _ _)
  · exact .ite (fun _ => .refl _ _) (fun _ => setState _)
  · exact judgeGranted_touches s
  · exact (leaveWithdrawing_touches s).mono (by decide)
  · exact .refl _ _

theorem discardExpiry_touches (s : State) : Touches grantParts s s.discardExpiry := by
  unfold State.discardExpiry
  split
  · exact (setGrant_grantParts _ s).trans ((bump_touches _ _).mono (by decide))
  · exact (setGrant_grantParts _ s).trans ((bump_touches _ _).mono (by decide))
  · exact setGrant_grantParts _ s

end Sys2Proof.Machine
end


section
/-! # What measurement, the peer view, the bus and the terminals can touch (Chapters 2 to 5, 10, 11) -/

namespace Sys2Proof.Machine

open Sys2Proof

/-! ## The measurement block -/

/-- What the measurement block changes of its own, with the demands it latches. -/
def measParts : List Part :=
  [.channels, .reference, .speed, .standstill, .position, .marks, .weight, .door, .counts, .demands,
   .judged]

theorem setMeas_touches (f : Measurement → Measurement) (s : State) :
    Touches [.channels, .reference, .speed, .standstill, .position, .marks, .weight] s
      (s.setMeas f) := fun p hp => by
  cases p <;> first | rfl | exact absurd (by decide) hp

theorem setMeas_measParts (f : Measurement → Measurement) (s : State) :
    Touches measParts s (s.setMeas f) := (setMeas_touches f s).mono (by decide)

theorem latch_measParts (c : Cause) (level : Nat) (s : State) :
    Touches measParts s (s.latch c level) := (latch_touches c level s).mono (by decide)

theorem bump_measParts (c : Count) (s : State) : Touches measParts s (s.bump c) :=
  (bump_touches c s).mono (by decide)

theorem judgeLoss_touches (a b : Bool) (s : State) : Touches measParts s (s.judgeLoss a b) := by
  unfold State.judgeLoss
  have bumped (c : Bool) (x : State) :
      Touches measParts x (if c then x.bump .channelLosses else x) :=
    .ite (fun _ => bump_measParts _ x) (fun _ => .refl _ _)
  have counted := fun f g =>
    (((setMeas_measParts f s).trans (setMeas_measParts g _)).trans
      (bumped (s.meas.e0.inService && a) _)).trans (bumped (s.meas.e1.inService && b) _)
  exact .ite (fun _ => .ite (fun _ => (counted _ _).trans (latch_measParts _ _ _))
    (fun _ => counted _ _)) (fun _ => setMeas_measParts _ s)

theorem judgeDisagree_touches (sample : Nat) (s : State) :
    Touches measParts s (s.judgeDisagree sample) :=
  .ite (fun _ => (setMeas_measParts _ s).trans (latch_measParts _ _ _)) (fun _ => .refl _ _)

theorem judgeAgree_touches (sample : Nat) (s : State) : Touches measParts s (s.judgeAgree sample) :=
  .ite (fun _ => setMeas_measParts _ s) (fun _ => .refl _ _)

theorem sampleDisagree_touches (s : State) : Touches measParts s s.sampleDisagree :=
  .ite (fun _ => ((setMeas_measParts _ s).trans (judgeDisagree_touches _ _)).trans
    (judgeAgree_touches _ _)) (fun _ => .refl _ _)

theorem judgeStandstill_touches (sample : Nat) (s : State) :
    Touches measParts s (s.judgeStandstill sample) := by
  have stood (x : State) : Touches measParts x
      (x.setDoor ({ · with standstillTime := some x.unitTime })) := fun p hp => by
    cases p <;> first | rfl | exact absurd (by decide) hp
  exact .ite (fun _ => (setMeas_measParts _ s).trans (stood _)) (fun _ => .refl _ _)

theorem sampleStandstill_touches (s : State) : Touches measParts s s.sampleStandstill :=
  .ite (fun _ => (setMeas_measParts _ s).trans (judgeStandstill_touches _ _))
    (fun _ => setMeas_measParts _ s)

theorem sampleAdoption_touches (s : State) : Touches measParts s s.sampleAdoption := by
  unfold State.sampleAdoption
  refine .ite (fun _ => ?_) (fun _ => .refl _ _)
  split
  · exact ((setPosition_touches _ _ _ s).mono (by decide)).trans (setMeas_measParts _ _)
  · exact .refl _ _

theorem missMark_touches (i : Nat) (s : State) : Touches measParts s (s.missMark i) :=
  .ite (fun _ => ((setMeas_measParts _ s).trans (bump_measParts _ _)).trans (latch_measParts _ _ _))
    (fun _ => (setMeas_measParts _ s).trans (bump_measParts _ _))

theorem sampleMarks_touches (s : State) : Touches measParts s s.sampleMarks := by
  unfold State.sampleMarks
  have expected : Touches measParts s
      (if s.meas.signDiffers then s.expectFrom s.ownTrack else s) :=
    .ite (fun _ => setMeas_measParts _ s) (fun _ => .refl _ _)
  dsimp only
  split
  · split
    · exact .ite (fun _ => expected.trans (missMark_touches _ _)) (fun _ => expected)
    · exact expected
  · exact expected

theorem sampleLimits_touches (s : State) : Touches measParts s s.sampleLimits := by
  unfold State.sampleLimits
  have ended (x : State) : Touches measParts x x.sampleEndOfTrack :=
    .ite (fun _ => (setMeas_measParts _ x).trans (latch_measParts _ _ _))
      (fun _ => setMeas_measParts _ x)
  have degraded (x : State) : Touches measParts x x.sampleDegraded :=
    .ite (fun _ => (setMeas_measParts _ x).trans (latch_measParts _ _ _))
      (fun _ => setMeas_measParts _ x)
  have marked (x : State) : Touches measParts x (if x.role == .car then x.sampleMarks else x) :=
    .ite (fun _ => sampleMarks_touches x) (fun _ => .refl _ _)
  exact .trans (.ite (fun _ => ((ended s).trans (marked _)).trans (degraded _)) (fun _ => .refl _ _))
    (setMeas_measParts _ _)

theorem sampleLoad_touches (stood : Bool) (reading : BitVec 16) (s : State) :
    Touches measParts s (s.sampleLoad stood reading) :=
  .ite (fun _ => setMeas_measParts _ s) (fun _ => .refl _ _)

theorem samplePosition_touches (reference : ChannelId) (s : State) :
    Touches measParts s (s.samplePosition reference) := by
  unfold State.samplePosition
  exact setMeas_measParts _ s

theorem sampleMeasurement_touches (reading : BitVec 16) (s : State) :
    Touches measParts s (s.sampleMeasurement reading) := by
  have lost : Touches measParts s s.sampleSpeeds.sampleLoss := by
    unfold State.sampleLoss State.sampleSpeeds
    exact ((setMeas_measParts _ s).trans (setMeas_measParts _ _)).trans (judgeLoss_touches _ _ _)
  have moved : Touches measParts s
      (s.sampleSpeeds.sampleLoss.sampleDisagree.samplePosition s.meas.reference) :=
    (lost.trans (sampleDisagree_touches _)).trans (samplePosition_touches _ _)
  exact ((((moved.trans (sampleStandstill_touches _)).trans (sampleAdoption_touches _)).trans
    (sampleLimits_touches _)).trans (sampleLoad_touches _ _ _)).trans (setMeas_measParts _ _)

theorem matchMark_touches (m : Mark) (s : State) : Touches measParts s (s.matchMark m) := by
  unfold State.matchMark State.expectFrom
  exact (((setPosition_touches _ _ _ s).mono (by decide)).trans (setMeas_measParts _ _)).trans
    (setMeas_measParts _ _)

theorem markEdge_touches (s : State) : Touches measParts s s.markEdge := by
  unfold State.markEdge
  refine .ite (fun _ => ?_) (fun _ => bump_measParts _ s)
  split
  · exact .ite (fun _ => matchMark_touches _ s) (fun _ => bump_measParts _ s)
  · exact bump_measParts _ s

/-! ## The peer view -/

theorem passState_touches (f : Frame) (s : State) : Touches [.peers, .counts] s (s.passState f) :=
  .ite (fun _ => (setEntry_touches _ _ s).comp (bump_touches _ _))
    (fun _ => (setEntry_touches _ _ s).mono (by decide))

theorem passControl_touches (f : Frame) (s : State) : Touches [.peers] s (s.passControl f) :=
  setEntry_touches _ _ s

theorem spreadConflict_touches (addr : Nat) (s : State) :
    Touches [.peers] s (s.spreadConflict addr) := by
  unfold State.spreadConflict
  split
  · exact fun p hp => by cases p <;> first | rfl | exact absurd (by decide) hp
  · exact .refl _ _

theorem endConflicts_touches (s : State) : Touches [.peers] s s.endConflicts := fun p hp => by
  cases p <;> first | rfl | exact absurd (by decide) hp

theorem bumps_touches (c : Count) (n : Nat) (s : State) : Touches [.counts] s (s.bumps c n) :=
  .foldl (fun t _ => bump_touches c t) _ s

theorem countEntered_touches (before : List PeerEntry) (s : State) :
    Touches [.counts] s (s.countEntered before) :=
  (bumps_touches _ _ s).trans (bumps_touches _ _ _)

theorem renewEntry_touches (f : Frame) (s : State) : Touches [.peers, .counts] s (s.renewEntry f) := by
  unfold State.renewEntry
  exact (((((setEntry_touches _ _ s).trans (setEntry_touches _ _ _)).trans
    (spreadConflict_touches _ _)).trans (endConflicts_touches _)).comp
    (countEntered_touches _ _)).mono (by decide)

theorem passBrake_touches (f : Frame) (s : State) :
    Touches (.held :: .rows :: levelParts) s (s.passBrake f) := by
  unfold State.passBrake
  split
  · have ordered := fun a l c h n => (takeOrder_touches a l c h n s).mono
      (Y := .held :: .rows :: levelParts) (by decide)
    exact .ite (fun _ => (ordered _ _ _ _ _).trans ((clearHeld_touches _).mono (by decide)))
      (fun _ => ordered _ _ _ _ _)
  · split
    · exact (takeAnnounced_touches _ _ s).mono (by decide)
    · exact .refl _ _

theorem emptyNotice_touches (s : State) : Touches [.notice] s s.emptyNotice := fun p hp => by
  cases p <;> first | rfl | exact absurd (by decide) hp

theorem takeNotice_touches (n : TripNotice) (s : State) :
    Touches [.notice, .door, .counts] s (s.takeNotice n) := by
  have stored : Touches [.notice, .door, .counts] s
      { s with prof := { s.prof with notice := some n } } := fun p hp => by
    cases p <;> first | rfl | exact absurd (by decide) hp
  unfold State.takeNotice
  refine .ite (fun _ => ?_) (fun _ => (bump_touches _ s).mono (by decide))
  dsimp only
  split
  · exact .ite (fun _ => stored.trans ((judgeOpening_touches _ _ _).mono (by decide)))
      (fun _ => stored)
  · exact stored

theorem takeDriveMotion_touches (m : Motion) (s : State) :
    Touches (.notice :: doorParts) s (s.takeDriveMotion m) := by
  have judged : Touches (.notice :: doorParts) s
      (if emptiesNotice m s.prof.notice then s.emptyNotice else s) :=
    .ite (fun _ => (emptyNotice_touches s).mono (by decide)) (fun _ => .refl _ _)
  unfold State.takeDriveMotion
  dsimp only
  split
  · exact judged.trans ((doorDriveMotion_touches _ _).mono (by decide))
  · exact judged

/-- What a frame delivered, a record taken, or a change of the peer view reported to the blocks can
change. A ticket in process is not among it. -/
def frameParts : List Part :=
  [.notice, .position, .held, .rows, .demands, .judged, .records, .effective, .proof, .authority,
   .queue, .periods, .requeue, .counts, .trip, .sides, .door, .grant, .places, .cycle, .cars, .passback,
   .peers]

theorem route_touches {X : List Part} (source : Nat) (id : Identity) (deliver : State → State)
    (s : State) (hX : Part.counts ∈ X) (h : Touches X s (deliver s)) :
    Touches X s (s.route source id deliver) :=
  .ite (fun _ => h) (fun _ => (bump_touches _ s).mono (by simpa using hX))

theorem routeWithdrawal_touches (source b : Nat) (c : CarId) (g : Nat) (r : WithdrawReason)
    (s : State) : Touches frameParts s (s.routeWithdrawal source b c g r) := by
  unfold State.routeWithdrawal
  dsimp only
  split
  · exact .ite (fun _ => route_touches _ _ _ s (by decide)
      ((takeCarWithdrawal_touches _ _ _ s).mono (by decide))) (fun _ => .refl _ _)
  · exact .ite (fun _ => route_touches _ _ _ s (by decide)
      ((takeBerthWithdrawal_touches _ _ s).mono (by decide))) (fun _ => .refl _ _)
  · exact .ite (fun _ => (bump_touches _ s).mono (by decide)) (fun _ => .refl _ _)

theorem deliver_touches (f : Frame) (s : State) : Touches frameParts s (s.deliver f) := by
  have routed (id : Identity) (effect : State → State) (h : Touches frameParts s (effect s)) :
      Touches frameParts s (s.route f.source id effect) := route_touches _ _ _ s (by decide) h
  unfold State.deliver
  dsimp only
  split
  · exact routed _ _ ((judgeReset_touches _ s).mono (by decide))
  · exact .ite (fun _ => routed _ _ ((takeNotice_touches _ s).mono (by decide))) (fun _ => .refl _ _)
  · exact .ite (fun _ => routed _ _ ((takeEvacuation_touches _ s).mono (by decide)))
      (fun _ => .refl _ _)
  · exact .ite (fun _ => routed _ _ ((recordReply_touches _ _ _ s).mono (by decide)))
      (fun _ => .refl _ _)
  · exact .ite (fun _ => routed _ _ ((takeRequest_touches _ _ _ s).mono (by decide)))
      (fun _ => .refl _ _)
  · exact .ite (fun _ => routed _ _ ((takeGrant_touches _ _ _ _ s).mono (by decide)))
      (fun _ => .refl _ _)
  · exact .ite (fun _ => routed _ _ ((takeRefusal_touches _ _ _ s).mono (by decide)))
      (fun _ => .refl _ _)
  · exact routeWithdrawal_touches _ _ _ _ _ s
  · exact .refl _ _

theorem takeRecord_touches (f : Frame) (s : State) : Touches frameParts s (s.takeRecord f) := by
  unfold State.takeRecord
  dsimp only
  split
  · exact .ite (fun _ => (takeDriveMotion_touches _ s).mono (by decide)) (fun _ => .refl _ _)
  · exact .ite (fun _ => (judgeLoadReport_touches _ _ s).mono (by decide)) (fun _ => .refl _ _)
  · exact (judgeDoorState_touches _ _ _ s).mono (by decide)
  · exact .ite (fun _ => (takeAdmission_touches _ _ s).mono (by decide)) (fun _ => .refl _ _)
  · exact .refl _ _

/-- What a notice of a change of the peer view can change (R73). -/
def noticeParts : List Part :=
  [.demands, .judged, .records, .effective, .proof, .authority, .position, .queue, .periods, .requeue,
   .counts, .trip, .sides, .door, .grant, .cycle]

theorem notice_touches (id : Identity) (s : State) : Touches noticeParts s (s.notice id) := by
  unfold State.notice
  split
  · exact (judgeClosing_touches s).mono (by decide)
  · exact .ite (fun _ => (judgeClosing_touches s).mono (by decide)) (fun _ => .refl _ _)
  · exact (doorDriveNotice_touches s).mono (by decide)
  · exact .ite (fun _ => (doorBerthNotice_touches s).mono (by decide)) (fun _ => .refl _ _)
  · exact .ite (fun _ => (judgeGrant_touches s).mono (by decide)) (fun _ => .refl _ _)
  · exact .refl _ _

theorem noticeChanges_touches (before : List PeerEntry) (stored : List Identity) (s : State) :
    Touches noticeParts s (s.noticeChanges before stored) := .foldl (fun t id => notice_touches id t) _ s

theorem applyFrame_touches (f : Frame) (s : State) : Touches frameParts s (s.applyFrame f) := by
  have stored : Touches frameParts s ((s.renewEntry f).setEntry f.source (·.store f.payload)) :=
    ((renewEntry_touches f s).comp (setEntry_touches _ _ _)).mono (by decide)
  exact (((stored.trans ((passBrake_touches f _).mono (by decide))).trans
    (takeRecord_touches f _)).trans (deliver_touches f _)).trans
    ((noticeChanges_touches _ _ _).mono (by decide))

theorem takeChecked_touches (f : Frame) (s : State) : Touches frameParts s (s.takeChecked f) := by
  unfold State.takeChecked
  split
  · exact .ite (fun _ => (bump_touches _ s).mono (by decide))
      (fun _ => ((passControl_touches f s).mono (by decide)).trans (applyFrame_touches f _))
  · exact ((passState_touches f s).mono (by decide)).trans (applyFrame_touches f _)
  · exact applyFrame_touches f s

/-- The oldest frame of the receive buffer leaves it. -/
theorem dropOldest_touches (rest : List Frame) (s : State) :
    Touches [.rx] s { s with bus := { s.bus with rx := rest } } := fun p hp => by
  cases p <;> first | rfl | exact absurd (by decide) hp

theorem takeOne_touches (s : State) : Touches (.rx :: frameParts) s s.takeOne := by
  unfold State.takeOne
  split
  · exact .refl _ _
  · exact ((dropOldest_touches _ s).mono (by decide)).trans
      ((takeChecked_touches _ _).mono (by decide))

theorem takeFrames_touches (n : Nat) (s : State) : Touches (.rx :: frameParts) s (s.takeFrames n) := by
  induction n generalizing s with
  | zero => exact .refl _ _
  | succ n ih => exact (takeOne_touches s).trans (ih _)

theorem takeAll_touches (s : State) : Touches (.rx :: frameParts) s s.takeAll :=
  takeFrames_touches _ s

/-- What taking frames changes, a ticket decided anew included (R163). -/
def takeParts : List Part := [.ticket, .replies, .red, .rx] ++ frameParts

theorem redecide_touches (s : State) : Touches takeParts s s.redecide := by
  unfold State.redecide
  refine .ite (fun _ => ?_) (fun _ => .refl _ _)
  split
  · exact ((takeAll_touches s).mono (by decide)).trans ((decideAgain_touches _).mono (by decide))
  · exact .refl _ _

theorem goStale_touches (addr : Nat) (s : State) : Touches frameParts s (s.goStale addr) :=
  ((setEntry_touches _ _ s).mono (by decide)).trans ((noticeChanges_touches _ _ _).mono (by decide))

theorem goLost_touches (addr : Nat) (s : State) : Touches frameParts s (s.goLost addr) := by
  unfold State.goLost
  have lost := (((setEntry_touches addr ({ · with freshness := .lost }) s).trans
    (endConflicts_touches _)).comp (countEntered_touches s.peers _)).mono (Y := frameParts) (by decide)
  refine .trans (.ite (fun _ => ?_) (fun _ => lost))
    ((noticeChanges_touches _ _ _).mono (Y := frameParts) (by decide))
  exact .ite
    (fun _ => (lost.trans ((clearHeld_touches _).mono (by decide))).trans
      ((emptyNotice_touches _).mono (by decide)))
    (fun _ => lost.trans ((clearHeld_touches _).mono (by decide)))

/-! ## The line bus controller -/

theorem busIdle_touches (s : State) : Touches [.receiver] s s.busIdle :=
  .ite (fun _ => fun p hp => by cases p <;> first | rfl | exact absurd (by decide) hp)
    (fun _ => .refl _ _)

theorem offerHead_touches (s : State) :
    Touches [.queue, .attempt, .abortPlaced] s s.offerHead := by
  unfold State.offerHead
  split
  · exact .refl _ _
  · exact fun p hp => by cases p <;> first | rfl | exact absurd (by decide) hp

theorem offer_touches (s : State) :
    Touches [.receiver, .queue, .attempt, .abortPlaced] s s.offer :=
  .ite (fun _ => ((busIdle_touches s).mono (by decide)).trans ((offerHead_touches _).mono (by decide)))
    (fun _ => (busIdle_touches s).mono (by decide))

theorem endAttempt_touches (s : State) : Touches [.attempt, .queue] s s.endAttempt := fun p hp => by
  cases p <;> first | rfl | exact absurd (by decide) hp

theorem removeOnBus_touches (s : State) : Touches [.queue] s s.removeOnBus := fun p hp => by
  cases p <;> first | rfl | exact absurd (by decide) hp

theorem setQueueOnly_touches (f : LineBus → List TxFrame) (s : State) :
    Touches [.queue] s (s.setBus (fun b => { b with queue := f b })) := fun p hp => by
  cases p <;> first | rfl | exact absurd (by decide) hp

theorem setConflictRun_touches (n : Nat) (s : State) :
    Touches [.conflictRun] s (s.setBus ({ · with conflictRun := n })) := fun p hp => by
  cases p <;> first | rfl | exact absurd (by decide) hp

/-- What the end of an attempt changes. -/
def attemptParts : List Part := [.attempt, .queue, .conflictRun, .abortPlaced, .requeue, .counts]

theorem failAttempt_touches (s : State) : Touches attemptParts s s.failAttempt := by
  unfold State.failAttempt
  split
  · exact (endAttempt_touches s).mono (by decide)
  · exact .ite
      (fun _ => ((((removeOnBus_touches s).comp (endAttempt_touches _)).comp (bump_touches _ _)).comp
        (tellNotSent_touches _ _)).mono (by decide))
      (fun _ => ((setQueueOnly_touches _ s).comp (endAttempt_touches _)).mono (by decide))

theorem removeControls_touches (s : State) : Touches [.queue, .requeue, .counts] s s.removeControls :=
  ((setQueueOnly_touches _ s).mono (by decide)).trans
    (.foldl (fun t _ => (tellNotSent_touches _ t).mono (by decide)) _ _)

/-- What entering ADDRESS_CONFLICT changes (R58). -/
def conflictParts : List Part := .phase :: takeParts

theorem setPhase_touches (ph : Phase) (s : State) : Touches [.phase] s { s with phase := ph } :=
  fun p hp => by cases p <;> first | rfl | exact absurd (by decide) hp

theorem enterConflict_touches (s : State) : Touches conflictParts s s.enterConflict :=
  ((((setPhase_touches _ s).mono (by decide)).trans ((raise_touches _ _ _).mono (by decide))).trans
    ((removeControls_touches _).mono (by decide))).trans ((redecide_touches _).mono (by decide))

theorem conflictError_touches (field : BitField) (s : State) :
    Touches (.conflictRun :: conflictParts) s (s.conflictError field) := by
  unfold State.conflictError
  refine .ite (fun _ => ?_) (fun _ => .refl _ _)
  exact .ite
    (fun _ => ((setConflictRun_touches _ s).mono (by decide)).trans
      ((enterConflict_touches _).mono (by decide)))
    (fun _ => (setConflictRun_touches _ s).mono (by decide))

theorem bitError_touches (field : BitField) (s : State) :
    Touches ([.conflictRun, .attempt, .abortPlaced] ++ conflictParts) s (s.bitError field) := by
  have aborted (x : State) : Touches [.abortPlaced] x (x.setBus ({ · with abortPlaced := true })) :=
    fun p hp => by cases p <;> first | rfl | exact absurd (by decide) hp
  refine .ite (fun _ => ?_) (fun _ => .refl _ _)
  exact ((((bump_touches _ s).comp (aborted _)).comp (failAttempt_touches _)).comp
    (conflictError_touches _ _)).mono (by decide)

theorem loseArbitration_touches (s : State) : Touches attemptParts s s.loseArbitration :=
  .ite (fun _ => ((bump_touches _ s).comp (endAttempt_touches _)).mono (by decide))
    (fun _ => .refl _ _)

theorem noAck_touches (s : State) : Touches ([.cars, .cycle] ++ attemptParts) s s.noAck := by
  unfold State.noAck
  split
  · have failed := (((bump_touches .noAckAttempts s).comp (setConflictRun_touches 0 _)).comp
      (failAttempt_touches _)).mono (Y := [.cars, .cycle] ++ attemptParts) (by decide)
    exact .ite (fun _ => failed.trans ((gateDoubt_touches _).mono (by decide))) (fun _ => failed)
  · exact .refl _ _

theorem tellSent_touches (p : Payload) (s : State) : Touches takeParts s (s.tellSent p) := by
  unfold State.tellSent
  split
  · exact .ite (fun _ => ((reportSent_touches _ s).mono (by decide)).trans (redecide_touches _))
      (fun _ => .refl _ _)
  · exact .ite (fun _ => (judgeReset_touches _ s).mono (by decide)) (fun _ => .refl _ _)
  · exact .refl _ _

theorem sent_touches (s : State) : Touches ([.attempt, .conflictRun] ++ takeParts) s s.sent := by
  unfold State.sent
  refine .ite (fun _ => ?_) (fun _ => .refl _ _)
  have counted := ((bump_touches .framesSent s).comp (setConflictRun_touches 0 _)).mono
    (Y := [.attempt, .conflictRun] ++ takeParts) (by decide)
  dsimp only
  split
  · exact ((counted.trans ((removeOnBus_touches _).mono (by decide))).trans
      ((endAttempt_touches _).mono (by decide))).trans ((tellSent_touches _ _).mono (by decide))
  · exact counted.trans ((endAttempt_touches _).mono (by decide))

/-- What reception changes. -/
def receiveParts : List Part := [.rx, .receiver, .counts, .cars, .cycle]

theorem store_touches (f : Frame) (s : State) : Touches receiveParts s (s.store f) := by
  have held (x : State) (g : LineBus → List Frame) : Touches receiveParts x
      (x.setBus (fun b => { b with rx := g b })) := fun p hp => by
    cases p <;> first | rfl | exact absurd (by decide) hp
  have counted := (held s (fun b => slipped b.rx f)).trans
    ((bump_touches .slips _).mono (by decide))
  exact .ite (fun _ => held s _) (fun _ => .ite
    (fun _ => counted.trans ((gateDoubt_touches _).mono (by decide))) (fun _ => counted))

theorem setAck_touches (ack : Bool) (s : State) :
    Touches [.receiver] s (s.setBus ({ · with ackDriven := ack })) := fun p hp => by
  cases p <;> first | rfl | exact absurd (by decide) hp

theorem takeError_touches (e : ReceiveError) (s : State) :
    Touches receiveParts s (s.takeError e) := by
  have counted := ((bump_touches (errorCount e) s).comp (setAck_touches false _)).mono
    (Y := receiveParts) (by decide)
  exact .ite (fun _ => counted.trans ((gateDoubt_touches _).mono (by decide))) (fun _ => counted)

theorem complete_touches (raw : RawFrame) (s : State) : Touches receiveParts s (s.complete raw) := by
  unfold State.complete
  split
  · exact takeError_touches _ s
  · have driven := (setAck_touches s.operating s).mono (Y := receiveParts) (by decide)
    exact .ite (fun _ => driven.trans ((bump_touches _ _).mono (by decide)))
      (fun _ => driven.trans (store_touches _ _))

/-! ## Supervision -/

theorem setSup_touches (f : Supervision → Supervision) (s : State) :
    Touches [.supervision, .authority] s (s.setSup f) := fun p hp => by
  cases p <;> first | rfl | exact absurd (by decide) hp

theorem sampleSet_touches (s : State) : Touches [.setInForce] s s.sampleSet := by
  have decided (n : Nat) (x : Option TripRef) : Touches [.setInForce] s
      { s with prof := { s.prof with setInForce := n, carTrip := x } } := fun p hp => by
    cases p <;> first | rfl | exact absurd (by decide) hp
  unfold State.sampleSet
  split
  · exact .ite (fun _ => decided _ _) (fun _ => decided _ _)
  · exact decided _ _

/-- What a supervision sample changes, the causes it raises apart from their judgement. -/
def supervisionParts : List Part :=
  [.supervision, .authority, .setInForce, .trip, .requeue, .queue, .counts, .demands, .judged, .proof]

theorem judgeDeclaration_touches (s : State) :
    Touches [.trip, .requeue, .queue, .counts] s s.judgeDeclaration := by
  have declared : Touches [.trip, .requeue, .queue, .counts] s s.declareSet1 := by
    unfold State.declareSet1
    split
    · next r _ =>
      refine Touches.trans (t := s.setTrip ({ · with trip := some { r with
        set := 1, pending := false, revision := (r.revision + 1) % 16 } }))
        ((setTrip_touches _ s).mono (by decide)) ?_
      unfold State.queueNotice
      split
      · exact ((setTrip_touches _ _).comp (enqueue_touches _ _)).mono (by decide)
      · exact .refl _ _
    · exact .refl _ _
  unfold State.judgeDeclaration
  split
  · exact .ite (fun _ => declared) (fun _ => .refl _ _)
  · exact .refl _ _

theorem supervisionInputs_touches (s : State) : Touches supervisionParts s s.supervisionInputs := by
  unfold State.supervisionInputs
  split
  · exact ((sampleSet_touches s).comp (setSup_touches _ _)).mono (by decide)
  · exact (judgeDeclaration_touches s).mono (by decide)

theorem raiseCause_touches (c : Cause) (s : State) :
    Touches [.demands, .judged, .proof] s (s.raiseCause c) :=
  .ite (fun _ => ((latch_touches _ _ s).comp (requestProof_touches _)).mono (by decide))
    (fun _ => (latch_touches _ _ s).mono (by decide))

theorem takePresent_touches (l : List Cause) (s : State) :
    Touches supervisionParts s (s.takePresent l) :=
  ((setSup_touches _ s).mono (by decide)).trans
    (.foldl (fun t c => (raiseCause_touches c t).mono (by decide)) _ _)

theorem takeResult_touches (r : SupervisionResult) (s : State) :
    Touches supervisionParts s (s.takeResult r) :=
  .ite (fun _ => ((setSup_touches _ s).comp (bump_touches _ _)).mono (by decide))
    (fun _ => (setSup_touches _ s).mono (by decide))

theorem supervisionSample_touches (s : State) : Touches supervisionParts s s.supervisionSample :=
  (((supervisionInputs_touches s).trans ((setSup_touches _ _).mono (by decide))).trans
    (takeResult_touches _ _)).trans (takePresent_touches _ _)

/-! ## The sample event -/

/-- What the part of the role in a sample event changes. -/
def roleParts : List Part := [.rx, .trackAsk, .setCode] ++ frameParts

theorem tripSample_touches (owed : Option TripRecord) (s : State) :
    Touches roleParts s (s.tripSample owed) := by
  have queued : Touches roleParts s (s.requeueNotice owed) :=
    (requeueNotice_touches owed s).mono (by decide)
  have taken := queued.trans ((takeAll_touches _).mono (Y := roleParts) (by decide))
  unfold State.tripSample
  refine .trans (.trans (.ite (fun _ => .ite (fun _ => ?_) (fun _ => taken)) (fun _ => ?_))
    ((restSetpoint_touches _).mono (Y := roleParts) (by decide)))
    ((setAnalogCode_touches _).mono (by decide))
  · exact taken.trans ((judgeReady_touches _).mono (by decide))
  · exact queued.trans ((haulageSample_touches _).mono (by decide))

theorem roleSample_touches (owed : Option TripRecord) (s : State) :
    Touches roleParts s (s.roleSample owed) := by
  have asked (x : State) : Touches [.trackAsk] x (x.setBrake ({ · with trackAsk := true })) :=
    fun p hp => by cases p <;> first | rfl | exact absurd (by decide) hp
  unfold State.roleSample
  split
  · exact tripSample_touches owed s
  · exact ((doorSample_touches s).comp (asked _)).mono (by decide)
  · exact .refl _ _

theorem restartSample_touches (reading : BitVec 16) (s : State) :
    Touches [.hold, .analogIn, .sampleDue] s (s.restartSample reading) := fun p hp => by
  cases p <;> first | rfl | exact absurd (by decide) hp

theorem queueMotion_touches (s : State) : Touches [.queue, .periods, .counts] s s.queueMotion :=
  .ite (fun _ => queueState_touches _ s) (fun _ => .refl _ _)

/-- A sample of a DRIVE or CAR up to the judgement of the demands it has raised (R21, R77). -/
def State.sampleBlocks (reading : BitVec 16) (s : State) : State :=
  let s1 := (s.restartSample reading).sampleMeasurement reading
  if s1.supervises then s1.supervisionSample else s1

theorem sample_eq (reading : BitVec 16) (s : State) :
    s.sample reading =
      (((s.sampleBlocks reading).roleSample s.owedNotice).judgeRise).queueMotion := rfl

/-- What a sample changes before the part of the role. -/
def blocksParts : List Part := [.hold, .analogIn, .sampleDue] ++ measParts ++ supervisionParts

theorem sampleBlocks_touches (reading : BitVec 16) (s : State) :
    Touches blocksParts s (s.sampleBlocks reading) := by
  have measured := ((restartSample_touches reading s).comp
    (sampleMeasurement_touches reading _)).mono (Y := blocksParts) (by decide)
  exact .ite (fun _ => measured.trans ((supervisionSample_touches _).mono (by decide)))
    (fun _ => measured)

/-- What a sample event changes. -/
def sampleParts : List Part := blocksParts ++ roleParts

theorem sample_touches (reading : BitVec 16) (s : State) : Touches sampleParts s (s.sample reading) :=
  ((((sampleBlocks_touches reading s).mono (by decide)).trans
    ((roleSample_touches _ _).mono (by decide))).trans ((judgeRise_touches _).mono (by decide))).trans
    ((queueMotion_touches _).mono (by decide))

theorem judgeSlip_touches (sample : Nat) (s : State) :
    Touches [.supervision, .authority, .demands, .judged] s (s.judgeSlip sample) :=
  .ite (fun _ => (setSup_touches _ s).comp (latch_touches _ _ _)) (fun _ => .refl _ _)

/-! ## Inputs -/

theorem setTerm_inputs_touches (f : List Bool → List Bool)
    (g : List (Option Nat) → List (Option Nat)) (s : State) :
    Touches [.debounced, .debounceDue] s (s.setTerm (fun t => { t with
      debounced := f t.debounced, debounceDue := g t.debounceDue })) := fun p hp => by
  cases p <;> first | rfl | exact absurd (by decide) hp

theorem followRaw_touches (i : Nat) (s : State) : Touches [.debounceDue] s (s.followRaw i) :=
  fun p hp => by cases p <;> first | rfl | exact absurd (by decide) hp

theorem rawChange_touches (i : Nat) (high : Bool) (s : State) :
    Touches [.wires, .debounceDue] s (s.rawChange i high) := by
  have wired : Touches [.wires, .debounceDue] s
      (s.setTerm (fun t => { t with rawHigh := t.rawHigh.set i high })) := fun p hp => by
    cases p <;> first | rfl | exact absurd (by decide) hp
  exact .ite (fun _ => wired.trans ((followRaw_touches _ _).mono (by decide))) (fun _ => wired)

theorem startDebounce_touches (s : State) : Touches [.debounceDue] s s.startDebounce :=
  .foldl (fun t i => followRaw_touches i t) _ s

theorem momentary_touches {X : List Part} {act : State → State} (active : Bool) (s : State)
    (h : Touches X s (act s)) : Touches X s (s.momentary active act) :=
  .ite (fun _ => h) (fun _ => .refl _ _)

theorem doorLockedChange_touches (s : State) :
    Touches (doorParts ++ raiseParts) s s.doorLockedChange :=
  ((lockClosing_touches s).mono (by decide)).trans (((judgeOpenMoving_touches _).comp
    (judgeRise_touches _)).mono (by decide))

/-- What a debounced change reported to the blocks can change (R174). -/
def reportParts : List Part := [.issue, .ticket, .replies, .red] ++ frameParts

theorem inputChanged_touches (i : Nat) (active : Bool) (s : State) :
    Touches reportParts s (s.inputChanged i active) := by
  unfold State.inputChanged
  split
  · exact .ite (fun _ => (torqueProof_touches s).mono (by decide)) (fun _ => .refl _ _)
  · exact momentary_touches _ s ((dispatchKey_touches s).mono (by decide))
  · exact .ite (fun _ => (modeKey_touches s).mono (by decide)) (fun _ => .refl _ _)
  · exact momentary_touches _ s ((reducedSpeedKey_touches s).mono (by decide))
  · exact momentary_touches _ s ((recoveryKey_touches s).mono (by decide))
  · exact momentary_touches _ s ((evacuationKey_touches s).mono (by decide))
  · exact momentary_touches _ s ((parkKeyOn_touches s).mono (by decide))
  · exact .ite (fun _ => (resetKey_touches s).mono (by decide)) (fun _ => .refl _ _)
  · exact (doorLockedChange_touches s).mono (by decide)
  · exact (doorLockedChange_touches s).mono (by decide)
  · exact .ite (fun _ => (doorButton_touches s).mono (by decide)) (fun _ => .refl _ _)
  · exact .ite (fun _ => (raise_touches _ _ s).mono (by decide)) (fun _ => .refl _ _)
  · exact (judgeGrant_touches s).mono (by decide)
  · exact (judgeGrant_touches s).mono (by decide)
  · exact .ite (fun _ => (raise_touches _ _ s).mono (by decide)) (fun _ => .refl _ _)
  · exact .ite (fun _ => (passage_touches s).mono (by decide)) (fun _ => .refl _ _)
  · exact .refl _ _

/-- The state in which a debounced change is reported (R175). -/
def State.takeLevel (i : Nat) (s : State) : State :=
  s.setTerm (fun t => { t with
    debounced := t.debounced.set i (s.rawActive i), debounceDue := t.debounceDue.set i none })

theorem debounce_eq (i : Nat) (s : State) :
    s.debounce i = (s.takeLevel i).inputChanged i (s.rawActive i) := rfl

theorem takeLevel_touches (i : Nat) (s : State) :
    Touches [.debounced, .debounceDue] s (s.takeLevel i) := fun p hp => by
  cases p <;> first | rfl | exact absurd (by decide) hp

theorem debounce_touches (i : Nat) (s : State) :
    Touches ([.debounced, .debounceDue] ++ reportParts) s (s.debounce i) :=
  (takeLevel_touches i s).comp (inputChanged_touches _ _ _)

/-! ## The reader line -/

/-- What a character of the reader line can change. -/
def readerParts : List Part := .reader :: takeParts

theorem setAssembling_touches (l : List Byte) (s : State) : Touches [.reader] s (s.setAssembling l) :=
  fun p hp => by cases p <;> first | rfl | exact absurd (by decide) hp

theorem present_touches (x : Ticket) (s : State) : Touches takeParts s (s.present x) := by
  unfold State.present
  split
  · exact ((takeAll_touches s).mono (by decide)).trans ((decideTicket_touches _ _ _).mono (by decide))
  · exact (reply_touches _ s).mono (by decide)

theorem deliverRecord_touches (l : List Byte) (s : State) :
    Touches takeParts s (s.deliverRecord l) := by
  unfold State.deliverRecord
  split
  · exact present_touches _ s
  · exact (replyFormat_touches s).mono (by decide)

theorem outsideChar_touches (c : ReaderChar) (s : State) : Touches readerParts s (s.outsideChar c) :=
  .ite (fun _ => (setAssembling_touches _ s).mono (by decide))
    (fun _ => (bump_touches _ s).mono (by decide))

theorem joinChar_touches (c : ReaderChar) (s : State) : Touches readerParts s (s.joinChar c) :=
  .ite (fun _ => (setAssembling_touches _ s).mono (by decide))
    (fun _ => ((setAssembling_touches _ s).mono (by decide)).trans
      ((deliverRecord_touches _ _).mono (by decide)))

theorem breakFraming_touches (s : State) : Touches readerParts s s.breakFraming :=
  ((setAssembling_touches _ s).comp (replyFormat_touches _)).mono (by decide)

theorem readerChar_touches (c : ReaderChar) (s : State) : Touches readerParts s (s.readerChar c) :=
  .ite (fun _ => outsideChar_touches c s) (fun _ => .ite
    (fun _ => (breakFraming_touches s).trans (outsideChar_touches c _))
    (fun _ => joinChar_touches c s))

theorem readerChars_touches (l : List ReaderChar) (s : State) :
    Touches readerParts s (l.foldl (fun t c => t.readerChar c) s) :=
  .foldl (fun t c => readerChar_touches c t) l s

/-! ## Start-up and the service port -/

/-- The entry to LISTENING before its first sample (R184). -/
theorem enterListening_touches (reading : BitVec 16) (s : State) :
    Touches ([.phase, .listenDue, .debounceDue] ++ sampleParts) s (s.enterListening reading) := by
  have entered : Touches ([.phase, .listenDue, .debounceDue] ++ sampleParts) s
      { s with phase := .configured .listening, listenDue := some (s.after 500) } := fun p hp => by
    cases p <;> first | rfl | exact absurd (by decide) hp
  unfold State.enterListening State.raiseStart
  exact (((entered.trans ((raise_touches _ _ _).mono (by decide))).trans
    ((queueAllStates_touches _).mono (by decide))).trans
    ((startDebounce_touches _).mono (by decide))).trans ((sample_touches _ _).mono (by decide))

theorem takeConfig_touches (c : UnitConfig) (s : State) :
    Touches [.cfg, .profile, .channels, .reference] s (s.takeConfig c) := fun p hp => by
  cases p <;> first | rfl | exact absurd (by decide) hp

theorem enterConfigFault_touches (f : CheckFailure) (s : State) :
    Touches ([.phase, .failure] ++ raiseParts) s (s.enterConfigFault f) := by
  have entered : Touches ([.phase, .failure] ++ raiseParts) s
      { s with phase := .configured .configFault, failure := some f } := fun p hp => by
    cases p <;> first | rfl | exact absurd (by decide) hp
  exact entered.trans ((raise_touches _ _ _).mono (by decide))

theorem configRead_touches (i : Image) (reading : BitVec 16) (s : State) :
    Touches ([.cfg, .profile, .channels, .reference, .phase, .failure, .listenDue, .debounceDue] ++
      sampleParts) s (s.configRead i reading) := by
  unfold State.configRead
  split
  · exact ((takeConfig_touches _ s).comp (enterListening_touches _ _)).mono (by decide)
  · exact (enterConfigFault_touches _ s).mono (by decide)
  · exact (enterConfigFault_touches _ s).mono (by decide)

theorem transition_touches (ch : ChannelId) (tr : QuadTransition) (s : State) :
    Touches [.channels, .counts] s (s.transition ch tr) := by
  have channel (f : Channel → Channel) : Touches [.channels, .counts] s (s.setChannel ch f) :=
    fun p hp => by cases ch <;> cases p <;> first | rfl | exact absurd (by decide) hp
  cases tr
  · exact channel _
  · exact channel _
  · exact (channel _).trans ((bump_touches _ _).mono (by decide))

theorem setChannel_touches (ch : ChannelId) (f : Channel → Channel) (s : State) :
    Touches [.channels] s (s.setChannel ch f) := fun p hp => by
  cases ch <;> cases p <;> first | rfl | exact absurd (by decide) hp

theorem answerWith_touches (a : Answer) (own : Bool) (s : State) :
    Touches [.answers] s (s.answerWith a own) := fun p hp => by
  cases p <;> first | rfl | exact absurd (by decide) hp

/-- What a command of the service port changes. -/
def serviceParts : List Part := [.answers, .counts, .peers, .channels, .reference]

theorem refuseWith_touches (r : RefusalCode) (own : Bool) (s : State) :
    Touches serviceParts s (s.refuseWith r own) :=
  ((answerWith_touches _ _ s).comp (bump_touches _ _)).mono (by decide)

theorem judgeRestore_touches (s : State) : Touches serviceParts s s.judgeRestore := by
  have restored : Touches serviceParts s s.restoreReference := fun p hp => by
    cases p <;> first | rfl | exact absurd (by decide) hp
  exact .ite (fun _ => refuseWith_touches _ _ s) (fun _ => .ite (fun _ => refuseWith_touches _ _ s)
    (fun _ => restored.trans ((answerWith_touches _ _ _).mono (by decide))))

theorem carryOut_touches (c : ServiceCommand) (s : State) :
    Touches serviceParts s (s.carryOut c) := by
  have answered (a : Answer) (x : State) : Touches serviceParts x (x.answerWith a true) :=
    (answerWith_touches _ _ x).mono (by decide)
  have cleared : Touches serviceParts s s.clearAllCounts := fun p hp => by
    cases p <;> first | rfl | exact absurd (by decide) hp
  unfold State.carryOut
  split
  · split
    · exact answered _ s
    · exact .refl _ _
  · exact answered _ s
  · exact answered _ s
  · exact answered _ s
  · exact answered _ s
  · exact cleared.trans (answered _ _)
  · exact judgeRestore_touches s
  · exact .refl _ _

theorem command_touches (c : ServiceCommand) (s : State) : Touches serviceParts s (s.command c) := by
  unfold State.command
  refine .ite (fun _ => .refl _ _) (fun _ => .ite (fun _ => refuseWith_touches _ _ s) (fun _ => ?_))
  split
  · exact refuseWith_touches _ _ s
  · exact carryOut_touches c s

end Sys2Proof.Machine
end


section
/-! # One command (Chapters 0 and 11)

Every command passes its time, has an effect, and settles; only the commands of the reset terminal and the
supply end without settling. `effect` is the reading of `exec` that says so. -/

namespace Sys2Proof.Machine

open Sys2Proof

/-- What a command does after its time has passed and before the step settles. -/
def effect (c : Instr) (n : State) : State :=
  match c with
  | .powerOnReset _ => n.powerOn
  | .pinReset _ => n.pinRelease
  | .resetTerminalActive _ => n.pinActive
  | .supplyBelowWorkingLevel _ => n.powerOff
  | .configurationReadComplete _ image reading =>
      if n.phase == .starting then n.configRead image reading else n
  | .listeningTimerExpiry _ =>
      if n.phase == .configured .listening && n.due n.listenDue then
        { n with phase := .configured .operating, listenDue := none } else n
  | .quadratureTransition _ ch tr => if n.alive then n.transition ch tr else n
  | .edgeIntervalVoid _ ch =>
      if n.alive then n.setChannel ch (fun c => c.voidInterval n.clock) else n
  | .sampleEvent _ reading => if n.running && n.due n.sampleDue then n.sample reading else n
  | .zeroTimerExpiry _ ch => n.onLatestSample (fun t s =>
      if (s.meas.channel ch).inService && (s.meas.channel ch).silentAt t then s.judgeLossOf ch else s)
  | .illegalTransitionLimit _ ch => n.onLatestSample (fun t s =>
      if (s.meas.channel ch).inService && (s.meas.channel ch).illegalAt t then s.judgeLossOf ch else s)
  | .disagreementTimerExpiry _ => n.onLatestSample (fun t s =>
      if s.comparesChannels then s.judgeDisagree t else s)
  | .agreementTimerExpiry _ => n.onLatestSample (fun t s =>
      if s.comparesChannels then s.judgeAgree t else s)
  | .standstillTimerExpiry _ => n.onLatestSample (fun t s => s.judgeStandstill t)
  | .ropeSlipTimerExpiry _ => n.onLatestSample (fun t s => s.judgeSlip t)
  | .markDetectorEdge _ high =>
      if n.running && n.role == .car && n.markActive high then n.markEdge else n
  | .offerToArbitration _ => n.offer
  | .arbitrationLoss _ => n.loseArbitration
  | .bitError _ field => n.bitError field
  | .frameSent _ => n.sent
  | .noAckAttempt _ => n.noAck
  | .frameComplete _ raw => if n.receives then n.complete raw else n
  | .receiveError _ kind => if n.receives then n.takeError kind else n
  | .takeFrame _ => if n.running && !n.bus.rx.isEmpty then n.takeOne.redecide else n
  | .statePeriodExpiry _ kind =>
      if n.running && (stateKinds n.role).contains kind && n.due (n.bus.periodDue.getD kind.index none)
      then n.queueState kind else n
  | .staleTimerExpiry _ addr =>
      if n.running && (n.entry addr).freshness == .fresh &&
        decide ((n.entry addr).staleTime ≤ n.silence (n.entry addr)) then n.goStale addr else n
  | .lostTimerExpiry _ addr =>
      if n.running && runsLostTimer (n.entry addr).freshness &&
        decide (5000 ≤ n.silence (n.entry addr)) then n.goLost addr else n
  | .brakeProofTimerExpiry _ =>
      match n.brake.proof with
      | some p => if n.running && decide (p.due ≤ n.clock) then n.judgeProof p else n
      | none => n
  | .rawInputChange _ input high => n.rawChange input high
  | .debounceTimerExpiry _ input =>
      if n.running && n.due (n.term.debounceDue.getD input none) then n.debounce input else n
  | .dwellTimerExpiry _ => if n.running && n.due n.trip.dwellDue then n.dwellExpiry else n
  | .doorCloseTimerExpiry _ =>
      if n.running && n.due n.trip.doorCloseDue then n.doorCloseTimeout else n
  | .retryTimerExpiry _ => if n.running && n.due n.trip.retryDue then n.enterDoorClosing else n
  | .torqueProofTimerExpiry _ => if n.running && n.due n.trip.torqueDue then n.torqueTimeout else n
  | .repeatTimerExpiry _ => if n.running && n.due n.door.repeatDue then n.repeatExpiry else n
  | .confirmationTimerExpiry _ =>
      if n.running && n.due n.door.confirmDue then n.judgeHold.lockClosing else n
  | .discardTimerExpiry _ => if n.running && n.due n.grant.discardDue then n.discardExpiry else n
  | .ticketRecord _ chars =>
      if n.readsReader then chars.foldl (fun t c => t.readerChar c) n else n
  | .readerGapTimeout _ =>
      if n.readsReader && !n.term.assembling.isEmpty && n.gapExceeded then n.breakFraming else n
  | .lineNoise _ c => if n.readsReader then n.readerChar c else n
  | .holdTimerExpiry _ => if n.running && n.ticketHoldDue then n.holdTimeout else n
  | .passageTimerExpiry _ => if n.running && n.passageDue then n.passageTimeout else n
  | .redIndicatorTimerExpiry _ =>
      if n.running && n.due n.gate.redDue then n.setGate ({ · with redDue := none }) else n
  | .passbackEntryExpiry _ => if n.readsReader then n.expirePassback else n
  | .outputHoldTimerExpiry _ =>
      if n.holdDue then (n.setTerm ({ · with hold := .expired })).bump .holdExpiries else n
  | .status _ => n.command .status
  | .peer _ k => n.command (.peer k)
  | .counts _ => n.command .counts
  | .brakeRecords _ => n.command .brakeRecords
  | .cycle _ => n.command .cycle
  | .clearCounts _ => n.command .clearCounts
  | .referenceRestore _ => n.command .referenceRestore
  | .unknownCommand _ => n.command .unknown
  | .serviceAnswerSent _ => { n with answers := n.answers.tail }
  | .busIdle _ => n.busIdle

/-- The effect of a command on the state it finds, its time having passed. -/
def after (c : Instr) (s : State) : State := effect c (s.advance (commandTime c))

theorem exec_eq (c : Instr) (s : State) :
    exec c s = .next (if isResetCommand c then after c s else (after c s).settle) := by
  cases c <;> rfl

theorem exec_of_not_reset {c : Instr} (h : isResetCommand c = false) (s : State) :
    exec c s = .next (after c s).settle := by
  rw [exec_eq, h]; rfl

theorem exec_of_reset {c : Instr} (h : isResetCommand c = true) (s : State) :
    exec c s = .next (after c s) := by
  rw [exec_eq, h]; rfl

/-- The shape of most statements: a command that is no reset settles from its effect. -/
theorem exec_settledFrom {c : Instr} {s x : State} (hc : isResetCommand c = false)
    (h : after c s = x) : ∃ t, exec c s = .next t ∧ SettledFrom x t :=
  ⟨_, exec_of_not_reset hc s, .of_eq h⟩

/-- Every part but the waiting commands and the level of the reset terminal. -/
def runParts : List Part :=
  [.clock, .phase, .failure, .cfg, .listenDue, .profile, .answers, .debounced, .debounceDue, .wires,
   .reader, .receiver, .attempt, .abortPlaced, .conflictRun, .issue, .ticket, .replies, .red, .outputs]
    ++ sampleParts

theorem onLatestSample_touches {X : List Part} (f : Nat → State → State) (s : State)
    (hX : riseParts ⊆ X) (hf : ∀ t, Touches X s (f t s)) : Touches X s (s.onLatestSample f) := by
  unfold State.onLatestSample
  split
  · exact .ite (fun _ => (hf _).trans ((judgeRise_touches _).mono hX)) (fun _ => .refl _ _)
  · exact .refl _ _

theorem effect_touches {c : Instr} (hc : isResetCommand c = false) (n : State) :
    Touches runParts n (effect c n) := by
  have idle : Touches runParts n n := .refl _ _
  have lost (ch : ChannelId) (b : Bool) : Touches runParts n (if b then n.judgeLossOf ch else n) :=
    .ite (fun _ => (judgeLoss_touches _ _ n).mono (by decide)) (fun _ => idle)
  unfold effect
  split
  case h_1 | h_2 | h_3 | h_4 => cases hc
  case h_5 => exact .ite (fun _ => (configRead_touches _ _ n).mono (by decide)) (fun _ => idle)
  case h_6 =>
    exact .ite (fun _ => fun p hp => by cases p <;> first | rfl | exact absurd (by decide) hp)
      (fun _ => idle)
  case h_7 => exact .ite (fun _ => (transition_touches _ _ n).mono (by decide)) (fun _ => idle)
  case h_8 => exact .ite (fun _ => (setChannel_touches _ _ n).mono (by decide)) (fun _ => idle)
  case h_9 => exact .ite (fun _ => (sample_touches _ n).mono (by decide)) (fun _ => idle)
  case h_10 => exact onLatestSample_touches _ n (by decide) (fun _ => lost _ _)
  case h_11 => exact onLatestSample_touches _ n (by decide) (fun _ => lost _ _)
  case h_12 => exact onLatestSample_touches _ n (by decide) (fun _ =>
      .ite (fun _ => (judgeDisagree_touches _ n).mono (by decide)) (fun _ => idle))
  case h_13 => exact onLatestSample_touches _ n (by decide) (fun _ =>
      .ite (fun _ => (judgeAgree_touches _ n).mono (by decide)) (fun _ => idle))
  case h_14 => exact onLatestSample_touches _ n (by decide) (fun _ =>
      (judgeStandstill_touches _ n).mono (by decide))
  case h_15 => exact onLatestSample_touches _ n (by decide) (fun _ =>
      (judgeSlip_touches _ n).mono (by decide))
  case h_16 => exact .ite (fun _ => (markEdge_touches n).mono (by decide)) (fun _ => idle)
  case h_17 => exact (offer_touches n).mono (by decide)
  case h_18 => exact (loseArbitration_touches n).mono (by decide)
  case h_19 => exact (bitError_touches _ n).mono (by decide)
  case h_20 => exact (sent_touches n).mono (by decide)
  case h_21 => exact (noAck_touches n).mono (by decide)
  case h_22 => exact .ite (fun _ => (complete_touches _ n).mono (by decide)) (fun _ => idle)
  case h_23 => exact .ite (fun _ => (takeError_touches _ n).mono (by decide)) (fun _ => idle)
  case h_24 =>
    exact .ite (fun _ => ((takeOne_touches n).comp (redecide_touches _)).mono (by decide))
      (fun _ => idle)
  case h_25 => exact .ite (fun _ => (queueState_touches _ n).mono (by decide)) (fun _ => idle)
  case h_26 => exact .ite (fun _ => (goStale_touches _ n).mono (by decide)) (fun _ => idle)
  case h_27 => exact .ite (fun _ => (goLost_touches _ n).mono (by decide)) (fun _ => idle)
  case h_28 =>
    split
    · exact .ite (fun _ => (judgeProof_touches _ n).mono (by decide)) (fun _ => idle)
    · exact idle
  case h_29 => exact (rawChange_touches _ _ n).mono (by decide)
  case h_30 => exact .ite (fun _ => (debounce_touches _ n).mono (by decide)) (fun _ => idle)
  case h_31 => exact .ite (fun _ => (dwellExpiry_touches n).mono (by decide)) (fun _ => idle)
  case h_32 => exact .ite (fun _ => (doorCloseTimeout_touches n).mono (by decide)) (fun _ => idle)
  case h_33 => exact .ite (fun _ => (enterDoorClosing_touches n).mono (by decide)) (fun _ => idle)
  case h_34 => exact .ite (fun _ => (torqueTimeout_touches n).mono (by decide)) (fun _ => idle)
  case h_35 => exact .ite (fun _ => (repeatExpiry_touches n).mono (by decide)) (fun _ => idle)
  case h_36 =>
    exact .ite (fun _ => ((judgeHold_touches n).trans (lockClosing_touches _)).mono (by decide))
      (fun _ => idle)
  case h_37 => exact .ite (fun _ => (discardExpiry_touches n).mono (by decide)) (fun _ => idle)
  case h_38 => exact .ite (fun _ => (readerChars_touches _ n).mono (by decide)) (fun _ => idle)
  case h_39 => exact .ite (fun _ => (breakFraming_touches n).mono (by decide)) (fun _ => idle)
  case h_40 => exact .ite (fun _ => (readerChar_touches _ n).mono (by decide)) (fun _ => idle)
  case h_41 => exact .ite (fun _ => (holdTimeout_touches n).mono (by decide)) (fun _ => idle)
  case h_42 => exact .ite (fun _ => (passageTimeout_touches n).mono (by decide)) (fun _ => idle)
  case h_43 =>
    exact .ite (fun _ => fun p hp => by cases p <;> first | rfl | exact absurd (by decide) hp)
      (fun _ => idle)
  case h_44 => exact .ite (fun _ => (expirePassback_touches n).mono (by decide)) (fun _ => idle)
  case h_45 =>
    exact .ite (fun _ => fun p hp => by cases p <;> first | rfl | exact absurd (by decide) hp)
      (fun _ => idle)
  case h_54 => exact fun p hp => by cases p <;> first | rfl | exact absurd (by decide) hp
  case h_55 => exact (busIdle_touches n).mono (by decide)
  all_goals exact (command_touches _ n).mono (by decide)

theorem after_touches {c : Instr} (hc : isResetCommand c = false) (s : State) :
    Touches runParts s (after c s) :=
  ((advance_touches _ s).mono (by decide)).trans (effect_touches hc _)

theorem exec_touches {c : Instr} (hc : isResetCommand c = false) (s : State) :
    Touches runParts s (after c s).settle :=
  (after_touches hc s).trans ((settle_touches _).mono (by decide))

/-- Settles O2: only the reset commands touch more than the parts of a running unit, and they leave the
waiting commands too. -/
theorem everyCommandAnswers : Obligations.EveryCommandAnswers := by
  intro c s
  cases hc : isResetCommand c with
  | false => exact ⟨_, exec_of_not_reset hc s, exec_touches hc s .pending (by decide)⟩
  | true =>
    refine ⟨_, exec_of_reset hc s, ?_⟩
    unfold after effect
    split
    case h_1 | h_4 => rfl
    case h_2 =>
      unfold State.pinRelease
      split <;> rfl
    case h_3 =>
      unfold State.pinActive
      split <;> rfl
    all_goals exact absurd hc Bool.false_ne_true

/-- Settles O1: `step` is the match on the queue that the statement names. -/
theorem stepRunsFront : Obligations.StepRunsFront := by
  refine ⟨fun c rest s hs => ?_, fun s hs => ?_⟩
  · rw [step, hs]
  · rw [step, hs]

/-! ## Commands that only pass time -/

theorem exec_passes {c : Instr} {s : State} (hc : isResetCommand c = false)
    (h : effect c (s.advance (commandTime c)) = s.advance (commandTime c)) :
    ∃ t, exec c s = .next t ∧ SettledFrom (s.advance (commandTime c)) t := exec_settledFrom hc h

theorem onLatestSample_of_not_running {s : State} (h : s.running = false)
    (f : Nat → State → State) : s.onLatestSample f = s := by
  unfold State.onLatestSample
  rw [h]
  split <;> rfl

theorem operating_of_not_running {s : State} (h : s.running = false) : s.operating = false := by
  by_contra hop
  rw [State.operating, Bool.not_eq_false, beq_iff_eq] at hop
  simp [State.running, hop] at h

/-- The blocks that run only in LISTENING, OPERATING and ADDRESS_CONFLICT do nothing outside them (R57, R60,
R183). -/
theorem effect_of_not_running {c : Instr} {n : State} (hrun : n.running = false)
    (hattempt : n.bus.attempt = none) (hc : actsAlways c = false) : effect c n = n := by
  have hlisten : n.phase ≠ .configured .listening := fun h => by simp [State.running, h] at hrun
  have hop := operating_of_not_running hrun
  have hidle : n.busIdle = n := by simp [State.busIdle, hrun]
  cases c <;> try cases hc
  case brakeProofTimerExpiry =>
    simp only [effect, hrun, Bool.false_and]
    split <;> rfl
  all_goals
    simp [effect, hrun, hattempt, hlisten, hop, hidle, onLatestSample_of_not_running hrun, State.offer,
      State.loseArbitration, State.bitError, State.sent, State.noAck, State.receives,
      State.readsReader]

theorem not_reset_of_not_actsAlways {c : Instr} (h : actsAlways c = false) :
    isResetCommand c = false := by cases c <;> first | rfl | cases h

/-- Settles O8. -/
theorem notRunningIgnores : Obligations.NotRunningIgnores := fun c s hrun hattempt hc =>
  exec_passes (not_reset_of_not_actsAlways hc)
    (effect_of_not_running (n := s.advance (commandTime c)) hrun hattempt hc)

/-- Settles O9: each of these commands acts under a test that its timer has fallen due. -/
theorem earlyExpiryPassesTime : Obligations.EarlyExpiryPassesTime := by
  intro dt i k r s n passes
  have pass (c : Instr) (hc : isResetCommand c = false) (ht : commandTime c = dt)
      (h : effect c n = n) : passes c := by
    subst ht
    exact exec_passes hc h
  have proof (h : n.due (s.brake.proof.map (·.due)) = false) :
      effect (.brakeProofTimerExpiry dt) n = n := by
    show (match s.brake.proof with
      | some p => if n.running && decide (p.due ≤ n.clock) then n.judgeProof p else n
      | none => n) = n
    cases hp : s.brake.proof with
    | none => rfl
    | some p =>
      have late : decide (p.due ≤ n.clock) = false := by rw [hp] at h; exact h
      simp only [late, Bool.and_false, Bool.false_eq_true, if_false]
  refine ⟨fun h => pass _ rfl rfl ?_, fun h => pass _ rfl rfl ?_, fun h => pass _ rfl rfl ?_,
    fun h => pass _ rfl rfl (proof h), fun h => pass _ rfl rfl ?_, fun h => pass _ rfl rfl ?_,
    fun h => pass _ rfl rfl ?_, fun h => pass _ rfl rfl ?_, fun h => pass _ rfl rfl ?_,
    fun h => pass _ rfl rfl ?_, fun h => pass _ rfl rfl ?_, fun h => pass _ rfl rfl ?_,
    fun h => pass _ rfl rfl ?_, fun h => pass _ rfl rfl ?_, fun h => pass _ rfl rfl ?_,
    fun h => pass _ rfl rfl ?_⟩
  all_goals
    change (if _ then _ else _) = _
    refine if_neg (Bool.not_eq_true _ ▸ ?_)
    first
      | exact (congrArg (_ && ·) h).trans (Bool.and_false _)
      | exact h

end Sys2Proof.Machine
end


section
/-! # The bounds of the queue, the buffers, the lists and the counts (O4)

One lemma for each primitive operation on a bounded part; every other operation leaves those parts alone. -/

namespace Sys2Proof.Machine

open Sys2Proof

/-- The parts that the bounds speak of. -/
def boundedParts : List Part := [.queue, .rx, .records, .passback, .counts, .peers]

theorem BoundsLaw.of_touches {X : List Part} {s t : State} (h : BoundsLaw s) (ht : Touches X s t)
    (hX : ∀ p ∈ boundedParts, p ∉ X := by decide) : BoundsLaw t := by
  have keep (p : Part) (hp : p ∈ boundedParts := by decide) : p.of t = p.of s := ht p (hX p hp)
  have queue : t.bus.queue = s.bus.queue := congrArg Prod.fst (keep .queue)
  obtain ⟨hq, hrx, hrec, hpass, hcount, hpeer⟩ := h
  refine ⟨?_, ?_, ?_, ?_, ?_, ?_⟩
  · unfold QueueLaw; rw [queue]; exact hq
  · unfold BufferLaw; rw [show t.bus.rx = s.bus.rx from keep .rx]; exact hrx
  · unfold RecordLaw; rw [show t.brake.records = s.brake.records from keep .records]; exact hrec
  · unfold PassbackLaw; rw [show t.gate.passback = s.gate.passback from keep .passback]; exact hpass
  · rw [show t.counts = s.counts from keep .counts]; exact hcount
  · rw [show t.peers = s.peers from keep .peers]; exact hpeer

/-! ## The transmit queue (R47 to R51) -/

/-- What the law of the queue says of the frames' contents, in order. -/
def QueueOrder (l : List Payload) : Prop :=
  l.length ≤ 8 ∧ (l.filter (fun p => p.cls == .safety)).length ≤ 1 ∧
    l.Pairwise (fun p q => p.cls.code ≤ q.cls.code)

theorem queueLaw_iff (s : State) : QueueLaw s ↔ QueueOrder (s.bus.queue.map (·.payload)) := by
  simp only [QueueLaw, QueueOrder, List.length_map, List.pairwise_map, List.filter_map]
  rfl

theorem QueueOrder.sublist {l m : List Payload} (h : QueueOrder m) (hl : l.Sublist m) :
    QueueOrder l := by
  obtain ⟨hlen, hone, hord⟩ := h
  exact ⟨hl.length_le.trans hlen, (hl.filter _).length_le.trans hone, hord.sublist hl⟩

theorem cls_code_le (p : Payload) : p.cls.code ≤ 2 := by
  cases p.cls <;> decide

theorem QueueOrder.append_state {l : List Payload} {p : Payload} (h : QueueOrder l)
    (hl : l.length < 8) (hp : p.cls = .state) : QueueOrder (l ++ [p]) := by
  obtain ⟨-, hone, hord⟩ := h
  refine ⟨?_, ?_, List.pairwise_append.mpr ⟨hord, List.pairwise_singleton _ _, fun a _ b hb => ?_⟩⟩
  · rw [List.length_append]
    exact hl
  · rw [List.filter_append]
    simpa [hp] using hone
  · rw [List.mem_singleton.mp hb, hp]
    exact cls_code_le a

theorem QueueOrder.cons_order {l : List Payload} {p : Payload} (h : QueueOrder l)
    (hl : l.length < 8) (hnone : ∀ q ∈ l, (q.cls == .safety) = false) (hp : p.cls = .safety) :
    QueueOrder (p :: l) := by
  obtain ⟨-, -, hord⟩ := h
  refine ⟨hl, ?_, List.pairwise_cons.mpr ⟨fun q _ => ?_, hord⟩⟩
  · rw [List.filter_cons_of_pos (by simp [hp]), List.filter_eq_nil_iff.mpr (by simpa using hnone)]
    exact Nat.le_refl 1
  · rw [hp]
    exact Nat.zero_le _

/-- Frames replaced by frames of the same class leave the law. -/
theorem QueueOrder.replace {l m : List Payload} (h : QueueOrder l)
    (hm : m.map (·.cls) = l.map (·.cls)) : QueueOrder m := by
  have count (l : List Payload) : (l.filter (fun p => p.cls == .safety)).length =
      ((l.map (·.cls)).filter (· == .safety)).length := by
    rw [List.filter_map, List.length_map]; rfl
  have order (l : List Payload) : l.Pairwise (fun p q => p.cls.code ≤ q.cls.code) ↔
      (l.map (·.cls)).Pairwise (fun a b => a.code ≤ b.code) := by rw [List.pairwise_map]
  obtain ⟨hlen, hone, hord⟩ := h
  refine ⟨?_, ?_, ?_⟩
  · rw [← List.length_map (f := (·.cls)), hm, List.length_map]; exact hlen
  · rw [count, hm, ← count]; exact hone
  · rw [order, hm, ← order]; exact hord

/-- A CONTROL frame before the first STATE frame keeps the order. -/
theorem QueueOrder.insert_control {l m : List Payload} {p : Payload} (h : QueueOrder (l ++ m))
    (hlen : (l ++ m).length < 8) (hl : ∀ q ∈ l, q.cls ≠ .state) (hm : ∀ q ∈ m.head?, q.cls = .state)
    (hp : p.cls = .control) : QueueOrder (l ++ p :: m) := by
  obtain ⟨-, hone, hord⟩ := h
  rw [List.pairwise_append] at hord
  obtain ⟨hleft, hright, hcross⟩ := hord
  refine ⟨by simp at hlen ⊢; omega, ?_, ?_⟩
  · simpa [List.filter_append, List.filter_cons, hp] using hone
  have before : ∀ a ∈ l, a.cls.code ≤ 1 := fun a ha => by
    have := hl a ha
    revert this
    cases a.cls <;> decide
  have behind : ∀ b ∈ m, 2 ≤ b.cls.code := fun b hb => by
    cases m with
    | nil => cases hb
    | cons c m =>
      have hc : c.cls.code = 2 := by rw [hm c rfl]; rfl
      rcases List.mem_cons.mp hb with rfl | hb
      · exact hc.ge
      · exact hc ▸ (List.pairwise_cons.mp hright).1 b hb
  have hcode : p.cls.code = 1 := by rw [hp]; rfl
  refine List.pairwise_append.mpr ⟨hleft, List.pairwise_cons.mpr ⟨fun b hb => ?_, hright⟩,
    fun a ha b hb => ?_⟩
  · rw [hcode]
    exact (behind b hb).trans' (by decide)
  · rcases List.mem_cons.mp hb with rfl | hb
    · rw [hcode]
      exact before a ha
    · exact hcross a ha b hb

/-- The frame that `eraseP` finds makes room for one more. -/
theorem length_eraseP_lt {q : List TxFrame} {f : TxFrame → Bool} (h : q.any f = true)
    (hq : q.length ≤ 8) : (q.eraseP f).length < 8 := by
  rw [List.length_eraseP, if_pos h]
  obtain ⟨g, hg, -⟩ := List.any_eq_true.mp h
  have := List.length_pos_of_mem hg
  omega

theorem insertControl_payloads (f : TxFrame) (q : List TxFrame) :
    QueueOrder (q.map (·.payload)) → q.length < 8 → f.payload.cls = .control →
    QueueOrder ((insertControl f q).map (·.payload)) := by
  intro h hlen hf
  have split := List.takeWhile_append_dropWhile (p := fun g : TxFrame => !g.isState) (l := q)
  unfold insertControl
  rw [List.map_append, List.map_cons]
  refine QueueOrder.insert_control ?_ ?_ ?_ ?_ hf
  · rw [← List.map_append, split]; exact h
  · rw [← List.map_append, split, List.length_map]; exact hlen
  · intro p hp
    obtain ⟨g, hg, rfl⟩ := List.mem_map.mp hp
    have := List.mem_takeWhile_imp hg
    simpa [TxFrame.isState] using this
  · intro p hp
    rw [List.head?_map] at hp
    obtain ⟨g, hg, rfl⟩ := Option.mem_map.mp hp
    have := List.head?_dropWhile_not (fun g : TxFrame => !g.isState) q
    rw [Option.mem_def.mp hg] at this
    simpa [TxFrame.isState] using this

/-- The law of the queue where the queue takes a given form. -/
theorem queueLaw_setQueue {q : List TxFrame} {k : FrameKind} {s : State}
    (h : QueueOrder (q.map (·.payload))) : QueueLaw (s.setQueue q k) := (queueLaw_iff _).mpr h

theorem QueueLaw.of_queue_eq {s t : State} (h : QueueLaw s) (ht : t.bus.queue = s.bus.queue) :
    QueueLaw t := by unfold QueueLaw; rw [ht]; exact h

theorem enqueueState_queueLaw {s : State} {p : Payload} (h : QueueLaw s) (hp : p.cls = .state) :
    QueueLaw (s.enqueueState p) := by
  have hq := (queueLaw_iff s).mp h
  unfold State.enqueueState
  dsimp only
  split
  · refine queueLaw_setQueue (hq.replace ?_)
    simp only [List.map_map]
    refine List.map_congr_left fun g _ => ?_
    by_cases hg : g.payload.kind = p.kind
    · simp [hg, Payload.cls, State.newFrame]
    · simp [hg]
  · split
    next hroom =>
      refine queueLaw_setQueue ?_
      rw [List.map_append]
      exact hq.append_state ((List.length_map _).trans_lt hroom) hp
    next =>
      split
      next hstate =>
        refine (queueLaw_setQueue (k := p.kind) ?_).of_queue_eq rfl
        rw [List.map_append]
        refine (hq.sublist (List.eraseP_sublist.map _)).append_state ?_ hp
        rw [List.length_map]
        exact length_eraseP_lt hstate h.1
      next => exact h.of_queue_eq rfl

theorem enqueueControl_queueLaw {s : State} {p : Payload} (h : QueueLaw s) (hp : p.cls = .control) :
    QueueLaw (s.enqueueControl p) := by
  have hq := (queueLaw_iff s).mp h
  unfold State.enqueueControl
  dsimp only
  split
  · exact h.of_queue_eq (tellNotSent_touches p s).queue_eq
  · split
    next hroom => exact queueLaw_setQueue (insertControl_payloads _ _ hq hroom hp)
    next =>
      split
      next hstate =>
        refine (queueLaw_setQueue (k := p.kind) (insertControl_payloads _ _ ?_ ?_ hp)).of_queue_eq rfl
        · exact hq.sublist (List.eraseP_sublist.map _)
        · exact length_eraseP_lt hstate h.1
      next => exact h.of_queue_eq (tellNotSent_touches p _).queue_eq

theorem enqueueOrder_queueLaw {s : State} {p : Payload} (h : QueueLaw s) (hp : p.cls = .safety) :
    QueueLaw (s.enqueueOrder p) := by
  have hq := (queueLaw_iff s).mp h
  unfold State.enqueueOrder
  dsimp only
  split
  next o ho =>
    split
    · refine queueLaw_setQueue (hq.replace ?_)
      simp only [List.map_map]
      refine List.map_congr_left fun g _ => ?_
      by_cases hg : g.isOrder = true
      · have : g.payload.cls = .safety := by simpa [TxFrame.isOrder] using hg
        simp [hg, this, State.newFrame, hp]
      · simp [hg]
    · exact h
  next hno =>
    have none_is_order (l : List TxFrame) (hl : l.Sublist s.bus.queue) :
        ∀ q ∈ l.map (·.payload), (q.cls == .safety) = false := by
      intro q hqm
      obtain ⟨g, hg, rfl⟩ := List.mem_map.mp hqm
      simpa [TxFrame.isOrder] using List.find?_eq_none.mp hno g (hl.subset hg)
    have room (f : TxFrame → Bool) (hf : s.bus.queue.any f = true) :
        QueueOrder ((s.newFrame p :: s.bus.queue.eraseP f).map (·.payload)) := by
      rw [List.map_cons]
      refine (hq.sublist (List.eraseP_sublist.map _)).cons_order ?_
        (none_is_order _ List.eraseP_sublist) hp
      rw [List.length_map]
      exact length_eraseP_lt hf h.1
    split
    next hroom =>
      refine queueLaw_setQueue ?_
      rw [List.map_cons]
      exact hq.cons_order ((List.length_map _).trans_lt hroom) (none_is_order _ (List.Sublist.refl _)) hp
    next =>
      split
      next hstate => exact (queueLaw_setQueue (k := p.kind) (room _ hstate)).of_queue_eq rfl
      next =>
        split
        next c hc =>
          have := queueLaw_setQueue (k := p.kind) (s := s)
            (room _ (List.any_eq_true.mpr ⟨c, List.mem_of_find?_eq_some hc, List.find?_some hc⟩))
          exact this.of_queue_eq (tellNotSent_touches _ _).queue_eq
        next => exact h

theorem enqueue_queueLaw {s : State} {p : Payload} (h : QueueLaw s) : QueueLaw (s.enqueue p) := by
  unfold State.enqueue
  split
  · split
    next hp => exact enqueueState_queueLaw h hp
    next hp => exact enqueueControl_queueLaw h hp
    next hp => exact enqueueOrder_queueLaw h hp
  · exact h

/-! ## Counts -/

theorem CountLaw.bump {s : State} (h : CountLaw s) (c : Count) : CountLaw (s.bump c) :=
  ⟨bump_counts_le s c h.1, h.2⟩

theorem CountLaw.of_eq {s t : State} (h : CountLaw s) (hc : t.counts = s.counts)
    (hp : t.peers = s.peers) : CountLaw t := by unfold CountLaw; rw [hc, hp]; exact h

theorem tellNotSent_countLaw {s : State} (h : CountLaw s) (p : Payload) :
    CountLaw (s.tellNotSent p) := by
  unfold State.tellNotSent
  split
  · split
    · split
      · exact CountLaw.bump (s := { s with trip := _ }) h _
      · exact h
    · exact h
  · exact h.bump _
  · exact h.bump _
  · exact h

theorem setQueue_countLaw {s : State} (h : CountLaw s) (q : List TxFrame) (k : FrameKind) :
    CountLaw (s.setQueue q k) := h

theorem enqueue_countLaw {s : State} (h : CountLaw s) (p : Payload) : CountLaw (s.enqueue p) := by
  unfold State.enqueue
  split
  · split
    · unfold State.enqueueState
      dsimp only
      split
      · exact h
      · split
        · exact h
        · split
          · exact (setQueue_countLaw h _ _).bump _
          · exact h.bump _
    · unfold State.enqueueControl
      dsimp only
      split
      · exact tellNotSent_countLaw h p
      · split
        · exact h
        · split
          · exact (setQueue_countLaw h _ _).bump _
          · exact tellNotSent_countLaw (h.bump _) p
    · unfold State.enqueueOrder
      dsimp only
      split
      · split
        · exact h
        · exact h
      · split
        · exact h
        · split
          · exact (setQueue_countLaw h _ _).bump _
          · split
            · exact tellNotSent_countLaw ((setQueue_countLaw h _ _).bump _) _
            · exact h
  · exact h

/-! ## The bounds together, for each primitive operation -/

namespace BoundsLaw

variable {s t : State}

theorem bump (h : BoundsLaw s) (c : Count) : BoundsLaw (s.bump c) := by
  obtain ⟨hq, hrx, hrec, hpass, hcount⟩ := h
  exact ⟨hq, hrx, hrec, hpass, hcount.bump c⟩

theorem tellNotSent (h : BoundsLaw s) (p : Payload) : BoundsLaw (s.tellNotSent p) := by
  obtain ⟨hq, hrx, hrec, hpass, hcount⟩ := h
  have rest := BoundsLaw.of_touches (t := { s.tellNotSent p with counts := s.counts })
    ⟨hq, hrx, hrec, hpass, hcount⟩ (X := [.requeue]) (fun q hq => by
      rw [tellNotSent_frame]
      cases q <;> first | rfl | exact absurd (by decide) hq)
  obtain ⟨hq', hrx', hrec', hpass', -⟩ := rest
  exact ⟨hq', hrx', hrec', hpass', tellNotSent_countLaw hcount p⟩

theorem enqueue (h : BoundsLaw s) (p : Payload) : BoundsLaw (s.enqueue p) := by
  have ht := enqueue_touches p s
  obtain ⟨hq, hrx, hrec, hpass, hcount⟩ := h
  refine ⟨enqueue_queueLaw hq, ?_, ?_, ?_, enqueue_countLaw hcount p⟩
  · unfold BufferLaw; rw [ht.rx_eq]; exact hrx
  · unfold RecordLaw; rw [show (s.enqueue p).brake.records = s.brake.records from ht .records (by decide)]
    exact hrec
  · unfold PassbackLaw
    rw [show (s.enqueue p).gate.passback = s.gate.passback from ht .passback (by decide)]
    exact hpass

/-- A change of the queue alone that leaves no frame out of order. -/
theorem setBusQueue (h : BoundsLaw s) (q : List TxFrame)
    (hq : QueueOrder (q.map (·.payload))) (ht : Touches [.queue, .attempt, .abortPlaced] s t)
    (hqt : t.bus.queue = q) : BoundsLaw t := by
  obtain ⟨-, hrx, hrec, hpass, hcount⟩ := h
  refine ⟨(queueLaw_iff t).mpr (hqt ▸ hq), ?_, ?_, ?_, hcount.of_eq ht.counts_eq ht.peers_eq⟩
  · unfold BufferLaw; rw [ht.rx_eq]; exact hrx
  · unfold RecordLaw; rw [show t.brake.records = s.brake.records from ht .records (by decide)]
    exact hrec
  · unfold PassbackLaw; rw [show t.gate.passback = s.gate.passback from ht .passback (by decide)]
    exact hpass

theorem queueOrder (h : BoundsLaw s) : QueueOrder (s.bus.queue.map (·.payload)) :=
  (queueLaw_iff s).mp h.1

theorem queueState (h : BoundsLaw s) (k : StateKind) : BoundsLaw (s.queueState k) :=
  (h.enqueue (s.stateContent k)).of_touches (X := [.periods]) (fun p hp => by
    cases p <;> first | rfl | exact absurd (by decide) hp)

theorem foldl {α : Type} {f : State → α → State} (h : BoundsLaw s)
    (hf : ∀ x a, BoundsLaw x → BoundsLaw (f x a)) (l : List α) : BoundsLaw (l.foldl f s) := by
  induction l generalizing s with
  | nil => exact h
  | cons a l ih => exact ih (hf s a h)

theorem queueAllStates (h : BoundsLaw s) : BoundsLaw s.queueAllStates :=
  h.foldl (fun _ k hx => hx.queueState k) _

theorem settle (h : BoundsLaw s) : BoundsLaw s.settle := by
  have queued : BoundsLaw (if s.running then s.queueChangedStates else s) := by
    split
    · refine h.foldl (fun x k hx => ?_) _
      split
      · exact hx.queueState k
      · exact hx
    · exact h
  exact queued.of_touches (X := [.demands, .outputs]) (fun p hp => by
    cases p <;> first | rfl | exact absurd (by decide) hp)

theorem writeRecord (h : BoundsLaw s) (c : Cause) (level : Nat) :
    BoundsLaw (s.writeRecord c level) := by
  obtain ⟨hq, hrx, -, hpass, hcount⟩ := h
  exact ⟨hq, hrx, writeRecord_length c level s, hpass, hcount⟩

theorem passback (h : BoundsLaw s) (x : Nat) (source : PassbackSource) :
    BoundsLaw (s.passback x source) := by
  obtain ⟨hq, hrx, hrec, ⟨hlen, hnodup⟩, hcount⟩ := h
  exact ⟨hq, hrx, hrec, ⟨addPassback_length _ _ _ _ hlen, addPassback_nodup _ _ _ _ hnodup⟩, hcount⟩

/-- Entries that leave the passback list. -/
theorem filterPassback (h : BoundsLaw s) (keep : PassbackEntry → Bool) :
    BoundsLaw (s.setGate (fun g => { g with passback := g.passback.filter keep })) := by
  obtain ⟨hq, hrx, hrec, ⟨hlen, hnodup⟩, hcount⟩ := h
  exact ⟨hq, hrx, hrec, ⟨(List.length_filter_le _ _).trans hlen,
    hnodup.sublist (List.filter_sublist.map _)⟩, hcount⟩

/-- A change of the receive buffer alone. -/
theorem setRx (h : BoundsLaw s) (l : List Frame) (hl : l.length ≤ 16) :
    BoundsLaw { s with bus := { s.bus with rx := l } } := by
  obtain ⟨hq, -, hrec, hpass, hcount⟩ := h
  exact ⟨hq, hl, hrec, hpass, hcount⟩

/-- A change of the peer view alone. -/
theorem setPeers (h : BoundsLaw s) (l : List PeerEntry) (hl : ∀ e ∈ l, e.rejoins ≤ 65535) :
    BoundsLaw { s with peers := l } := by
  obtain ⟨hq, hrx, hrec, hpass, hcount, -⟩ := h
  exact ⟨hq, hrx, hrec, hpass, hcount, hl⟩

theorem rejoins (h : BoundsLaw s) : ∀ e ∈ s.peers, e.rejoins ≤ 65535 := h.2.2.2.2.2

theorem setEntry (h : BoundsLaw s) (a : Nat) (f : PeerEntry → PeerEntry)
    (hf : ∀ e, e.rejoins ≤ 65535 → (f e).rejoins ≤ 65535) : BoundsLaw (s.setEntry a f) := by
  refine h.setPeers _ fun e he => ?_
  obtain ⟨i, hi, rfl⟩ := List.mem_iff_getElem.mp he
  rw [List.getElem_modify]
  have bound := h.rejoins _ (List.getElem_mem (l := s.peers) (n := i) (by simpa using hi))
  split
  · exact hf _ bound
  · exact bound

theorem removeOnBus (h : BoundsLaw s) : BoundsLaw s.removeOnBus :=
  h.setBusQueue _ (h.queueOrder.sublist (List.eraseP_sublist.map _))
    ((removeOnBus_touches s).mono (by decide)) rfl

theorem endAttempt (h : BoundsLaw s) : BoundsLaw s.endAttempt :=
  h.setBusQueue (s.bus.queue.map _) (by rw [List.map_map]; exact h.queueOrder)
    ((endAttempt_touches s).mono (by decide)) rfl

/-- The queue with the count of failed attempts raised for the frame on the bus. -/
theorem countFailed (h : BoundsLaw s) : BoundsLaw (s.setBus (fun b => { b with
    queue := b.queue.map (fun g => if g.onBus then { g with failed := g.failed + 1 } else g) })) := by
  refine h.setBusQueue (s.bus.queue.map _) ?_ ((setQueueOnly_touches (fun b => b.queue.map (fun g =>
    if g.onBus then { g with failed := g.failed + 1 } else g)) s).mono (by decide)) rfl
  rw [List.map_map, List.map_congr_left (g := (·.payload)) fun g _ => by
    show (if g.onBus then { g with failed := g.failed + 1 } else g).payload = g.payload
    split <;> rfl]
  exact h.queueOrder

theorem offerHead (h : BoundsLaw s) : BoundsLaw s.offerHead := by
  refine h.setBusQueue s.offerHead.bus.queue ?_ (offerHead_touches s) rfl
  have hq := h.queueOrder
  unfold State.offerHead
  split
  · exact hq
  next f rest heq =>
    rw [heq] at hq
    exact hq

theorem filterQueue (h : BoundsLaw s) (keep : TxFrame → Bool) :
    BoundsLaw (s.setBus (fun b => { b with queue := b.queue.filter keep })) :=
  h.setBusQueue (s.bus.queue.filter keep) (h.queueOrder.sublist (List.filter_sublist.map _))
    ((setQueueOnly_touches (fun b => b.queue.filter keep) s).mono (by decide)) rfl

end BoundsLaw

end Sys2Proof.Machine
end


section
/-! # The levels of the brake block, and what a part of a step keeps (O4, O5)

`BrakeMid` is what holds of the brake block within a command, while a demand may be latched that has not been
judged. `Keeps R L s t` says that a part of a command which leads from `s` to `t` keeps the bounds and the
levels; `R` says that a BRAKE RESET may be accepted in it, `L` that a demand may be latched and not yet
judged. -/

namespace Sys2Proof.Machine

open Sys2Proof

/-! ## The greatest of a list -/

theorem foldl_max_le_iff {α : Type} (f : α → Nat) (l : List α) (a n : Nat) :
    l.foldl (fun m d => max m (f d)) a ≤ n ↔ a ≤ n ∧ ∀ d ∈ l, f d ≤ n := by
  induction l generalizing a with
  | nil => simp
  | cons d l ih => simp [ih, and_assoc]

theorem highestOwn_le_iff (s : State) (n : Nat) :
    s.highestOwn ≤ n ↔ ∀ d ∈ s.brake.demands, d.level ≤ n := by
  rw [State.highestOwn, foldl_max_le_iff]
  simp

theorem highestHeard_le_iff (s : State) (n : Nat) :
    s.highestHeard ≤ n ↔ ∀ r ∈ s.brake.rows, max r.order r.announced ≤ n := by
  rw [State.highestHeard, foldl_max_le_iff]
  simp

theorem latch_highestOwn_le (c : Cause) (level : Nat) (s : State) :
    s.highestOwn ≤ (s.latch c level).highestOwn := by
  rw [highestOwn_le_iff]
  intro d hd
  obtain ⟨i, hi, rfl⟩ := List.mem_iff_getElem.mp hd
  have hi' : i < (s.latch c level).brake.demands.length := by
    rw [show (s.latch c level).brake.demands.length = s.brake.demands.length from
      List.length_modify ..]
    exact hi
  have raised : s.brake.demands[i].level ≤ ((s.latch c level).brake.demands[i]).level := by
    have demands : (s.latch c level).brake.demands = s.brake.demands.modify (causeCode c - 1)
        (fun d => { d with level := max d.level level }) := rfl
    rw [List.getElem_of_eq demands, List.getElem_modify]
    split
    · exact Nat.le_max_left _ _
    · exact Nat.le_refl _
  exact raised.trans ((highestOwn_le_iff _ _).mp (Nat.le_refl _) _ (List.getElem_mem hi'))

theorem syncPresence_levels {s : State} (h : s.brake.demands.length = 20) :
    s.syncPresence.brake.demands.map (·.level) = s.brake.demands.map (·.level) := by
  refine List.ext_getElem ?_ fun i h1 h2 => ?_
  · simp [h, demandCauses]
  · simp

theorem highestOwn_of_levels {s t : State}
    (h : t.brake.demands.map (·.level) = s.brake.demands.map (·.level)) :
    t.highestOwn = s.highestOwn := by
  have own (x : State) : x.highestOwn = (x.brake.demands.map (·.level)).foldl max 0 := by
    rw [List.foldl_map]; rfl
  rw [own, own, h]

theorem releaseAbsent_highestOwn_le {s : State} (h : s.brake.demands.length = 20) :
    s.releaseAbsent.highestOwn ≤ s.highestOwn := by
  rw [← highestOwn_of_levels (syncPresence_levels h), highestOwn_le_iff]
  intro d hd
  obtain ⟨e, he, rfl⟩ := List.mem_map.mp hd
  split
  · exact (highestOwn_le_iff _ _).mp (Nat.le_refl _) e he
  · exact Nat.zero_le _

/-! ## The levels within a command -/

/-- The brake block within a command: what is judged lags behind what is latched, and the effective level
lies between what is judged and what it would be formed to. -/
def BrakeMid (s : State) : Prop :=
  s.brake.demands.length = 20 ∧ s.brake.rows.length = 32 ∧ s.brake.judged ≤ s.highestOwn ∧
    max s.brake.judged s.highestHeard ≤ s.brake.effective ∧ s.brake.effective ≤ s.formedLevel

theorem BrakeLaw.mid {s : State} (h : BrakeLaw s) : BrakeMid s := by
  obtain ⟨hd, hr, hj, -, he⟩ := h
  exact ⟨hd, hr, hj.le, by rw [he, hj]; exact Nat.le_refl _, he.le⟩

/-- The parts that hold what the levels are formed from. -/
def levelSources : List Part := [.demands, .rows, .judged, .effective]

theorem BrakeMid.of_touches {X : List Part} {s t : State} (h : BrakeMid s) (ht : Touches X s t)
    (hX : ∀ p ∈ levelSources, p ∉ X) : BrakeMid t := by
  have demands : t.brake.demands = s.brake.demands := ht .demands (hX _ (by decide))
  have rows : t.brake.rows = s.brake.rows := ht .rows (hX _ (by decide))
  have judged : t.brake.judged = s.brake.judged :=
    congrArg Prod.fst (ht .judged (hX _ (by decide)))
  have effective : t.brake.effective = s.brake.effective := ht .effective (hX _ (by decide))
  have own : t.highestOwn = s.highestOwn := by unfold State.highestOwn; rw [demands]
  have heard : t.highestHeard = s.highestHeard := by unfold State.highestHeard; rw [rows]
  unfold BrakeMid State.formedLevel
  rw [demands, rows, judged, effective, own, heard]
  exact h

theorem BrakeLaw.of_touches {X : List Part} {s t : State} (h : BrakeLaw s) (ht : Touches X s t)
    (hX : ∀ p ∈ levelSources, p ∉ X) : BrakeLaw t := by
  have demands : t.brake.demands = s.brake.demands := ht .demands (hX _ (by decide))
  have rows : t.brake.rows = s.brake.rows := ht .rows (hX _ (by decide))
  have judged := ht .judged (hX _ (by decide))
  have effective : t.brake.effective = s.brake.effective := ht .effective (hX _ (by decide))
  have own : t.highestOwn = s.highestOwn := by unfold State.highestOwn; rw [demands]
  have heard : t.highestHeard = s.highestHeard := by unfold State.highestHeard; rw [rows]
  unfold BrakeLaw State.formedLevel
  rw [demands, rows, show t.brake.judged = s.brake.judged from congrArg Prod.fst judged,
    show t.brake.raised = s.brake.raised from congrArg Prod.snd judged, effective, own, heard]
  exact h

theorem BrakeMid.latch {s : State} (h : BrakeMid s) (c : Cause) (level : Nat) :
    BrakeMid (s.latch c level) := by
  obtain ⟨hd, hr, hj, hlow, hhigh⟩ := h
  have own := latch_highestOwn_le c level s
  refine ⟨(List.length_modify ..).trans hd, hr, hj.trans own, hlow, hhigh.trans ?_⟩
  exact max_le_max own (Nat.le_refl _)

theorem syncPresence_formedLevel {s : State} (h : s.brake.demands.length = 20) :
    s.syncPresence.formedLevel = s.formedLevel :=
  congrArg (max · s.highestHeard) (highestOwn_of_levels (syncPresence_levels h))

theorem syncPresence_length (s : State) (h : s.brake.demands.length = 20) :
    s.syncPresence.brake.demands.length = 20 := by
  rw [State.syncPresence_brake]
  simp [h, demandCauses]

theorem BrakeMid.syncPresence {s : State} (h : BrakeMid s) : BrakeMid s.syncPresence := by
  obtain ⟨hd, hr, hj, hlow, hhigh⟩ := h
  have own := highestOwn_of_levels (syncPresence_levels hd)
  refine ⟨syncPresence_length s hd, hr, ?_, hlow, ?_⟩
  · rw [own]; exact hj
  · rw [syncPresence_formedLevel hd]; exact hhigh

theorem BrakeLaw.syncPresence {s : State} (h : BrakeLaw s) : BrakeLaw s.syncPresence := by
  obtain ⟨hd, hr, hj, hraised, he⟩ := h
  have own := highestOwn_of_levels (syncPresence_levels hd)
  refine ⟨syncPresence_length s hd, hr, ?_, hraised, ?_⟩
  · rw [own]; exact hj
  · rw [syncPresence_formedLevel hd]; exact he

/-- What forming the level anew leaves of the sources of the level (R105). -/
theorem reform_sources (s : State) : s.reform.brake.demands = s.brake.demands ∧
    s.reform.brake.rows = s.brake.rows ∧ s.reform.brake.judged = s.brake.judged ∧
    s.reform.brake.raised = s.brake.raised := by
  have ht := reform_touches s
  have judged := ht .judged (by decide)
  exact ⟨ht .demands (by decide), ht .rows (by decide), congrArg Prod.fst judged,
    congrArg Prod.snd judged⟩

/-- Received levels that do not fall, and the level formed anew (R104, R105). -/
theorem reform_after_rows {s x : State} (rows : List LevelRow)
    (hx : x.brake.demands = s.brake.demands ∧ x.brake.rows = rows ∧
      x.brake.judged = s.brake.judged ∧ x.brake.raised = s.brake.raised)
    (hlen : rows.length = s.brake.rows.length) (hup : s.highestHeard ≤ x.highestHeard) :
    (BrakeMid s → BrakeMid x.reform) ∧ (BrakeLaw s → BrakeLaw x.reform) ∧
      (BrakeMid s → s.brake.effective ≤ x.reform.brake.effective) := by
  obtain ⟨hd, hr, hj, hraised⟩ := reform_sources x
  obtain ⟨xd, xr, xj, xraised⟩ := hx
  have own : x.highestOwn = s.highestOwn := by unfold State.highestOwn; rw [xd]
  have own' : x.reform.highestOwn = x.highestOwn := by unfold State.highestOwn; rw [hd]
  have formed := (reform_levelFrame x).formedLevel
  have above : s.formedLevel ≤ x.formedLevel := max_le_max own.ge hup
  have heard : x.reform.highestHeard = x.highestHeard := by unfold State.highestHeard; rw [hr]
  refine ⟨fun h => ?_, fun h => ?_, fun h => ?_⟩
  · obtain ⟨sd, sr, sj, slow, shigh⟩ := h
    refine ⟨by rw [hd, xd, sd], by rw [hr, xr, hlen, sr], ?_, ?_, ?_⟩
    · rw [hj, xj, own', own]; exact sj
    · rw [reform_effective, heard, hj, xj]
      refine max_le ?_ (Nat.le_max_right _ _)
      exact sj.trans (own.ge.trans (Nat.le_max_left _ _))
    · rw [reform_effective, formed]
  · obtain ⟨sd, sr, sj, sraised, she⟩ := h
    exact ⟨by rw [hd, xd, sd], by rw [hr, xr, hlen, sr], by rw [hj, xj, own', own]; exact sj,
      by rw [hraised, xraised, sraised], by rw [reform_effective, formed]⟩
  · obtain ⟨-, -, -, -, shigh⟩ := h
    rw [reform_effective]
    exact shigh.trans above

theorem highestHeard_modify_le {s x : State} (addr : Nat) (f : LevelRow → LevelRow)
    (hx : x.brake.rows = s.brake.rows.modify addr f)
    (hf : ∀ r, max r.order r.announced ≤ max (f r).order (f r).announced) :
    s.highestHeard ≤ x.highestHeard := by
  rw [highestHeard_le_iff]
  intro r hr
  obtain ⟨i, hi, rfl⟩ := List.mem_iff_getElem.mp hr
  have hi' : i < x.brake.rows.length := by rw [hx, List.length_modify]; exact hi
  have grown : max s.brake.rows[i].order s.brake.rows[i].announced ≤
      max x.brake.rows[i].order x.brake.rows[i].announced := by
    rw [List.getElem_of_eq hx, List.getElem_modify]
    split
    · exact hf _
    · exact Nat.le_refl _
  exact grown.trans ((highestHeard_le_iff _ _).mp (Nat.le_refl _) _ (List.getElem_mem hi'))

/-! ## Judging a rise (R100) -/

/-- The state in which the rise is judged, before the level is formed. -/
theorem judgeRise_sources (s : State) :
    s.judgeRise.brake.demands = s.brake.demands ∧ s.judgeRise.brake.rows = s.brake.rows ∧
      s.judgeRise.brake.judged = s.highestOwn ∧ s.judgeRise.brake.raised = [] ∧
      s.judgeRise.brake.effective =
        if s.brake.judged < s.highestOwn then s.formedLevel else s.brake.effective := by
  have risen (x : State) (hx : Touches [.queue, .requeue, .counts, .records]
      (s.setBrake ({ · with judged := s.highestOwn, raised := [] })) x) :
      x.reform.brake.demands = s.brake.demands ∧ x.reform.brake.rows = s.brake.rows ∧
      x.reform.brake.judged = s.highestOwn ∧ x.reform.brake.raised = [] ∧
      x.reform.brake.effective = s.formedLevel := by
    obtain ⟨hd, hr, hj, hraised⟩ := reform_sources x
    have xd : x.brake.demands = s.brake.demands := hx .demands (by decide)
    have xr : x.brake.rows = s.brake.rows := hx .rows (by decide)
    have xj := hx .judged (by decide)
    refine ⟨hd.trans xd, hr.trans xr, hj.trans (congrArg Prod.fst xj),
      hraised.trans (congrArg Prod.snd xj), ?_⟩
    rw [reform_effective]
    unfold State.formedLevel State.highestOwn State.highestHeard
    rw [xd, xr]
  unfold State.judgeRise
  dsimp only
  split
  next =>
    split
    · exact risen _ (((queueOrder_touches _ _ _).comp (writeRecord_touches _ _ _)).mono (by decide))
    · exact risen _ (.refl _ _)
  next => exact ⟨rfl, rfl, rfl, rfl, rfl⟩

/-- After the rise is judged the levels are those that BrakeLaw states. -/
theorem judgeRise_brakeLaw {s : State} (h : BrakeMid s) : BrakeLaw s.judgeRise := by
  obtain ⟨sd, sr, sj, slow, shigh⟩ := h
  obtain ⟨hd, hr, hj, hraised, he⟩ := judgeRise_sources s
  have own : s.judgeRise.highestOwn = s.highestOwn := by unfold State.highestOwn; rw [hd]
  have heard : s.judgeRise.highestHeard = s.highestHeard := by unfold State.highestHeard; rw [hr]
  refine ⟨hd ▸ sd, hr ▸ sr, hj.trans own.symm, hraised, ?_⟩
  rw [he]
  unfold State.formedLevel
  rw [own, heard]
  split
  · rfl
  next hno =>
    have : s.brake.judged = s.highestOwn := Nat.le_antisymm sj (Nat.not_lt.mp hno)
    rw [this] at slow
    exact Nat.le_antisymm shigh slow

theorem judgeRise_effective_le {s : State} (h : BrakeMid s) :
    s.brake.effective ≤ s.judgeRise.brake.effective := by
  obtain ⟨-, -, -, -, shigh⟩ := h
  obtain ⟨-, -, -, -, he⟩ := judgeRise_sources s
  rw [he]
  split
  · exact shigh
  · exact Nat.le_refl _

/-! ## Accepting a brake reset (R111) -/

theorem highestHeard_zero {s : State} (h : s.brake.rows = List.replicate 32 LevelRow.zero) :
    s.highestHeard = 0 := by
  refine Nat.le_zero.mp ((highestHeard_le_iff _ _).mpr fun r hr => ?_)
  rw [h] at hr
  rw [(List.mem_replicate.mp hr).2]
  exact Nat.le_refl 0

/-- The demands that a reset keeps, and what is judged of them. -/
theorem resetDemands_sources {s : State} (number : Nat) (h : s.brake.demands.length = 20) :
    (s.resetDemands number).brake.demands.length = 20 ∧
      (s.resetDemands number).brake.rows = List.replicate 32 LevelRow.zero ∧
      (s.resetDemands number).brake.judged =
        min s.brake.judged (s.resetDemands number).highestOwn ∧
      (s.resetDemands number).brake.raised = s.brake.raised ∧
      (s.resetDemands number).highestOwn ≤ s.highestOwn := by
  refine ⟨?_, rfl, rfl, rfl, ?_⟩
  · show ((s.setBrake _).syncPresence.brake.demands.map _).length = 20
    rw [List.length_map]
    exact syncPresence_length _ h
  · exact releaseAbsent_highestOwn_le (s := s.setBrake ({ · with
      held := some number, rows := List.replicate 32 LevelRow.zero })) h

/-- What an accepted reset leaves of the levels. -/
theorem acceptReset_sources (number : Nat) (s : State) :
    (s.acceptReset number).brake.demands = (s.resetDemands number).brake.demands ∧
      (s.acceptReset number).brake.rows = (s.resetDemands number).brake.rows ∧
      (s.acceptReset number).brake.judged = (s.resetDemands number).brake.judged ∧
      (s.acceptReset number).brake.raised = (s.resetDemands number).brake.raised ∧
      (s.acceptReset number).brake.effective = (s.resetDemands number).formedLevel := by
  obtain ⟨hd, hr, hj, hraised⟩ := reform_sources (s.resetDemands number)
  have told (x : State) : x.tellReset.brake.demands = x.brake.demands ∧
      x.tellReset.brake.rows = x.brake.rows ∧ x.tellReset.brake.judged = x.brake.judged ∧
      x.tellReset.brake.raised = x.brake.raised ∧
      x.tellReset.brake.effective = x.brake.effective := by
    have ht : Touches [.trip, .requeue, .queue, .counts, .authority, .position, .sides, .door] x
        x.tellReset := by
      unfold State.tellReset
      split
      · refine Touches.trans ((tripReset_touches x).mono (by decide)) (Touches.trans ?_
          ((authorityReset_touches _).mono (by decide)))
        exact .ite (fun _ => (tripRise_touches _ _).mono (by decide)) (fun _ => .refl _ _)
      · exact ((authorityReset_touches x).comp (endEvacuation_touches _)).mono (by decide)
      · exact .refl _ _
    have judged := ht .judged (by decide)
    exact ⟨ht .demands (by decide), ht .rows (by decide), congrArg Prod.fst judged,
      congrArg Prod.snd judged, ht.effective_eq⟩
  have ordered := reOrder_touches (s.resetDemands number).reform.tellReset
  have judged := ordered .judged (by decide)
  obtain ⟨td, tr, tj, traised, te⟩ := told (s.resetDemands number).reform
  rw [acceptReset_eq]
  exact ⟨(ordered .demands (by decide)).trans (td.trans hd),
    (ordered .rows (by decide)).trans (tr.trans hr),
    (congrArg Prod.fst judged).trans (tj.trans hj),
    (congrArg Prod.snd judged).trans (traised.trans hraised),
    ordered.effective_eq.trans (te.trans (reform_effective _))⟩

theorem acceptReset_formedLevel (number : Nat) (s : State) :
    (s.acceptReset number).highestOwn = (s.resetDemands number).highestOwn ∧
      (s.acceptReset number).highestHeard = 0 ∧
      (s.acceptReset number).brake.effective = (s.acceptReset number).formedLevel := by
  obtain ⟨hd, hr, -, -, he⟩ := acceptReset_sources number s
  have own : (s.acceptReset number).highestOwn = (s.resetDemands number).highestOwn := by
    unfold State.highestOwn; rw [hd]
  have heard : (s.acceptReset number).highestHeard = 0 := highestHeard_zero (hr.trans rfl)
  refine ⟨own, heard, ?_⟩
  rw [he]
  unfold State.formedLevel
  rw [own, heard, highestHeard_zero (s := s.resetDemands number) rfl]

theorem acceptReset_mid {s : State} (number : Nat) (h : BrakeMid s) :
    BrakeMid (s.acceptReset number) := by
  obtain ⟨sd, sr, sj, -, -⟩ := h
  obtain ⟨rd, rr, rj, -, rown⟩ := resetDemands_sources number sd
  obtain ⟨hd, hr, hj, -, -⟩ := acceptReset_sources number s
  obtain ⟨own, heard, he⟩ := acceptReset_formedLevel number s
  have judged : (s.acceptReset number).brake.judged ≤ (s.acceptReset number).highestOwn := by
    rw [hj, rj, own]; exact Nat.min_le_right _ _
  refine ⟨by rw [hd, rd], by rw [hr, rr, List.length_replicate], judged, ?_, he.le⟩
  rw [he]
  exact max_le_max judged (Nat.le_refl _)

theorem acceptReset_brakeLaw {s : State} (number : Nat) (h : BrakeLaw s) :
    BrakeLaw (s.acceptReset number) := by
  obtain ⟨sd, sr, sj, sraised, -⟩ := h
  obtain ⟨rd, rr, rj, rraised, rown⟩ := resetDemands_sources number sd
  obtain ⟨hd, hr, hj, hraised, -⟩ := acceptReset_sources number s
  obtain ⟨own, -, he⟩ := acceptReset_formedLevel number s
  refine ⟨by rw [hd, rd], by rw [hr, rr, List.length_replicate], ?_,
    by rw [hraised, rraised, sraised], he⟩
  rw [hj, rj, own, sj]
  exact Nat.min_eq_right rown

end Sys2Proof.Machine
end


section
/-! # Every part of a command keeps the bounds and the levels (O4, O5)

The lemmas are stated so that they chain: `h.op` carries what is known of a command up to a state over the
operation `op` that it makes next. -/

namespace Sys2Proof.Machine

open Sys2Proof

theorem trackAsk_touches (s : State) :
    Touches [.trackAsk] s (s.setBrake ({ · with trackAsk := true })) := fun p hp => by
  cases p <;> first | rfl | exact absurd (by decide) hp

/-- What the part of a command from `s` to `t` keeps. -/
structure Keeps (R L : Prop) (s t : State) : Prop where
  bounds : BoundsLaw s → BoundsLaw t
  mid : BrakeMid s → BrakeMid t
  law : ¬L → BrakeLaw s → BrakeLaw t
  up : BrakeMid s → ¬R → s.brake.effective ≤ t.brake.effective
  down : BrakeMid s → t.brake.effective < s.brake.effective → t.meas.standstill = true

/-- A row of the received-level table after a BRAKE ORDER (R104). -/
def orderedRow (level : Nat) (c : Cause) (h : Option Nat) (n : Nat) (r : LevelRow) : LevelRow :=
  if r.order < level then { r with order := level, cause := some c, h := h, number := n } else r

/-- The parts that the levels, the bounds and the standstill flag depend on. -/
def steadyParts : List Part := .standstill :: (levelSources ++ boundedParts)

namespace Keeps

variable {R L : Prop} {X : List Part} {s0 s t : State}

theorem refl (s : State) : Keeps R L s s :=
  ⟨id, id, fun _ => id, fun _ _ => Nat.le_refl _, fun _ h => absurd h (Nat.lt_irrefl _)⟩

/-- A next operation in which the level does not fall. -/
theorem step (h : Keeps R L s0 s) (bounds : BoundsLaw s → BoundsLaw t)
    (mid : BrakeMid s → BrakeMid t) (law : ¬L → BrakeLaw s → BrakeLaw t)
    (up : BrakeMid s → s.brake.effective ≤ t.brake.effective)
    (still : R → s.meas.standstill = true → t.meas.standstill = true) : Keeps R L s0 t where
  bounds h0 := bounds (h.bounds h0)
  mid h0 := mid (h.mid h0)
  law hL h0 := law hL (h.law hL h0)
  up h0 hR := (h.up h0 hR).trans (up (h.mid h0))
  down h0 hlt := by
    have below := (up (h.mid h0)).trans_lt hlt
    by_cases hR : R
    · exact still hR (h.down h0 below)
    · exact absurd below (Nat.not_lt.mpr (h.up h0 hR))

/-- An operation on bounded parts that leaves the levels alone. -/
theorem bounded (h : Keeps R L s0 s) (ht : Touches X s t) (bounds : BoundsLaw s → BoundsLaw t)
    (hX : ∀ p ∈ .standstill :: levelSources, p ∉ X) : Keeps R L s0 t := by
  have free : ∀ p ∈ levelSources, p ∉ X := fun p hp => hX p (List.mem_cons_of_mem _ hp)
  exact h.step bounds (fun hm => hm.of_touches ht free) (fun _ hl => hl.of_touches ht free)
    (fun _ => (ht.effective_eq (free _ (by decide))).ge)
    (fun _ hs => (ht.standstill_eq (hX _ (by decide))).trans hs)

/-- An operation that leaves the bounded parts and the levels alone. -/
theorem touch (h : Keeps R L s0 s) (ht : Touches X s t)
    (hX : ∀ p ∈ steadyParts, p ∉ X) : Keeps R L s0 t :=
  h.bounded ht
    (fun hb => hb.of_touches ht fun p hp =>
      hX p (List.mem_cons_of_mem _ (List.mem_append_right _ hp)))
    fun p hp => hX p (List.cons_subset_cons _ (List.subset_append_left _ _) hp)

/-- A part in which no reset can be accepted may be followed by one in which a reset can. -/
theorem allow (h : Keeps False L s0 s) : Keeps R L s0 s :=
  ⟨h.bounds, h.mid, h.law, fun h0 _ => h.up h0 id,
    fun h0 hlt => absurd hlt (Nat.not_lt.mpr (h.up h0 id))⟩

/-- An operation in which no reset can be accepted may change the standstill flag. -/
theorem measure (h : Keeps False L s0 s) (ht : Touches X s t)
    (hX : ∀ p ∈ levelSources ++ boundedParts, p ∉ X) : Keeps False L s0 t := by
  have free : ∀ p ∈ levelSources, p ∉ X := fun p hp => hX p (List.mem_append_left _ hp)
  exact h.step (fun hb => hb.of_touches ht fun p hp => hX p (List.mem_append_right _ hp))
    (fun hm => hm.of_touches ht free) (fun _ hl => hl.of_touches ht free)
    (fun _ => (ht.effective_eq (free _ (by decide))).ge) (fun hR => hR.elim)

theorem cond {c : Prop} [Decidable c] (h : c → Keeps R L s0 s) (g : ¬c → Keeps R L s0 t) :
    Keeps R L s0 (if c then s else t) := by
  split
  · exact h ‹_›
  · exact g ‹_›

theorem foldl {α : Type} {f : State → α → State} (h : Keeps R L s0 s)
    (hf : ∀ x a, Keeps R L s0 x → Keeps R L s0 (f x a)) (l : List α) :
    Keeps R L s0 (l.foldl f s) := by
  induction l generalizing s with
  | nil => exact h
  | cons a l ih => exact ih (hf s a h)

/-! ## Counts, frames and lists -/

theorem bump (h : Keeps R L s0 s) (c : Count) : Keeps R L s0 (s.bump c) :=
  h.bounded (bump_touches c s) (fun hb => hb.bump c) (by decide)

theorem enqueue (h : Keeps R L s0 s) (p : Payload) : Keeps R L s0 (s.enqueue p) :=
  h.bounded (enqueue_touches p s) (fun hb => hb.enqueue p) (by decide)

theorem tellNotSent (h : Keeps R L s0 s) (p : Payload) : Keeps R L s0 (s.tellNotSent p) :=
  h.bounded (tellNotSent_touches p s) (fun hb => hb.tellNotSent p) (by decide)

theorem queueState (h : Keeps R L s0 s) (k : StateKind) : Keeps R L s0 (s.queueState k) :=
  h.bounded (queueState_touches k s) (fun hb => hb.queueState k) (by decide)

theorem queueAllStates (h : Keeps R L s0 s) : Keeps R L s0 s.queueAllStates :=
  h.bounded (queueAllStates_touches s) (fun hb => hb.queueAllStates) (by decide)

theorem writeRecord (h : Keeps R L s0 s) (c : Cause) (level : Nat) :
    Keeps R L s0 (s.writeRecord c level) :=
  h.bounded (writeRecord_touches c level s) (fun hb => hb.writeRecord c level) (by decide)

theorem passback (h : Keeps R L s0 s) (x : Nat) (source : PassbackSource) :
    Keeps R L s0 (s.passback x source) :=
  h.bounded (passback_touches x source s) (fun hb => hb.passback x source) (by decide)

theorem setEntry (h : Keeps R L s0 s) (a : Nat) (f : PeerEntry → PeerEntry)
    (hf : ∀ e, e.rejoins ≤ 65535 → (f e).rejoins ≤ 65535) : Keeps R L s0 (s.setEntry a f) :=
  h.bounded (setEntry_touches a f s) (fun hb => hb.setEntry a f hf) (by decide)

theorem setTrip (h : Keeps R L s0 s) (f : TripController → TripController) :
    Keeps R L s0 (s.setTrip f) := h.touch (setTrip_touches f s) (by decide)

theorem setDoor (h : Keeps R L s0 s) (f : DoorBlock → DoorBlock) : Keeps R L s0 (s.setDoor f) :=
  h.touch (setDoor_touches f s) (by decide)

theorem mapSides (h : Keeps R L s0 s) (f : Side → DoorSideContext → DoorSideContext) :
    Keeps R L s0 (s.mapSides f) := h.touch (mapSides_touches f s) (by decide)

theorem setCycle (h : Keeps R L s0 s) (f : BoardingCycle → BoardingCycle) :
    Keeps R L s0 (s.setCycle f) := h.touch (setCycle_touches f s) (by decide)

theorem setTicket (h : Keeps R L s0 s) (x : TicketState) : Keeps R L s0 (s.setTicket x) :=
  h.touch (setTicket_touches x s) (by decide)

theorem setGrant (h : Keeps R L s0 s) (f : GrantTable → GrantTable) : Keeps R L s0 (s.setGrant f) :=
  h.touch (setGrant_touches f s) (by decide)

theorem setReason (h : Keeps R L s0 s) (r : Reason) : Keeps R L s0 (s.setReason r) :=
  h.touch (setReason_touches r s) (by decide)

theorem endTrip (h : Keeps R L s0 s) : Keeps R L s0 s.endTrip := h.touch (endTrip_touches s) (by decide)

/-! ## The door block -/

theorem carWithdraw (h : Keeps R L s0 s) (b g : Nat) (r : WithdrawReason) :
    Keeps R L s0 (s.carWithdraw b g r) := (h.setDoor _).enqueue _

theorem lockClosing (h : Keeps R L s0 s) : Keeps R L s0 s.lockClosing := by
  have locked : Keeps R L s0 s.lockSides := h.mapSides _
  unfold State.lockClosing State.withdrawLocked
  refine .cond (fun _ => locked) (fun _ => (mapSides ?_ _).setDoor _)
  split
  · exact locked.carWithdraw _ _ _
  · exact locked

theorem startRequest (h : Keeps R L s0 s) (b : Berth) : Keeps R L s0 (s.startRequest b) := by
  unfold State.startRequest
  exact ((h.mapSides _).setDoor _).enqueue _

theorem judgeRequest (h : Keeps R L s0 s) : Keeps R L s0 s.judgeRequest := by
  unfold State.judgeRequest
  refine .cond (fun _ => (h.mapSides _).setDoor _) (fun _ => .cond (fun _ => ?_) (fun _ => h))
  split
  · exact h.startRequest _
  · exact h

theorem repeatExpiry (h : Keeps R L s0 s) : Keeps R L s0 s.repeatExpiry := by
  unfold State.repeatExpiry
  refine .cond (fun _ => h.setDoor _) (fun _ => .cond (fun _ => ?_)
    (fun _ => ((h.mapSides _).setDoor _).bump _))
  dsimp only
  split
  · exact (h.setDoor _).enqueue _
  · exact h.setDoor _

theorem takeRefusal (h : Keeps R L s0 s) (b n : Nat) (r : RefusalReason) :
    Keeps R L s0 (s.takeRefusal b n r) :=
  .cond (fun _ => (h.setDoor _).bump _) (fun _ => h.bump _)

theorem judgeConfirm (h : Keeps R L s0 s) : Keeps R L s0 s.judgeConfirm :=
  .cond (fun _ => (h.mapSides _).setDoor _) (fun _ => h)

theorem dropRelease (h : Keeps R L s0 s) : Keeps R L s0 s.dropRelease := (h.mapSides _).setDoor _

theorem judgeHold (h : Keeps R L s0 s) : Keeps R L s0 s.judgeHold := by
  unfold State.judgeHold
  refine .cond (fun _ => ?_) (fun _ => h)
  split
  · split
    · exact h.dropRelease.carWithdraw _ _ _
    · exact h.dropRelease
  · exact h

theorem judgeStanding (h : Keeps R L s0 s) : Keeps R L s0 s.judgeStanding := by
  unfold State.judgeStanding
  split
  · split
    · exact .cond (fun _ => h.carWithdraw _ _ _) (fun _ => h)
    · exact h
  · exact h

theorem takeGrant (h : Keeps R L s0 s) (b : Nat) (side : DoorSide) (n g : Nat) :
    Keeps R L s0 (s.takeGrant b side n g) :=
  .cond (fun _ => h) (fun _ => .cond (fun _ => ((h.mapSides _).setDoor _).judgeConfirm)
    (fun _ => (h.carWithdraw _ _ _).bump _))

theorem takeBerthWithdrawal (h : Keeps R L s0 s) (b g : Nat) :
    Keeps R L s0 (s.takeBerthWithdrawal b g) :=
  .cond (fun _ => h.dropRelease.lockClosing) (fun _ => h)

theorem departureNotice (h : Keeps R L s0 s) : Keeps R L s0 s.departureNotice :=
  ((h.mapSides _).setDoor _).lockClosing

theorem doorDriveMotion (h : Keeps R L s0 s) (st : Haulage) : Keeps R L s0 (s.doorDriveMotion st) :=
  .cond (fun _ => (h.setDoor _).departureNotice) (fun _ => h.setDoor _)

theorem takeEvacuation (h : Keeps R L s0 s) (side : DoorSide) :
    Keeps R L s0 (s.takeEvacuation side) := by
  unfold State.takeEvacuation
  split
  · exact (h.mapSides _).enqueue _
  · exact (h.enqueue _).bump _

theorem endEvacuation (h : Keeps R L s0 s) : Keeps R L s0 s.endEvacuation :=
  .cond (fun _ => (h.mapSides _).lockClosing) (fun _ => h)

theorem judgeRelease (h : Keeps R L s0 s) : Keeps R L s0 s.judgeRelease := h.judgeConfirm.judgeHold

/-! ## The trip controller -/

theorem queueNotice (h : Keeps R L s0 s) : Keeps R L s0 s.queueNotice := by
  unfold State.queueNotice
  split
  · exact (h.setTrip _).enqueue _
  · exact h

theorem startTrip (h : Keeps R L s0 s) (r : TripRecord) : Keeps R L s0 (s.startTrip r) := by
  unfold State.startTrip
  exact queueNotice ((h.setTrip _).touch (X := [.authority]) (fun p hp => by
    cases p <;> first | rfl | exact absurd (by decide) hp) (by decide))

theorem torqueProof (h : Keeps R L s0 s) : Keeps R L s0 s.torqueProof := by
  unfold State.torqueProof
  split
  · exact h.setTrip _
  · exact .cond (fun _ => h) (fun _ => h.setTrip _)
  · exact h

theorem startRelease (h : Keeps R L s0 s) (st : Haulage) : Keeps R L s0 (s.startRelease st) :=
  .cond (fun _ => (h.setTrip _).torqueProof) (fun _ => h.setTrip _)

theorem torqueTimeout (h : Keeps R L s0 s) : Keeps R L s0 s.torqueTimeout := by
  have timed := ((h.setTrip ({ · with torqueDue := none, askEnable := false })).setReason
    .driveNotReady).bump .torqueTimeouts
  unfold State.torqueTimeout
  dsimp only
  split
  · exact .cond (fun _ => timed.setTrip _) (fun _ => (timed.setTrip _).endTrip.setTrip _)
  · exact .cond (fun _ => timed.endTrip.setTrip _) (fun _ => timed.endTrip.setTrip _)
  · exact h

theorem judgeClosing (h : Keeps R L s0 s) : Keeps R L s0 s.judgeClosing :=
  .cond (fun _ => h.setTrip _) (fun _ => h)

theorem doorCloseTimeout (h : Keeps R L s0 s) : Keeps R L s0 s.doorCloseTimeout := by
  unfold State.doorCloseTimeout State.startDwell
  exact (((h.setTrip _).setReason _).bump _).setTrip _

theorem dwellExpiry (h : Keeps R L s0 s) : Keeps R L s0 s.dwellExpiry :=
  .cond (fun _ => (h.setTrip _).setTrip _) (fun _ => h.setTrip _)

theorem depart (h : Keeps R L s0 s) : Keeps R L s0 s.depart :=
  ((h.startTrip _).setTrip _).startRelease _

theorem judgeReady (h : Keeps R L s0 s) : Keeps R L s0 s.judgeReady := by
  unfold State.judgeReady
  split
  · exact .cond (fun _ => ((h.setReason _).bump _).setTrip _)
      (fun _ => ((h.setReason _).bump _).setTrip _)
  · refine .cond (fun _ => ?_) (fun _ => h.depart)
    split
    · exact (h.startTrip _).startRelease _
    · exact h.setTrip _

theorem runSample (h : Keeps R L s0 s) : Keeps R L s0 s.runSample := by
  unfold State.runSample
  split
  · exact .cond (fun _ => (h.setTrip _).setTrip _) (fun _ => h.setTrip _)
  · exact h.setTrip _

theorem arriveAt (h : Keeps R L s0 s) (k : Nat) : Keeps R L s0 (s.arriveAt k) :=
  h.touch (arriveAt_touches k s) (by decide)

theorem arrive (h : Keeps R L s0 s) (k : Nat) (d : Direction) : Keeps R L s0 (s.arrive k d) :=
  (h.endTrip.setTrip _).arriveAt k

theorem completeStop (h : Keeps R L s0 s) : Keeps R L s0 s.completeStop := by
  have still := h.setTrip ({ · with askService := false, askEnable := false })
  unfold State.completeStop
  dsimp only
  split
  · split
    · exact .cond (fun _ => still.arrive _ _) (fun _ => (still.endTrip.setReason _).setTrip _)
    · split
      · exact still.arrive _ _
      · exact (still.endTrip.setReason _).setTrip _
  · exact still.setTrip _

theorem holdSample (h : Keeps R L s0 s) : Keeps R L s0 s.holdSample := by
  unfold State.holdSample
  refine .cond (fun _ => h.setTrip _) (fun _ => ?_)
  split
  · exact h.setTrip _
  · exact h.setTrip _

theorem judgeSync (h : Keeps R L s0 s) : Keeps R L s0 s.judgeSync := by
  unfold State.judgeSync
  refine .cond (fun _ => ?_) (fun _ => h)
  split
  · exact h
  · exact h.arriveAt _
  · exact h.setReason _

theorem haulageSample (h : Keeps R L s0 s) : Keeps R L s0 s.haulageSample := by
  unfold State.haulageSample
  split
  · exact h.judgeSync
  · exact h.judgeClosing
  · exact h.judgeReady
  · exact h.runSample
  · exact .cond (fun _ => h.runSample) (fun _ => h)
  · exact .cond (fun _ => h.completeStop) (fun _ => h)
  · exact h.holdSample
  · exact h

theorem requeueNotice (h : Keeps R L s0 s) (owed : Option TripRecord) :
    Keeps R L s0 (s.requeueNotice owed) := .cond (fun _ => h.queueNotice) (fun _ => h)

theorem dispatchKey (h : Keeps R L s0 s) : Keeps R L s0 s.dispatchKey := by
  unfold State.dispatchKey
  split
  · exact .cond (fun _ => h.setTrip _) (fun _ => h.bump _)
  · split
    · exact .cond (fun _ => h.setTrip _) (fun _ => h.bump _)
    · exact h.bump _
  · exact h.bump _

theorem modeKey (h : Keeps R L s0 s) : Keeps R L s0 s.modeKey :=
  .cond (fun _ => .cond (fun _ => h.setTrip _) (fun _ => h)) (fun _ => h.setTrip _)

theorem reducedSpeedKey (h : Keeps R L s0 s) : Keeps R L s0 s.reducedSpeedKey := by
  unfold State.reducedSpeedKey
  split
  · exact .cond (fun _ => (h.setTrip _).queueNotice) (fun _ => h)
  · exact h

theorem declareSet1 (h : Keeps R L s0 s) : Keeps R L s0 s.declareSet1 := by
  unfold State.declareSet1
  split
  · exact (h.setTrip _).queueNotice
  · exact h

theorem startRecovery (h : Keeps R L s0 s) (d : Direction) (target : Option Nat) :
    Keeps R L s0 (s.startRecovery d target) := ((h.startTrip _).setTrip _).startRelease _

theorem refuseRecovery (h : Keeps R L s0 s) (r : Reason) : Keeps R L s0 (s.refuseRecovery r) :=
  (h.setReason r).bump _

theorem recoveryKey (h : Keeps R L s0 s) : Keeps R L s0 s.recoveryKey := by
  unfold State.recoveryKey
  split
  · exact h.bump _
  split
  · split
    · exact h.refuseRecovery _
    · split
      · exact (h.setTrip _).arriveAt _
      · exact h.startRecovery _ _
  · split
    · exact h.refuseRecovery _
    · split
      · exact h.startRecovery _ _
      · exact h.refuseRecovery _
  · exact h.bump _

theorem evacuationKey (h : Keeps R L s0 s) : Keeps R L s0 s.evacuationKey := by
  unfold State.evacuationKey
  split
  · split
    · exact h.enqueue _
    · exact h.enqueue _
    · exact h.bump _
  · exact h.bump _

theorem parkKeyOn (h : Keeps R L s0 s) : Keeps R L s0 s.parkKeyOn := by
  unfold State.parkKeyOn
  split
  · exact h.setTrip _
  · exact h.bump _

theorem recordReply (h : Keeps R L s0 s) (c : CarId) (side : DoorSide) (r : EvacResult) :
    Keeps R L s0 (s.recordReply c side r) := by
  unfold State.recordReply
  dsimp only
  split
  · exact h.setTrip _
  · exact h.setTrip _

theorem tripReset (h : Keeps R L s0 s) : Keeps R L s0 s.tripReset := by
  have cleared (x : State) (hx : Keeps R L s0 x) : Keeps R L s0 x.clearTrip :=
    hx.touch (clearTrip_touches x) (by decide)
  have heard := h.setTrip ({ · with replyA := none, replyB := none })
  unfold State.tripReset
  dsimp only
  split
  · refine .cond (fun _ => ?_) (fun _ => (cleared _ heard).setTrip _)
    split
    · exact (cleared _ heard).arriveAt _
    · exact (cleared _ heard).setTrip _
  · split
    · exact .cond (fun _ => .cond (fun _ => (cleared _ (heard.setTrip _)).setTrip _)
        (fun _ => (cleared _ (heard.setTrip _)).setTrip _)) (fun _ => heard)
    · exact heard
  · exact heard.setTrip _
  · exact .cond (fun _ => heard) (fun _ => (heard.setTrip _).setTrip _)
  · exact heard

/-! ## The brake block -/

theorem tellLevel (h : Keeps R L s0 s) (before : Nat) : Keeps R L s0 (s.tellLevel before) := by
  unfold State.tellLevel
  split
  · exact .cond (fun _ => h.touch (tripRise_touches _ s) (by decide)) (fun _ => h)
  · exact .cond (fun _ => h.endEvacuation) (fun _ => h)
  · exact h.touch (gateLevel_touches s) (by decide)
  · exact h

theorem levelChanged (h : Keeps R L s0 s) (before : Nat) : Keeps R L s0 (s.levelChanged before) :=
  .cond (fun _ => ((h.touch (proofAtChange_touches before s) (by decide)).tellLevel before).queueAllStates)
    (fun _ => h)

theorem queueOrder (h : Keeps R L s0 s) (level : Nat) (c : Cause) :
    Keeps R L s0 (s.queueOrder level c) := h.enqueue _

/-- The bounds through forming the level anew, which `BrakeMid` does not follow on its own. -/
theorem reform_bounds (h : BoundsLaw s) : BoundsLaw s.reform := by
  unfold State.reform
  dsimp only
  split
  · exact h
  · have formed : BoundsLaw (s.setBrake ({ · with effective := s.formedLevel })) :=
      h.of_touches (setEffective_touches _ s)
    exact ((refl (R := True) (L := True) _).levelChanged _).bounds formed

theorem latch (h : Keeps R L s0 s) (hL : L) (c : Cause) (level : Nat) :
    Keeps R L s0 (s.latch c level) :=
  h.step (fun hb => hb.of_touches (latch_touches c level s)) (fun hm => hm.latch c level)
    (fun hn => absurd hL hn) (fun _ => ((latch_touches c level s).effective_eq).ge)
    (fun _ hs => ((latch_touches c level s).standstill_eq).trans hs)

theorem judgeRise_bounds (h : BoundsLaw s) : BoundsLaw s.judgeRise := by
  have judged : BoundsLaw (s.setBrake ({ · with judged := s.highestOwn, raised := [] })) :=
    h.of_touches (X := [.judged]) (fun p hp => by
      cases p <;> first | rfl | exact absurd (by decide) hp)
  unfold State.judgeRise
  dsimp only
  split
  · split
    · exact reform_bounds (BoundsLaw.writeRecord (BoundsLaw.enqueue judged _) _ _)
    · exact reform_bounds judged
  · exact judged

/-- Judging the rise settles what was latched. -/
theorem judged (h : Keeps R True s0 s) : Keeps R L s0 s.judgeRise where
  bounds h0 := judgeRise_bounds (h.bounds h0)
  mid h0 := (judgeRise_brakeLaw (h.mid h0)).mid
  law _ h0 := judgeRise_brakeLaw (h.mid h0.mid)
  up h0 hR := (h.up h0 hR).trans (judgeRise_effective_le (h.mid h0))
  down h0 hlt := (judgeRise_touches s).standstill_eq.trans
    (h.down h0 ((judgeRise_effective_le (h.mid h0)).trans_lt hlt))

theorem unjudged (h : Keeps R L s0 s) : Keeps R True s0 s :=
  ⟨h.bounds, h.mid, fun hn => absurd trivial hn, h.up, h.down⟩

theorem raise (h : Keeps R L s0 s) (c : Cause) (level : Nat) : Keeps R L s0 (s.raise c level) := by
  refine h.step (fun hb => judgeRise_bounds (hb.of_touches (latch_touches c level s)))
    (fun hm => (judgeRise_brakeLaw (hm.latch c level)).mid)
    (fun _ hl => judgeRise_brakeLaw (hl.mid.latch c level)) (fun hm => ?_)
    (fun _ hs => ((raise_touches c level s).standstill_eq).trans hs)
  exact ((latch_touches c level s).effective_eq).ge.trans (judgeRise_effective_le (hm.latch c level))

theorem takeOrder (h : Keeps R L s0 s) (addr level : Nat) (c : Cause) (p : Option Nat) (n : Nat) :
    Keeps R L s0 (s.takeOrder addr level c p n) := by
  have row (r : LevelRow) : max r.order r.announced ≤
      max (orderedRow level c p n r).order (orderedRow level c p n r).announced := by
    unfold orderedRow
    split
    next hlt => exact max_le_max hlt.le (Nat.le_refl _)
    next => exact Nat.le_refl _
  have ordered (x : State) (hx : Keeps R L s0 x) : Keeps R L s0
      ((x.setBrake (fun b => { b with rows := b.rows.modify addr (orderedRow level c p n) })).reform) := by
    obtain ⟨mid, law, up⟩ := reform_after_rows (s := x) (x := x.setBrake (fun b => { b with
      rows := b.rows.modify addr (orderedRow level c p n) })) _ ⟨rfl, rfl, rfl, rfl⟩
      (List.length_modify ..) (highestHeard_modify_le addr _ rfl row)
    refine hx.step (fun hb => reform_bounds (hb.of_touches (X := [.rows]) (fun p hp => by
      cases p <;> first | rfl | exact absurd (by decide) hp))) mid (fun _ => law) up (fun _ hs => ?_)
    exact (reform_touches _).standstill_eq.trans hs
  unfold State.takeOrder
  refine ordered _ ?_
  split
  · exact .cond (fun _ => h) (fun _ => h.bump _)
  · exact h

theorem takeAnnounced (h : Keeps R L s0 s) (addr level : Nat) :
    Keeps R L s0 (s.takeAnnounced addr level) := by
  obtain ⟨mid, law, up⟩ := reform_after_rows (s := s) (x := s.setBrake (fun b => { b with
      rows := b.rows.modify addr (fun r => { r with announced := max r.announced level }) }))
    _ ⟨rfl, rfl, rfl, rfl⟩ (List.length_modify ..)
    (highestHeard_modify_le addr _ rfl fun r => max_le_max (Nat.le_refl _) (Nat.le_max_left _ _))
  refine h.step (fun hb => reform_bounds (hb.of_touches (X := [.rows]) (fun p hp => by
    cases p <;> first | rfl | exact absurd (by decide) hp))) mid (fun _ => law) up (fun _ hs => ?_)
  exact (reform_touches _).standstill_eq.trans hs

theorem tellReset (h : Keeps R L s0 s) : Keeps R L s0 s.tellReset := by
  unfold State.tellReset
  split
  · exact touch (.cond (fun _ => h.tripReset.touch (tripRise_touches _ _) (by decide)) (fun _ => h.tripReset))
      (authorityReset_touches _) (by decide)
  · exact (h.touch (authorityReset_touches s) (by decide)).endEvacuation
  · exact h

theorem acceptReset_bounds (h : BoundsLaw s) (number : Nat) : BoundsLaw (s.acceptReset number) := by
  have reset : BoundsLaw (s.resetDemands number) := h.of_touches (resetDemands_touches number s)
  have told := ((refl (R := True) (L := True) _).tellReset).bounds (reform_bounds reset)
  rw [acceptReset_eq]
  unfold State.reOrder
  split
  · exact told.enqueue _
  · exact told

theorem acceptReset (h : Keeps R L s0 s) (hR : R) (hs : s.meas.standstill = true) (number : Nat) :
    Keeps R L s0 (s.acceptReset number) where
  bounds h0 := acceptReset_bounds (h.bounds h0) number
  mid h0 := acceptReset_mid number (h.mid h0)
  law hL h0 := acceptReset_brakeLaw number (h.law hL h0)
  up _ hn := absurd hR hn
  down _ _ := (acceptReset_touches number s).standstill_eq.trans hs

theorem judgeReset (h : Keeps R L s0 s) (hR : R) (number : Nat) :
    Keeps R L s0 (s.judgeReset number) :=
  .cond (fun _ => h.bump _) (fun _ => .cond (fun hs => h.acceptReset hR hs number)
    (fun _ => h.bump _))

theorem resetKey (h : Keeps R L s0 s) : Keeps R L s0 s.resetKey :=
  .cond (fun _ => (h.touch (X := [.issue]) (fun p hp => by
    cases p <;> first | rfl | exact absurd (by decide) hp) (by decide)).enqueue _) (fun _ => h.bump _)

theorem judgeProof (h : Keeps R L s0 s) (p : BrakeProof) : Keeps R L s0 (s.judgeProof p) := by
  have ended := h.touch (endProof_touches s) (by decide)
  unfold State.judgeProof State.proofFailed
  refine .cond (fun _ => ended) (fun _ => ?_)
  dsimp only
  split
  · exact (ended.bump _).raise _ _
  · exact (ended.bump _).raise _ _
  · exact ((ended.bump _).writeRecord _ _).bump _
  · exact (ended.bump _).raise _ _

/-! ## The grant table -/

theorem leaveWithdrawing (h : Keeps R L s0 s) : Keeps R L s0 s.leaveWithdrawing :=
  .cond (fun _ => h.setGrant _) (fun _ => h)

theorem issueGrant (h : Keeps R L s0 s) : Keeps R L s0 s.issueGrant :=
  ((h.setGrant _).enqueue _).bump _

theorem refuseRequest (h : Keeps R L s0 s) (c : CarId) (n : Nat) (r : RefusalReason) :
    Keeps R L s0 (s.refuseRequest c n r) := (h.enqueue _).bump _

theorem newRequest (h : Keeps R L s0 s) (c : CarId) (side : DoorSide) (n : Nat) :
    Keeps R L s0 (s.newRequest c side n) := by
  unfold State.newRequest
  split
  · exact h.refuseRequest _ _ _
  · exact .cond (fun _ => (h.setGrant _).issueGrant) (fun _ => (h.setGrant _).setGrant _)

theorem repeatRequest (h : Keeps R L s0 s) (c : CarId) (side : DoorSide) (n : Nat) :
    Keeps R L s0 (s.repeatRequest c side n) := by
  unfold State.repeatRequest
  split
  · exact h.enqueue _
  · exact h.enqueue _
  · split
    · exact (h.setGrant _).refuseRequest _ _ _
    · exact h.setGrant _
  · split
    · exact (h.setGrant _).refuseRequest _ _ _
    · exact .cond (fun _ => h.issueGrant) (fun _ => h.setGrant _)
  · exact h

theorem takeRequest (h : Keeps R L s0 s) (c : CarId) (side : DoorSide) (n : Nat) :
    Keeps R L s0 (s.takeRequest c side n) :=
  .cond (fun _ => h.repeatRequest c side n) (fun _ => .cond
    (fun _ => (((h.setGrant _).enqueue _).newRequest c side n).leaveWithdrawing)
    (fun _ => h.newRequest c side n))

theorem takeCarWithdrawal (h : Keeps R L s0 s) (c : CarId) (g : Nat) (r : WithdrawReason) :
    Keeps R L s0 (s.takeCarWithdrawal c g r) :=
  .cond (fun _ => (h.setGrant _).leaveWithdrawing) (fun _ => h.bump _)

theorem judgeGrant (h : Keeps R L s0 s) : Keeps R L s0 s.judgeGrant := by
  unfold State.judgeGrant State.judgeGranted
  split
  · exact .cond (fun _ => h.setGrant _) (fun _ => h)
  · exact .cond (fun _ => h) (fun _ => h.setGrant _)
  · exact .cond
      (fun _ => leaveWithdrawing (raise (bump (enqueue (h.setGrant _) _) _) _ _))
      (fun _ => .cond (fun _ => leaveWithdrawing (enqueue (h.setGrant _) _)) (fun _ => h))
  · exact h.leaveWithdrawing
  · exact h

theorem discardExpiry (h : Keeps R L s0 s) : Keeps R L s0 s.discardExpiry := by
  unfold State.discardExpiry
  split
  · exact (h.setGrant _).bump _
  · exact (h.setGrant _).bump _
  · exact h.setGrant _

/-! ## The gate block -/

theorem reply (h : Keeps R L s0 s) (r : Reply) : Keeps R L s0 (s.reply r) := by
  have given : Keeps R L s0 { s with term := { s.term with replies := s.term.replies ++ [r] } } :=
    h.touch (X := [.replies]) (fun p hp => by cases p <;> first | rfl | exact absurd (by decide) hp) (by decide)
  have lit (x : State) (f : Option Nat) (hx : Keeps R L s0 x) :
      Keeps R L s0 (x.setGate ({ · with redDue := f })) :=
    hx.touch (X := [.red]) (fun p hp => by cases p <;> first | rfl | exact absurd (by decide) hp) (by decide)
  cases r
  case accept => exact given
  case format | notPassed => exact lit _ _ given
  all_goals exact (lit _ _ given).bump _

theorem settleTicket (h : Keeps R L s0 s) (r : Reply) : Keeps R L s0 (s.settleTicket r) :=
  (h.setTicket _).reply r

theorem admitTicket (h : Keeps R L s0 s) (x : Ticket) : Keeps R L s0 (s.admitTicket x) :=
  ((((h.setCycle _).passback _ _).setTicket _).reply _).bump _

theorem decideTicket (h : Keeps R L s0 s) (x : Ticket) (due : Nat) :
    Keeps R L s0 (s.decideTicket x due) := by
  unfold State.decideTicket
  split
  · exact h.settleTicket _
  · exact .cond (fun _ => h.setTicket _)
      (fun _ => .cond (fun _ => h.admitTicket x) (fun _ => h.settleTicket _))

theorem decideAgain (h : Keeps R L s0 s) : Keeps R L s0 s.decideAgain := by
  unfold State.decideAgain
  split
  · exact h.decideTicket _ _
  · exact h

theorem passage (h : Keeps R L s0 s) : Keeps R L s0 s.passage := by
  unfold State.passage
  split
  · exact ((h.setCycle _).passback _ _).setTicket _
  · exact h.bump _

theorem passageTimeout (h : Keeps R L s0 s) : Keeps R L s0 s.passageTimeout := by
  unfold State.passageTimeout
  split
  next x _ _ =>
    refine ((setTicket (bounded (h.setCycle _) (X := [.passback]) (fun p hp => ?_)
      (fun hb => hb.filterPassback (fun e => !(e.ticket == x.id && e.source == .ownTentative))) (by decide))
      _).reply _).bump _
    cases p <;> first | rfl | exact absurd (by decide) hp
  next => exact h

theorem holdTimeout (h : Keeps R L s0 s) : Keeps R L s0 s.holdTimeout := by
  unfold State.holdTimeout
  split
  · exact h.settleTicket _
  · exact h

theorem setCarFlags (h : Keeps R L s0 s) (c : CarId) (f : CarFlags → CarFlags) :
    Keeps R L s0 (s.setCarFlags c f) := h.touch (setCarFlags_touches c f s) (by decide)

theorem openCycle (h : Keeps R L s0 s) (c : CarId) (o : Opening) : Keeps R L s0 (s.openCycle c o) :=
  ((h.touch (forgetReleases_touches s) (by decide)).setCycle _).bump _

theorem judgeLoadReport (h : Keeps R L s0 s) (c : CarId) (l : LoadReport) :
    Keeps R L s0 (s.judgeLoadReport c l) := by
  unfold State.judgeLoadReport
  refine setCarFlags ?_ _ _
  split
  · exact .cond (fun _ => .cond (fun _ => h) (fun _ => .cond (fun _ => h.openCycle _ _)
      (fun _ => h.bump _))) (fun _ => .cond (fun _ => (h.setCarFlags _ _).setCycle _)
      (fun _ => h.setCarFlags _ _))
  · exact h.setCarFlags _ _

theorem judgeDoorState (h : Keeps R L s0 s) (c : CarId) (fresh : Bool) (d : DoorReport) :
    Keeps R L s0 (s.judgeDoorState c fresh d) :=
  .cond (fun _ => .cond (fun _ => (h.setCarFlags _ _).setCycle _) (fun _ => h.setCarFlags _ _))
    (fun _ => h)

theorem takeAdmission (h : Keeps R L s0 s) (a : AdmissionReport) (i : Nat) :
    Keeps R L s0 (s.takeAdmission a i) :=
  .cond (fun _ => .cond (fun _ => h.bump _) (fun _ => .cond (fun _ => h.bump _)
    (fun _ => (h.setCycle _).foldl (fun _ _ hx => hx.passback _ _) _))) (fun _ => h)

/-! ## The peer view -/

theorem setPeers (h : Keeps R L s0 s) (l : List PeerEntry)
    (hl : (∀ e ∈ s.peers, e.rejoins ≤ 65535) → ∀ e ∈ l, e.rejoins ≤ 65535) :
    Keeps R L s0 { s with peers := l } :=
  h.bounded (X := [.peers]) (fun p hp => by cases p <;> first | rfl | exact absurd (by decide) hp)
    (fun hb => hb.setPeers l (hl hb.rejoins)) (by decide)

theorem passState (h : Keeps R L s0 s) (f : Frame) : Keeps R L s0 (s.passState f) := by
  have numbered := h.setEntry f.source (fun e => { e with
    stateSeq := e.stateSeq.set (f.payload.kind.code - 9) (some f.seq) }) (fun _ he => he)
  exact .cond (fun _ => numbered.bump _) (fun _ => numbered)

theorem passControl (h : Keeps R L s0 s) (f : Frame) : Keeps R L s0 (s.passControl f) :=
  h.setEntry _ _ (fun _ he => he)

theorem spreadConflict (h : Keeps R L s0 s) (addr : Nat) : Keeps R L s0 (s.spreadConflict addr) := by
  unfold State.spreadConflict
  split
  · refine h.setPeers _ (fun hs e he => ?_)
    obtain ⟨x, hx, rfl⟩ := List.mem_map.mp he
    split
    · exact hs x hx
    · exact hs x hx
  · exact h

theorem endConflicts (h : Keeps R L s0 s) : Keeps R L s0 s.endConflicts := by
  refine h.setPeers _ (fun hs e he => ?_)
  obtain ⟨⟨x, i⟩, hx, rfl⟩ := List.mem_map.mp he
  have bound := hs x (List.fst_mem_of_mem_zipIdx hx)
  dsimp only
  split
  · split
    · exact bound
    · exact bound
  · exact bound

theorem countEntered (h : Keeps R L s0 s) (before : List PeerEntry) :
    Keeps R L s0 (s.countEntered before) :=
  foldl (h.foldl (fun _ _ hx => hx.bump _) _) (fun _ _ hx => hx.bump _) _

theorem become_rejoins (e : PeerEntry) (f : Freshness) (h : e.rejoins ≤ 65535) :
    (e.become f).rejoins ≤ 65535 := by
  unfold PeerEntry.become
  dsimp only
  split
  · exact satInc_le _
  · exact h

theorem renewEntry (h : Keeps R L s0 s) (f : Frame) : Keeps R L s0 (s.renewEntry f) := by
  unfold State.renewEntry
  refine countEntered (endConflicts (spreadConflict (setEntry (h.setEntry _ _ fun e he => ?_) _ _
    fun e he => become_rejoins e _ he) _)) _
  split
  · exact he
  · exact he

theorem store_rejoins (e : PeerEntry) (p : Payload) (h : e.rejoins ≤ 65535) :
    (e.store p).rejoins ≤ 65535 := by
  cases p <;> exact h

theorem passBrake (h : Keeps R L s0 s) (f : Frame) : Keeps R L s0 (s.passBrake f) := by
  unfold State.passBrake
  split
  · exact .cond (fun _ => (h.takeOrder _ _ _ _ _).touch (clearHeld_touches _) (by decide))
      (fun _ => h.takeOrder _ _ _ _ _)
  · split
    · exact h.takeAnnounced _ _
    · exact h

theorem takeNotice (h : Keeps R L s0 s) (n : TripNotice) : Keeps R L s0 (s.takeNotice n) := by
  have stored : Keeps R L s0 { s with prof := { s.prof with notice := some n } } :=
    h.touch (X := [.notice]) (fun p hp => by cases p <;> first | rfl | exact absurd (by decide) hp) (by decide)
  unfold State.takeNotice
  refine .cond (fun _ => ?_) (fun _ => h.bump _)
  dsimp only
  split
  · exact .cond (fun _ => stored.touch (judgeOpening_touches _ _ _) (by decide)) (fun _ => stored)
  · exact stored

theorem takeDriveMotion (h : Keeps R L s0 s) (m : Motion) : Keeps R L s0 (s.takeDriveMotion m) := by
  have judged : Keeps R L s0 (if emptiesNotice m s.prof.notice then s.emptyNotice else s) :=
    .cond (fun _ => h.touch (emptyNotice_touches s) (by decide)) (fun _ => h)
  unfold State.takeDriveMotion
  dsimp only
  split
  · exact judged.doorDriveMotion _
  · exact judged

theorem route (h : Keeps R L s0 s) (source : Nat) (id : Identity) {deliver : State → State}
    (hd : Keeps R L s0 (deliver s)) : Keeps R L s0 (s.route source id deliver) :=
  .cond (fun _ => hd) (fun _ => h.bump _)

theorem routeWithdrawal (h : Keeps R L s0 s) (source b : Nat) (c : CarId) (g : Nat)
    (r : WithdrawReason) : Keeps R L s0 (s.routeWithdrawal source b c g r) := by
  unfold State.routeWithdrawal
  dsimp only
  split
  · exact .cond (fun _ => h.route _ _ (h.takeCarWithdrawal _ _ _)) (fun _ => h)
  · exact .cond (fun _ => h.route _ _ (h.takeBerthWithdrawal _ _)) (fun _ => h)
  · exact .cond (fun _ => h.bump _) (fun _ => h)

theorem deliver (h : Keeps R L s0 s) (f : Frame) (hR : f.payload.kind = .brakeReset → R) :
    Keeps R L s0 (s.deliver f) := by
  unfold State.deliver
  dsimp only
  split
  next heq => exact h.route _ _ (h.judgeReset (hR (by rw [heq]; rfl)) _)
  · exact .cond (fun _ => h.route _ _ (h.takeNotice _)) (fun _ => h)
  · exact .cond (fun _ => h.route _ _ (h.takeEvacuation _)) (fun _ => h)
  · exact .cond (fun _ => h.route _ _ (h.recordReply _ _ _)) (fun _ => h)
  · exact .cond (fun _ => h.route _ _ (h.takeRequest _ _ _)) (fun _ => h)
  · exact .cond (fun _ => h.route _ _ (h.takeGrant _ _ _ _)) (fun _ => h)
  · exact .cond (fun _ => h.route _ _ (h.takeRefusal _ _ _)) (fun _ => h)
  · exact h.routeWithdrawal _ _ _ _ _
  · exact h

theorem takeRecord (h : Keeps R L s0 s) (f : Frame) : Keeps R L s0 (s.takeRecord f) := by
  unfold State.takeRecord
  dsimp only
  split
  · exact .cond (fun _ => h.takeDriveMotion _) (fun _ => h)
  · exact .cond (fun _ => h.judgeLoadReport _ _) (fun _ => h)
  · exact h.judgeDoorState _ _ _
  · exact .cond (fun _ => h.takeAdmission _ _) (fun _ => h)
  · exact h

theorem notice (h : Keeps R L s0 s) (id : Identity) : Keeps R L s0 (s.notice id) := by
  unfold State.notice
  split
  · exact h.judgeClosing
  · exact .cond (fun _ => h.judgeClosing) (fun _ => h)
  · exact h.judgeRequest.lockClosing
  · exact .cond (fun _ => h.judgeRelease.judgeStanding.lockClosing) (fun _ => h)
  · exact .cond (fun _ => h.judgeGrant) (fun _ => h)
  · exact h

theorem noticeChanges (h : Keeps R L s0 s) (before : List PeerEntry) (stored : List Identity) :
    Keeps R L s0 (s.noticeChanges before stored) := h.foldl (fun _ _ hx => hx.notice _) _

theorem applyFrame (h : Keeps R L s0 s) (f : Frame) (hR : f.payload.kind = .brakeReset → R) :
    Keeps R L s0 (s.applyFrame f) := by
  unfold State.applyFrame
  exact ((((((h.renewEntry f).setEntry _ _ (fun e he => store_rejoins e _ he)).passBrake
    f).takeRecord f).deliver f hR).noticeChanges _ _)

theorem takeChecked (h : Keeps R L s0 s) (f : Frame) (hR : f.payload.kind = .brakeReset → R) :
    Keeps R L s0 (s.takeChecked f) := by
  unfold State.takeChecked
  split
  · exact .cond (fun _ => h.bump _) (fun _ => (h.passControl f).applyFrame f hR)
  · exact (h.passState f).applyFrame f hR
  · exact h.applyFrame f hR

/-- A BRAKE RESET waits in the receive buffer. -/
def Holds (s : State) : Prop := ∃ f ∈ s.bus.rx, f.payload.kind = .brakeReset

theorem holds_of_rx {s t : State} (h : Holds t) (ht : t.bus.rx ⊆ s.bus.rx) : Holds s := by
  obtain ⟨f, hf, hk⟩ := h
  exact ⟨f, ht hf, hk⟩

theorem dropOldest (h : Keeps R L s0 s) (f : Frame) (rest : List Frame) (hrx : s.bus.rx = f :: rest) :
    Keeps R L s0 { s with bus := { s.bus with rx := rest } } :=
  h.bounded (dropOldest_touches rest s) (fun hb => hb.setRx rest (by
    have : s.bus.rx.length ≤ 16 := hb.2.1
    rw [hrx] at this
    exact (Nat.le_succ _).trans this)) (by decide)

theorem takeOne (h : Keeps R L s0 s) (hR : Holds s → R) : Keeps R L s0 s.takeOne := by
  unfold State.takeOne
  split
  · exact h
  next f rest hrx =>
    exact (h.dropOldest f rest hrx).takeChecked f
      (fun hk => hR ⟨f, hrx ▸ List.mem_cons_self, hk⟩)

theorem takeOne_rx (s : State) : s.takeOne.bus.rx = s.bus.rx.tail := by
  unfold State.takeOne
  split
  next hrx => rw [hrx]; rfl
  next f rest hrx =>
    rw [hrx, (takeChecked_touches f { s with bus := { s.bus with rx := rest } }).rx_eq]
    rfl

theorem takeFrames (n : Nat) (h : Keeps R L s0 s) (hR : Holds s → R) :
    Keeps R L s0 (s.takeFrames n) := by
  induction n generalizing s with
  | zero => exact h
  | succ n ih =>
    exact ih (h.takeOne hR)
      (fun hx => hR (holds_of_rx hx ((takeOne_rx s).symm ▸ List.tail_subset _)))

theorem takeAll (h : Keeps R L s0 s) (hR : Holds s → R) : Keeps R L s0 s.takeAll :=
  h.takeFrames _ hR

theorem redecide (h : Keeps R L s0 s) (hR : Holds s → R) : Keeps R L s0 s.redecide := by
  unfold State.redecide
  refine .cond (fun _ => ?_) (fun _ => h)
  split
  · exact (h.takeAll hR).decideAgain
  · exact h

theorem goStale (h : Keeps R L s0 s) (addr : Nat) : Keeps R L s0 (s.goStale addr) :=
  (h.setEntry addr ({ · with freshness := .stale }) (fun _ he => he)).noticeChanges _ _

theorem goLost (h : Keeps R L s0 s) (addr : Nat) : Keeps R L s0 (s.goLost addr) := by
  have lost := ((h.setEntry addr ({ · with freshness := .lost })
    (fun _ he => he)).endConflicts).countEntered s.peers
  unfold State.goLost
  refine noticeChanges (.cond (fun _ => .cond (fun _ => ?_) (fun _ => ?_)) (fun _ => lost)) _ _
  · exact (lost.touch (clearHeld_touches _) (by decide)).touch (emptyNotice_touches _) (by decide)
  · exact lost.touch (clearHeld_touches _) (by decide)

/-! ## The line bus controller -/

theorem endAttempt (h : Keeps R L s0 s) : Keeps R L s0 s.endAttempt :=
  h.bounded (endAttempt_touches s) (fun hb => hb.endAttempt) (by decide)

theorem removeOnBus (h : Keeps R L s0 s) : Keeps R L s0 s.removeOnBus :=
  h.bounded (removeOnBus_touches s) (fun hb => hb.removeOnBus) (by decide)

theorem offer (h : Keeps R L s0 s) : Keeps R L s0 s.offer := by
  have footed := h.touch (busIdle_touches s) (by decide)
  exact .cond (fun _ => footed.bounded (offerHead_touches _) (fun hb => hb.offerHead) (by decide))
    (fun _ => footed)

theorem failAttempt (h : Keeps R L s0 s) : Keeps R L s0 s.failAttempt := by
  unfold State.failAttempt
  split
  · exact h.endAttempt
  · exact .cond (fun _ => ((h.removeOnBus.endAttempt).bump _).tellNotSent _)
      (fun _ => endAttempt (h.bounded (setQueueOnly_touches (fun b => b.queue.map (fun g =>
        if g.onBus then { g with failed := g.failed + 1 } else g)) s) (fun hb => hb.countFailed) (by decide)))

theorem removeControls (h : Keeps R L s0 s) : Keeps R L s0 s.removeControls :=
  foldl (h.bounded (setQueueOnly_touches (fun b => b.queue.filter (fun f => !f.isControl)) s)
    (fun hb => hb.filterQueue _) (by decide)) (fun _ _ hx => hx.tellNotSent _) _

theorem enterConflict (h : Keeps R L s0 s) (hR : Holds s → R) : Keeps R L s0 s.enterConflict := by
  have entered := h.touch (setPhase_touches (.configured .addressConflict) s) (by decide)
  have rx := ((raise_touches .addressConflict 2
    { s with phase := .configured .addressConflict }).rx_eq).symm.trans
      (removeControls_touches _).rx_eq.symm
  unfold State.enterConflict
  refine redecide (removeControls (entered.raise _ _)) (fun hx => hR (holds_of_rx hx ?_))
  rw [← rx]
  exact List.Subset.refl _

theorem conflictError (h : Keeps R L s0 s) (field : BitField) (hR : Holds s → R) :
    Keeps R L s0 (s.conflictError field) := by
  have counted := h.touch (setConflictRun_touches (min 3 (s.bus.conflictRun + 1)) s) (by decide)
  exact .cond (fun _ => .cond (fun _ => counted.enterConflict hR) (fun _ => counted)) (fun _ => h)

theorem bitError (h : Keeps R L s0 s) (field : BitField) (hR : Holds s → R) :
    Keeps R L s0 (s.bitError field) := by
  have aborted := (h.bump .bitErrors).touch (t := (s.bump .bitErrors).setBus
    ({ · with abortPlaced := true })) (X := [.abortPlaced])
    (fun p hp => by cases p <;> first | rfl | exact absurd (by decide) hp) (by decide)
  refine .cond (fun _ => aborted.failAttempt.conflictError field (fun hx => hR ?_)) (fun _ => h)
  refine holds_of_rx hx ?_
  rw [(failAttempt_touches _).rx_eq]
  exact List.Subset.refl _

theorem loseArbitration (h : Keeps R L s0 s) : Keeps R L s0 s.loseArbitration :=
  .cond (fun _ => (h.bump _).endAttempt) (fun _ => h)

theorem noAck (h : Keeps R L s0 s) : Keeps R L s0 s.noAck := by
  have failed := ((h.bump .noAckAttempts).touch (setConflictRun_touches 0 _) (by decide)).failAttempt
  unfold State.noAck
  split
  · exact .cond (fun _ => failed.touch (gateDoubt_touches _) (by decide)) (fun _ => failed)
  · exact h

theorem tellSent (h : Keeps R L s0 s) (p : Payload)
    (hR : (Holds s ∨ p.kind = .brakeReset) → R) : Keeps R L s0 (s.tellSent p) := by
  unfold State.tellSent
  split
  · refine .cond (fun _ => (h.touch (reportSent_touches _ s) (by decide)).redecide (fun hx => hR (.inl ?_)))
      (fun _ => h)
    refine holds_of_rx hx ?_
    rw [(reportSent_touches _ s).rx_eq]
    exact List.Subset.refl _
  · exact .cond (fun _ => h.judgeReset (hR (.inr rfl)) _) (fun _ => h)
  · exact h

theorem sent (h : Keeps R L s0 s)
    (hR : (Holds s ∨ ∃ f, s.onBus = some f ∧ f.payload.kind = .brakeReset) → R) :
    Keeps R L s0 s.sent := by
  have counted := (h.bump .framesSent).touch (setConflictRun_touches 0 _) (by decide)
  unfold State.sent
  refine .cond (fun _ => ?_) (fun _ => h)
  dsimp only
  split
  next f hf => exact counted.removeOnBus.endAttempt.tellSent f.payload (fun hx =>
      hR (hx.imp id fun hk => ⟨f, hf, hk⟩))
  next => exact counted.endAttempt

theorem store (h : Keeps R L s0 s) (f : Frame) : Keeps R L s0 (s.store f) := by
  have held (l : List Frame) (hl : s.bus.rx.length ≤ 16 → l.length ≤ 16) :
      Keeps R L s0 { s with bus := { s.bus with rx := l } } :=
    h.bounded (dropOldest_touches l s) (fun hb => hb.setRx l (hl hb.2.1)) (by decide)
  have slip := (held (slipped s.bus.rx f) (fun hl => (slipped_length _ _).le.trans hl)).bump .slips
  unfold State.store
  refine .cond (fun hroom => held _ (fun _ => ?_)) (fun _ => .cond
    (fun _ => slip.touch (gateDoubt_touches _) (by decide)) (fun _ => slip))
  rw [List.length_append]
  exact hroom

theorem takeError (h : Keeps R L s0 s) (e : ReceiveError) : Keeps R L s0 (s.takeError e) := by
  have counted := (h.bump (errorCount e)).touch (setAck_touches false _) (by decide)
  exact .cond (fun _ => counted.touch (gateDoubt_touches _) (by decide)) (fun _ => counted)

theorem complete (h : Keeps R L s0 s) (raw : RawFrame) : Keeps R L s0 (s.complete raw) := by
  have acked := h.touch (setAck_touches s.operating s) (by decide)
  unfold State.complete
  split
  · exact h.takeError _
  · exact .cond (fun _ => acked.bump _) (fun _ => acked.store _)

/-! ## The sample event -/

theorem judgeLoss (h : Keeps R L s0 s) (hL : L) (a b : Bool) : Keeps R L s0 (s.judgeLoss a b) := by
  have step (x : State) (f : Measurement → Measurement)
      (hf : ∀ m, (f m).standstill = x.meas.standstill ∨ (f m).standstill = m.standstill)
      (hx : Keeps R L s0 x) : Keeps R L s0 (x.setMeas f) :=
    hx.touch (X := [.channels, .reference, .speed, .position, .marks, .weight]) (fun p hp => by
      cases p <;> first
        | rfl
        | exact absurd (by decide) hp
        | exact (hf x.meas).elim id id) (by decide)
  have counted (x : State) (c : Bool) (hx : Keeps R L s0 x) :
      Keeps R L s0 (if c then x.bump .channelLosses else x) :=
    .cond (fun _ => hx.bump _) (fun _ => hx)
  unfold State.judgeLoss
  dsimp only
  refine .cond (fun _ => .cond (fun _ => latch ?_ hL _ _) (fun _ => ?_))
    (fun _ => step _ _ (fun _ => .inl rfl) h)
  all_goals
    exact counted _ _ (counted _ _ (step _ _ (fun _ => .inr rfl) (step _ _ (fun _ => .inl rfl) h)))

/-- A change of the measurements other than the standstill flag. -/
theorem setMeas (h : Keeps R L s0 s) (f : Measurement → Measurement)
    (hf : (f s.meas).standstill = s.meas.standstill) : Keeps R L s0 (s.setMeas f) :=
  h.touch (X := [.channels, .reference, .speed, .position, .marks, .weight]) (fun p hp => by
    cases p <;> first | rfl | exact absurd (by decide) hp | exact hf) (by decide)

theorem judgeDisagree (h : Keeps R L s0 s) (hL : L) (sample : Nat) :
    Keeps R L s0 (s.judgeDisagree sample) :=
  .cond (fun _ => (h.setMeas _ rfl).latch hL _ _) (fun _ => h)

theorem judgeAgree (h : Keeps R L s0 s) (sample : Nat) : Keeps R L s0 (s.judgeAgree sample) :=
  .cond (fun _ => h.setMeas _ rfl) (fun _ => h)

theorem sampleDisagree (h : Keeps R L s0 s) (hL : L) : Keeps R L s0 s.sampleDisagree :=
  .cond (fun _ => ((h.setMeas _ rfl).judgeDisagree hL _).judgeAgree _) (fun _ => h)

theorem judgeStandstill (h : Keeps False L s0 s) (sample : Nat) :
    Keeps False L s0 (s.judgeStandstill sample) :=
  .cond (fun _ => (h.measure (setMeas_touches _ s) (by decide)).setDoor _) (fun _ => h)

theorem sampleStandstill (h : Keeps False L s0 s) : Keeps False L s0 s.sampleStandstill :=
  .cond (fun _ => (h.measure (setMeas_touches _ s) (by decide)).judgeStandstill _)
    (fun _ => h.measure (setMeas_touches _ s) (by decide))

theorem setPosition (h : Keeps R L s0 s) (acc rawH : Int) (u : Nat) :
    Keeps R L s0 (s.setPosition acc rawH u) := h.touch (setPosition_touches acc rawH u s) (by decide)

theorem sampleAdoption (h : Keeps R L s0 s) : Keeps R L s0 s.sampleAdoption := by
  unfold State.sampleAdoption
  refine .cond (fun _ => ?_) (fun _ => h)
  split
  · exact (h.setPosition _ _ _).setMeas _ rfl
  · exact h

theorem missMark (h : Keeps R L s0 s) (hL : L) (i : Nat) : Keeps R L s0 (s.missMark i) :=
  .cond (fun _ => ((h.setMeas _ rfl).bump _).latch hL _ _) (fun _ => (h.setMeas _ rfl).bump _)

theorem sampleMarks (h : Keeps R L s0 s) (hL : L) : Keeps R L s0 s.sampleMarks := by
  have sought : Keeps R L s0 (if s.meas.signDiffers then s.expectFrom s.ownTrack else s) :=
    .cond (fun _ => h.setMeas _ rfl) (fun _ => h)
  unfold State.sampleMarks
  dsimp only
  split
  · split
    · exact .cond (fun _ => sought.missMark hL _) (fun _ => sought)
    · exact sought
  · exact sought

theorem sampleEndOfTrack (h : Keeps R L s0 s) (hL : L) : Keeps R L s0 s.sampleEndOfTrack :=
  .cond (fun _ => (h.setMeas _ rfl).latch hL _ _) (fun _ => h.setMeas _ rfl)

theorem sampleDegraded (h : Keeps R L s0 s) (hL : L) : Keeps R L s0 s.sampleDegraded :=
  .cond (fun _ => (h.setMeas _ rfl).latch hL _ _) (fun _ => h.setMeas _ rfl)

theorem rememberSign (h : Keeps R L s0 s) : Keeps R L s0 s.rememberSign :=
  h.setMeas _ (by split <;> rfl)

theorem sampleLimits (h : Keeps R L s0 s) (hL : L) : Keeps R L s0 s.sampleLimits := by
  unfold State.sampleLimits
  refine rememberSign (.cond (fun _ => sampleDegraded (.cond (fun _ => ?_) (fun _ => ?_)) hL) (fun _ => h))
  · exact (h.sampleEndOfTrack hL).sampleMarks hL
  · exact h.sampleEndOfTrack hL

theorem weigh_standstill (m : Measurement) (first : Bool) (load : Nat) :
    (m.weigh first load).standstill = m.standstill := by
  unfold Measurement.weigh
  dsimp only
  generalize List.drop _ _ = joined
  split <;> rfl

theorem sampleLoad (h : Keeps R L s0 s) (stood : Bool) (reading : BitVec 16) :
    Keeps R L s0 (s.sampleLoad stood reading) :=
  .cond (fun _ => h.setMeas _ (weigh_standstill _ _ _)) (fun _ => h)

theorem samplePosition (h : Keeps R L s0 s) (reference : ChannelId) :
    Keeps R L s0 (s.samplePosition reference) := by
  unfold State.samplePosition
  exact h.setMeas _ rfl

theorem sampleMeasurement (h : Keeps False True s0 s) (reading : BitVec 16) :
    Keeps False True s0 (s.sampleMeasurement reading) := by
  have speeds : Keeps False True s0 s.sampleSpeeds := by
    unfold State.sampleSpeeds
    exact h.setMeas _ rfl
  have lossy : Keeps False True s0 s.sampleSpeeds.sampleLoss :=
    (speeds.setMeas _ rfl).judgeLoss trivial _ _
  have placed : Keeps False True s0
      (s.sampleSpeeds.sampleLoss.sampleDisagree.samplePosition s.meas.reference) :=
    (lossy.sampleDisagree trivial).samplePosition _
  exact ((placed.sampleStandstill.sampleAdoption.sampleLimits trivial).sampleLoad _ _).setMeas _ rfl

theorem raiseCause (h : Keeps R True s0 s) (c : Cause) : Keeps R True s0 (s.raiseCause c) :=
  .cond (fun _ => (h.latch trivial _ _).touch (requestProof_touches _) (by decide))
    (fun _ => h.latch trivial _ _)

theorem setSup (h : Keeps R L s0 s) (f : Supervision → Supervision) : Keeps R L s0 (s.setSup f) :=
  h.touch (setSup_touches f s) (by decide)

theorem supervisionInputs (h : Keeps R L s0 s) : Keeps R L s0 s.supervisionInputs := by
  unfold State.supervisionInputs
  split
  · exact (h.touch (sampleSet_touches s) (by decide)).setSup _
  · unfold State.judgeDeclaration
    split
    · exact .cond (fun _ => h.declareSet1) (fun _ => h)
    · exact h

theorem takeResult (h : Keeps R L s0 s) (r : SupervisionResult) : Keeps R L s0 (s.takeResult r) :=
  .cond (fun _ => (h.setSup _).bump _) (fun _ => h.setSup _)

theorem takePresent (h : Keeps R True s0 s) (l : List Cause) : Keeps R True s0 (s.takePresent l) :=
  (h.setSup _).foldl (fun _ _ hx => hx.raiseCause _) _

theorem supervisionSample (h : Keeps R True s0 s) : Keeps R True s0 s.supervisionSample := by
  unfold State.supervisionSample
  exact takePresent (takeResult (h.supervisionInputs.setSup _) _) _

theorem judgeOpenMoving (h : Keeps R L s0 s) (hL : L) : Keeps R L s0 s.judgeOpenMoving :=
  .cond (fun _ => (h.setDoor _).latch hL _ _) (fun _ => h.setDoor _)

theorem doorSample (h : Keeps R L s0 s) (hL : L) : Keeps R L s0 s.doorSample := by
  unfold State.doorSample
  exact (judgeRelease (.cond (fun _ => h.judgeOpenMoving hL)
    (fun _ => (h.judgeOpenMoving hL).endEvacuation))).judgeRequest.judgeStanding.lockClosing

theorem tripSample (h : Keeps R L s0 s) (hR : Holds s → R) (owed : Option TripRecord) :
    Keeps R L s0 (s.tripSample owed) := by
  have queued := h.requeueNotice owed
  have taken := queued.takeAll (fun hx => hR (holds_of_rx hx (by
    rw [(requeueNotice_touches owed s).rx_eq]
    exact List.Subset.refl _)))
  unfold State.tripSample
  refine touch (touch (.cond (fun _ => .cond (fun _ => taken.judgeReady) (fun _ => taken))
    (fun _ => queued.haulageSample)) (restSetpoint_touches _) (by decide)) (setAnalogCode_touches _) (by decide)

theorem roleSample (h : Keeps R L s0 s) (hL : L) (hR : Holds s → R) (owed : Option TripRecord) :
    Keeps R L s0 (s.roleSample owed) := by
  unfold State.roleSample
  split
  · exact h.tripSample hR owed
  · exact (h.doorSample hL).touch (trackAsk_touches _) (by decide)
  · exact h

theorem sampleBlocks (h : Keeps False True s0 s) (reading : BitVec 16) :
    Keeps False True s0 (s.sampleBlocks reading) := by
  have measured := (h.touch (restartSample_touches reading s) (by decide)).sampleMeasurement reading
  exact .cond (fun _ => measured.supervisionSample) (fun _ => measured)

theorem sample (h : Keeps False True s0 s) (hR : Holds s → R) (reading : BitVec 16) :
    Keeps R L s0 (s.sample reading) := by
  rw [sample_eq]
  have sampled : Keeps R True s0 (s.sampleBlocks reading) := (h.sampleBlocks reading).allow
  refine .cond (fun _ => queueState (judged ?_) _) (fun _ => judged ?_)
  all_goals
    refine sampled.roleSample trivial (fun hx => hR (holds_of_rx hx ?_)) _
    rw [(sampleBlocks_touches reading s).rx_eq]
    exact List.Subset.refl _

/-! ## Inputs, the reader line, the service port and the start -/

theorem doorLockedChange (h : Keeps R L s0 s) : Keeps R L s0 s.doorLockedChange :=
  judged (h.lockClosing.unjudged.judgeOpenMoving trivial)

theorem momentary (h : Keeps R L s0 s) {act : State → State} (active : Bool)
    (ha : Keeps R L s0 (act s)) : Keeps R L s0 (s.momentary active act) :=
  .cond (fun _ => ha) (fun _ => h)

theorem inputChanged (h : Keeps R L s0 s) (i : Nat) (active : Bool) :
    Keeps R L s0 (s.inputChanged i active) := by
  unfold State.inputChanged
  split
  · exact .cond (fun _ => h.torqueProof) (fun _ => h)
  · exact h.momentary _ h.dispatchKey
  · exact .cond (fun _ => h.modeKey) (fun _ => h)
  · exact h.momentary _ h.reducedSpeedKey
  · exact h.momentary _ h.recoveryKey
  · exact h.momentary _ h.evacuationKey
  · exact h.momentary _ h.parkKeyOn
  · exact .cond (fun _ => h.resetKey) (fun _ => h)
  · exact h.doorLockedChange
  · exact h.doorLockedChange
  · exact .cond (fun _ => .cond (fun _ => h) (fun _ => h.setDoor _)) (fun _ => h)
  · exact .cond (fun _ => h.raise _ _) (fun _ => h)
  · exact h.judgeGrant
  · exact h.judgeGrant
  · exact .cond (fun _ => h.raise _ _) (fun _ => h)
  · exact .cond (fun _ => h.passage) (fun _ => h)
  · exact h

theorem debounce (h : Keeps R L s0 s) (i : Nat) : Keeps R L s0 (s.debounce i) :=
  (h.touch (takeLevel_touches i s) (by decide)).inputChanged i _

theorem replyFormat (h : Keeps R L s0 s) : Keeps R L s0 s.replyFormat := (h.reply _).bump _

theorem present (h : Keeps R L s0 s) (x : Ticket) (hR : Holds s → R) :
    Keeps R L s0 (s.present x) := by
  unfold State.present
  split
  · exact (h.takeAll hR).decideTicket _ _
  · exact h.reply _

theorem outsideChar (h : Keeps R L s0 s) (c : ReaderChar) : Keeps R L s0 (s.outsideChar c) :=
  .cond (fun _ => h.touch (setAssembling_touches _ s) (by decide)) (fun _ => h.bump _)

theorem deliverRecord (h : Keeps R L s0 s) (l : List Byte) (hR : Holds s → R) :
    Keeps R L s0 (s.deliverRecord l) := by
  unfold State.deliverRecord
  split
  · exact h.present _ hR
  · exact h.replyFormat

theorem readerChar (h : Keeps R L s0 s) (c : ReaderChar) (hR : Holds s → R) :
    Keeps R L s0 (s.readerChar c) := by
  have broken : Keeps R L s0 s.breakFraming := (h.touch (setAssembling_touches [] s) (by decide)).replyFormat
  exact .cond (fun _ => h.outsideChar c) (fun _ => .cond (fun _ => broken.outsideChar c)
    (fun _ => .cond (fun _ => h.touch (setAssembling_touches _ s) (by decide))
      (fun _ => (h.touch (setAssembling_touches [] s) (by decide)).deliverRecord _ hR)))

theorem command (h : Keeps R L s0 s) (c : ServiceCommand) : Keeps R L s0 (s.command c) := by
  have answer (x : State) (a : Answer) (own : Bool) (hx : Keeps R L s0 x) :
      Keeps R L s0 (x.answerWith a own) := hx.touch (answerWith_touches a own x) (by decide)
  have refuse (r : RefusalCode) (own : Bool) : Keeps R L s0 (s.refuseWith r own) :=
    (answer s _ _ h).bump _
  have cleared : Keeps R L s0 s.clearAllCounts := by
    refine h.bounded (X := [.counts, .peers]) (fun p hp => by
      cases p <;> first | rfl | exact absurd (by decide) hp) (fun hb => ?_) (by decide)
    obtain ⟨hq, hrx, hrec, hpass, -⟩ := hb
    refine ⟨hq, hrx, hrec, hpass, fun n hn => ?_, fun e he => ?_⟩
    · rw [(List.mem_replicate.mp hn).2]; exact Nat.zero_le _
    · obtain ⟨x, -, rfl⟩ := List.mem_map.mp he
      exact Nat.zero_le _
  have restored : Keeps R L s0 s.restoreReference := by
    unfold State.restoreReference
    exact h.setMeas _ rfl
  unfold State.command
  refine .cond (fun _ => h) (fun _ => .cond (fun _ => refuse _ _) (fun _ => ?_))
  split
  · exact refuse _ _
  · unfold State.carryOut
    split
    · split
      · exact answer _ _ _ h
      · exact h
    · exact answer _ _ _ h
    · exact answer _ _ _ h
    · exact answer _ _ _ h
    · exact answer _ _ _ h
    · exact answer _ _ _ cleared
    · exact .cond (fun _ => refuse _ _) (fun _ => .cond (fun _ => refuse _ _)
        (fun _ => answer _ _ _ restored))
    · exact h

theorem configRead (h : Keeps False False s0 s) (i : Image) (reading : BitVec 16)
    (hR : Holds s → R) : Keeps R False s0 (s.configRead i reading) := by
  have fault (f : CheckFailure) : Keeps False False s0 (s.enterConfigFault f) :=
    (h.touch (X := [.phase, .failure]) (fun p hp => by
      cases p <;> first | rfl | exact absurd (by decide) hp) (by decide)).raise _ _
  unfold State.configRead
  split
  next id _ _ =>
    have taken := h.touch (takeConfig_touches (imageConfig i id) s) (by decide)
    have listening := taken.touch (t := { s.takeConfig (imageConfig i id) with
      phase := .configured .listening
      listenDue := some ((s.takeConfig (imageConfig i id)).after 500) }) (X := [.phase, .listenDue])
      (fun p hp => by cases p <;> first | rfl | exact absurd (by decide) hp) (by decide)
    unfold State.enterListening
    refine sample (touch (listening.raise _ _).queueAllStates (startDebounce_touches _)
      (by decide)).unjudged
      (fun hx => hR (holds_of_rx hx ?_)) reading
    rw [(startDebounce_touches _).rx_eq, (queueAllStates_touches _).rx_eq,
      (raise_touches _ _ _).rx_eq]
    exact List.Subset.refl _
  · exact (fault _).allow
  · exact (fault _).allow

end Keeps

end Sys2Proof.Machine
end


section
/-! # The bounds and the levels over a whole step (O4, O5) -/

namespace Sys2Proof.Machine

open Sys2Proof

/-! ## The receive buffer only shrinks while frames are taken -/

theorem takeFrames_rx_subset (n : Nat) (s : State) : (s.takeFrames n).bus.rx ⊆ s.bus.rx := by
  induction n generalizing s with
  | zero => exact List.Subset.refl _
  | succ n ih =>
    have := ih s.takeOne
    rw [Keeps.takeOne_rx] at this
    exact List.Subset.trans this (List.tail_subset _)

theorem present_rx_subset (x : Ticket) (s : State) : (s.present x).bus.rx ⊆ s.bus.rx := by
  unfold State.present
  split
  · unfold State.firstDecision
    rw [(decideTicket_touches _ _ _).rx_eq]
    exact takeFrames_rx_subset _ _
  · rw [(reply_touches _ _).rx_eq]
    exact List.Subset.refl _

theorem deliverRecord_rx_subset (l : List Byte) (s : State) :
    (s.deliverRecord l).bus.rx ⊆ s.bus.rx := by
  unfold State.deliverRecord
  split
  · exact present_rx_subset _ _
  · rw [(replyFormat_touches _).rx_eq]
    exact List.Subset.refl _

theorem outsideChar_rx (c : ReaderChar) (s : State) : (s.outsideChar c).bus.rx = s.bus.rx := by
  unfold State.outsideChar
  split
  · exact (setAssembling_touches _ s).rx_eq
  · exact (bump_touches _ s).rx_eq

theorem readerChar_rx_subset (c : ReaderChar) (s : State) :
    (s.readerChar c).bus.rx ⊆ s.bus.rx := by
  unfold State.readerChar
  split
  · rw [outsideChar_rx]
    exact List.Subset.refl _
  · split
    · rw [outsideChar_rx, State.breakFraming, (replyFormat_touches _).rx_eq,
        (setAssembling_touches _ s).rx_eq]
      exact List.Subset.refl _
    · unfold State.joinChar
      dsimp only
      split
      · rw [(setAssembling_touches _ s).rx_eq]
        exact List.Subset.refl _
      · exact deliverRecord_rx_subset _ _

namespace Keeps

variable {R L : Prop} {s0 s : State}

theorem readerChars (l : List ReaderChar) (h : Keeps R L s0 s) (hR : Holds s → R) :
    Keeps R L s0 (l.foldl (fun t c => t.readerChar c) s) := by
  induction l generalizing s with
  | nil => exact h
  | cons c l ih =>
    exact ih (h.readerChar c hR) (fun hx => hR (holds_of_rx hx (readerChar_rx_subset c s)))

theorem transition (h : Keeps R L s0 s) (ch : ChannelId) (tr : QuadTransition) :
    Keeps R L s0 (s.transition ch tr) := by
  have counted (f : Channel → Channel) : Keeps R L s0 (s.setChannel ch f) :=
    h.touch (setChannel_touches ch f s) (by decide)
  cases tr
  case bothChanged => exact (counted _).bump _
  all_goals exact counted _

theorem matchMark (h : Keeps R L s0 s) (m : Mark) : Keeps R L s0 (s.matchMark m) := by
  unfold State.matchMark State.expectFrom
  exact ((h.setPosition _ _ _).setMeas _ rfl).setMeas _ rfl

theorem markEdge (h : Keeps R L s0 s) : Keeps R L s0 s.markEdge := by
  unfold State.markEdge
  refine .cond (fun _ => ?_) (fun _ => h.bump _)
  split
  · exact .cond (fun _ => h.matchMark _) (fun _ => h.bump _)
  · exact h.bump _

theorem onLatestSample (h : Keeps R False s0 s) (f : Nat → State → State)
    (hf : ∀ t, Keeps False True s0 s → Keeps False True s0 (f t s)) (hs : Keeps False False s0 s) :
    Keeps R False s0 (s.onLatestSample f) := by
  unfold State.onLatestSample
  split
  · exact .cond (fun _ => (hf _ hs.unjudged).judged.allow) (fun _ => h)
  · exact h

theorem settle (h : Keeps R L s0 s) : Keeps R L s0 s.settle := by
  have queued : Keeps R L s0 (if s.running then s.queueChangedStates else s) :=
    .cond (fun _ => h.foldl (fun _ _ hx => .cond (fun _ => hx.queueState _) (fun _ => hx)) _)
      (fun _ => h)
  have shown (x : State) (hx : Keeps R L s0 x) : Keeps R L s0 x.syncPresence :=
    hx.step (fun hb => hb.of_touches (X := [.demands]) (fun p hp => by
      cases p <;> first | rfl | exact absurd (by decide) hp)) (·.syncPresence)
      (fun _ hl => hl.syncPresence) (fun _ => Nat.le_refl _) (fun _ hs => hs)
  unfold State.settle
  exact (shown _ queued).touch (X := [.outputs]) (fun p hp => by
    cases p <;> first | rfl | exact absurd (by decide) hp) (by decide)

end Keeps

/-- A BRAKE RESET waits in the receive buffer or is the frame on the bus. -/
def ResetAtHand (s : State) : Prop :=
  Keeps.Holds s ∨ ∃ f, s.onBus = some f ∧ f.payload.kind = .brakeReset

/-- Every command but the resets keeps the bounds and the levels; a reset is accepted in it only where one is
at hand. -/
theorem effect_keeps {c : Instr} (hc : isResetCommand c = false) (n : State) :
    Keeps (ResetAtHand n) False n (effect c n) := by
  have idle : Keeps (ResetAtHand n) False n n := .refl n
  have lost (ch : ChannelId) (b : Bool) (h : Keeps False True n n) :
      Keeps False True n (if b then n.judgeLossOf ch else n) :=
    .cond (fun _ => h.judgeLoss trivial _ _) (fun _ => h)
  have held : Keeps.Holds n → ResetAtHand n := .inl
  unfold effect
  split
  case h_1 | h_2 | h_3 | h_4 => cases hc
  case h_5 => exact .cond (fun _ => (Keeps.refl n).configRead _ _ held) (fun _ => idle)
  case h_6 =>
    exact .cond (fun _ => idle.touch (X := [.phase, .listenDue]) (fun p hp => by
      cases p <;> first | rfl | exact absurd (by decide) hp) (by decide)) (fun _ => idle)
  case h_7 => exact .cond (fun _ => idle.transition _ _) (fun _ => idle)
  case h_8 => exact .cond (fun _ => idle.touch (setChannel_touches _ _ n) (by decide)) (fun _ => idle)
  case h_9 => exact .cond (fun _ => (Keeps.refl n).sample held _) (fun _ => idle)
  case h_10 => exact idle.onLatestSample _ (fun _ => lost _ _) (.refl n)
  case h_11 => exact idle.onLatestSample _ (fun _ => lost _ _) (.refl n)
  case h_12 =>
    exact idle.onLatestSample _ (fun _ h =>
      .cond (fun _ => h.judgeDisagree trivial _) (fun _ => h)) (.refl n)
  case h_13 =>
    exact idle.onLatestSample _ (fun _ h => .cond (fun _ => h.judgeAgree _) (fun _ => h)) (.refl n)
  case h_14 => exact idle.onLatestSample _ (fun _ h => h.judgeStandstill _) (.refl n)
  case h_15 =>
    exact idle.onLatestSample _ (fun _ h =>
      .cond (fun _ => (h.setSup _).latch trivial _ _) (fun _ => h)) (.refl n)
  case h_16 => exact .cond (fun _ => idle.markEdge) (fun _ => idle)
  case h_17 => exact idle.offer
  case h_18 => exact idle.loseArbitration
  case h_19 => exact idle.bitError _ held
  case h_20 => exact idle.sent id
  case h_21 => exact idle.noAck
  case h_22 => exact .cond (fun _ => idle.complete _) (fun _ => idle)
  case h_23 => exact .cond (fun _ => idle.takeError _) (fun _ => idle)
  case h_24 =>
    refine .cond (fun _ => (idle.takeOne held).redecide fun hx => ?_) (fun _ => idle)
    exact held (Keeps.holds_of_rx hx ((Keeps.takeOne_rx n).symm ▸ List.tail_subset _))
  case h_25 => exact .cond (fun _ => idle.queueState _) (fun _ => idle)
  case h_26 => exact .cond (fun _ => idle.goStale _) (fun _ => idle)
  case h_27 => exact .cond (fun _ => idle.goLost _) (fun _ => idle)
  case h_28 =>
    split
    · exact .cond (fun _ => idle.judgeProof _) (fun _ => idle)
    · exact idle
  case h_29 => exact idle.touch (rawChange_touches _ _ n) (by decide)
  case h_30 => exact .cond (fun _ => idle.debounce _) (fun _ => idle)
  case h_31 => exact .cond (fun _ => idle.dwellExpiry) (fun _ => idle)
  case h_32 => exact .cond (fun _ => idle.doorCloseTimeout) (fun _ => idle)
  case h_33 => exact .cond (fun _ => idle.setTrip _) (fun _ => idle)
  case h_34 => exact .cond (fun _ => idle.torqueTimeout) (fun _ => idle)
  case h_35 => exact .cond (fun _ => idle.repeatExpiry) (fun _ => idle)
  case h_36 => exact .cond (fun _ => idle.judgeHold.lockClosing) (fun _ => idle)
  case h_37 => exact .cond (fun _ => idle.discardExpiry) (fun _ => idle)
  case h_38 => exact .cond (fun _ => idle.readerChars _ held) (fun _ => idle)
  case h_39 =>
    exact .cond (fun _ => (idle.touch (setAssembling_touches [] n) (by decide)).replyFormat)
      (fun _ => idle)
  case h_40 => exact .cond (fun _ => idle.readerChar _ held) (fun _ => idle)
  case h_41 => exact .cond (fun _ => idle.holdTimeout) (fun _ => idle)
  case h_42 => exact .cond (fun _ => idle.passageTimeout) (fun _ => idle)
  case h_43 =>
    exact .cond (fun _ => idle.touch (X := [.red]) (fun p hp => by
      cases p <;> first | rfl | exact absurd (by decide) hp) (by decide)) (fun _ => idle)
  case h_44 =>
    exact .cond (fun _ => idle.bounded (expirePassback_touches n) (fun hb => hb.filterPassback _)
      (by decide)) (fun _ => idle)
  case h_45 =>
    exact .cond (fun _ => (idle.touch (X := [.hold]) (fun p hp => by
      cases p <;> first | rfl | exact absurd (by decide) hp) (by decide)).bump _) (fun _ => idle)
  case h_54 =>
    exact idle.touch (X := [.answers]) (fun p hp => by
      cases p <;> first | rfl | exact absurd (by decide) hp) (by decide)
  case h_55 => exact idle.touch (busIdle_touches n) (by decide)
  all_goals exact idle.command _

/-- What a whole step keeps that is no reset. -/
theorem step_keeps {c : Instr} (hc : isResetCommand c = false) (s : State) :
    Keeps (ResetAtHand s) False s (after c s).settle := by
  have run := effect_keeps hc (s.advance (commandTime c))
  exact Keeps.settle ⟨fun h => run.bounds (h.of_touches (advance_touches _ s)),
    fun h => run.mid (h.of_touches (advance_touches _ s) (by decide)),
    fun hL h => run.law hL (h.of_touches (advance_touches _ s) (by decide)),
    fun h => run.up (h.of_touches (advance_touches _ s) (by decide)),
    fun h => run.down (h.of_touches (advance_touches _ s) (by decide))⟩

/-! ## The resets -/

theorem afterReset_bounds {pending : List Instr} {phase : Phase} {pin : Bool} {raw : List Bool}
    {records : List BrakeRecord} (h : records.length ≤ 16) :
    BoundsLaw (State.afterReset pending phase pin raw records) := by
  refine ⟨⟨Nat.zero_le _, Nat.zero_le _, List.Pairwise.nil⟩, Nat.zero_le _, h,
    ⟨Nat.zero_le _, List.nodup_nil⟩, fun n hn => ?_, fun e he => ?_⟩
  · rw [(List.mem_replicate.mp hn).2]; exact Nat.zero_le _
  · rw [(List.mem_replicate.mp he).2]; exact Nat.zero_le _

theorem afterReset_brakeLaw (pending : List Instr) (phase : Phase) (pin : Bool) (raw : List Bool)
    (records : List BrakeRecord) : BrakeLaw (State.afterReset pending phase pin raw records) := by
  refine ⟨rfl, rfl, ?_, rfl, ?_⟩ <;> rfl

/-- What a reset command leads to from `s`, `n` being `s` after the time of the command: the reset values, or
only another level of the reset terminal (R185). -/
inductive ResetOutcome (s n : State) : State → Prop where
  | values (phase : Phase) (pin : Bool) (records : List BrakeRecord)
      (hrecords : records = [] ∨ records = s.brake.records)
      (hphase : phase = .starting ∨ phase = .inReset ∨ phase = .unpowered) :
      ResetOutcome s n (State.afterReset s.pending phase pin s.term.rawHigh records)
  | pin (pin : Bool) : ResetOutcome s n { n with resetPin := pin }

theorem after_of_reset {c : Instr} (hc : isResetCommand c = true) (s : State) :
    ResetOutcome s (s.advance (commandTime c)) (after c s) := by
  unfold after effect
  split
  case h_1 =>
    refine .values (if s.resetPin then .inReset else .starting) s.resetPin [] (.inl rfl) ?_
    split
    · exact .inr (.inl rfl)
    · exact .inl rfl
  case h_2 =>
    unfold State.pinRelease
    split
    · exact .pin false
    · exact .values .starting false _ (.inr rfl) (.inl rfl)
  case h_3 =>
    unfold State.pinActive
    split
    · exact .pin true
    · exact .values .inReset true _ (.inr rfl) (.inr (.inl rfl))
  case h_4 => exact .values .unpowered s.resetPin _ (.inr rfl) (.inr (.inr rfl))
  all_goals exact absurd hc Bool.false_ne_true

theorem pinLevel_touches (dt : Nat) (pin : Bool) (s : State) :
    Touches [.clock, .resetPin] s { s.advance dt with resetPin := pin } := fun p hp => by
  cases p <;> first | rfl | exact absurd (by decide) hp

/-- A step is an idle one or carries out a command. -/
theorem step_cases {s t : State} (h : step s = .next t) :
    (s.pending = [] ∧ t = s) ∨
      ∃ c rest, s.pending = c :: rest ∧ exec c { s with pending := rest } = .next t := by
  unfold step at h
  split at h
  next hp => exact .inl ⟨hp, by cases h; rfl⟩
  next c rest hp => exact .inr ⟨c, rest, hp, h⟩

theorem pending_touches (s : State) (rest : List Instr) :
    Touches [.pending] s { s with pending := rest } := fun p hp => by
  cases p <;> first | rfl | exact absurd (by decide) hp

theorem exec_keepsBounds {c : Instr} {s t : State} (h : BoundsLaw s) (ht : exec c s = .next t) :
    BoundsLaw t := by
  cases hc : isResetCommand c with
  | false =>
    rw [exec_of_not_reset hc] at ht
    cases ht
    exact (step_keeps hc s).bounds h
  | true =>
    rw [exec_of_reset hc] at ht
    cases ht
    have outcome := after_of_reset hc s
    generalize after c s = t at outcome ⊢
    cases outcome with
    | values phase pin records hrecords =>
      refine afterReset_bounds ?_
      rcases hrecords with rfl | rfl
      · exact Nat.zero_le _
      · exact h.2.2.1
    | pin pin => exact h.of_touches (pinLevel_touches _ pin s)

/-- Settles O4: each primitive operation on a bounded part keeps its bound (`BoundsLaw.enqueue` and the
lemmas beside it), every other one leaves those parts alone. -/
theorem stepKeepsBounds : Obligations.StepKeepsBounds := by
  intro s t h ht
  rcases step_cases ht with ⟨-, rfl⟩ | ⟨c, rest, -, ht⟩
  · exact h
  · exact exec_keepsBounds (h.of_touches (pending_touches s rest)) ht

theorem exec_keepsBrakeLaw {c : Instr} {s t : State} (h : BrakeLaw s) (ht : exec c s = .next t) :
    BrakeLaw t := by
  cases hc : isResetCommand c with
  | false =>
    rw [exec_of_not_reset hc] at ht
    cases ht
    exact (step_keeps hc s).law id h
  | true =>
    rw [exec_of_reset hc] at ht
    cases ht
    have outcome := after_of_reset hc s
    generalize after c s = t at outcome ⊢
    cases outcome with
    | values => exact afterReset_brakeLaw _ _ _ _ _
    | pin pin => exact h.of_touches (pinLevel_touches _ pin s) (by decide)

/-- Settles O5: within a command the levels keep `BrakeMid`, in which the level can fall only where a reset is
accepted, and the rise judged at the end of the command restores `BrakeLaw`. -/
theorem stepKeepsBrakeLaw : Obligations.StepKeepsBrakeLaw := by
  intro s t h ht
  rcases step_cases ht with ⟨-, rfl⟩ | ⟨c, rest, hp, ht⟩
  · exact ⟨h, fun _ => ⟨fun hlt => absurd hlt (Nat.lt_irrefl _), fun _ _ => Nat.le_refl _⟩⟩
  have h' : BrakeLaw { s with pending := rest } := h.of_touches (pending_touches s rest) (by decide)
  refine ⟨exec_keepsBrakeLaw h' ht, fun hreset => ?_⟩
  have hc := hreset c rest hp
  rw [exec_of_not_reset hc] at ht
  cases ht
  have run := step_keeps hc { s with pending := rest }
  refine ⟨fun hlt => run.down h'.mid hlt, fun hrx hbus => run.up h'.mid fun hhand => ?_⟩
  rcases hhand with ⟨f, hf, hk⟩ | ⟨f, hf, hk⟩
  · exact hrx f hf hk
  · exact hbus f hf hk

end Sys2Proof.Machine
end


section
/-! # Resets, start-up and the terminals of one command (Chapters 2, 10 and 11) -/

namespace Sys2Proof.Machine

open Sys2Proof

/-- Settles O3: each law is a closed fact about the one state right after a reset. -/
theorem lawsAtReset : Obligations.LawsAtReset :=
  ⟨afterReset_bounds (by decide), afterReset_brakeLaw _ _ _ _ _, ⟨rfl, rfl, rfl⟩,
    ⟨fun _ => by decide, fun h => by cases h⟩, ⟨fun _ => rfl, fun h => by cases h⟩,
    ⟨fun _ => ⟨rfl, rfl, rfl⟩, fun h => by cases h⟩⟩

/-- Settles O10. -/
theorem resetsRestart : Obligations.ResetsRestart := by
  refine fun dt s => ⟨fun hpin => ?_, fun hsupply => ?_⟩
  · have heq : (s.advance dt).powerOn = { State.reset with
        pending := s.pending, term := { State.reset.term with rawHigh := s.term.rawHigh } } := by
      simp [State.powerOn, State.resetTo, hpin, State.reset, State.afterReset, Terminal.reset]
    refine ⟨_, exec_of_reset rfl s, heq, ?_⟩
    rw [show after (.powerOnReset dt) s = (s.advance dt).powerOn from rfl, heq]
    refine ⟨rfl, rfl, rfl, rfl, rfl, rfl, rfl, rfl, rfl, rfl, rfl, rfl, rfl, rfl, rfl, rfl, rfl, rfl,
      rfl, rfl, rfl, rfl, rfl, ?_, ?_⟩
    · exact fun e he => congrArg PeerEntry.freshness (List.eq_of_mem_replicate he)
    · exact fun n hn => List.eq_of_mem_replicate hn
  · refine ⟨_, exec_of_reset rfl s, ?_⟩
    show (s.advance dt).pinRelease = _
    rw [State.pinRelease, if_neg (by simpa using hsupply)]
    rfl

/-- Settles O11. -/
theorem stopsAtOnce : Obligations.StopsAtOnce := by
  intro dt s stopped
  have run {c : Instr} {t : State} (hc : isResetCommand c = true) (h : after c s = t) :
      exec c s = .next t := h ▸ exec_of_reset hc s
  refine ⟨fun h => run rfl ?_, fun h => run rfl ?_, run rfl rfl, fun h => run rfl ?_,
    fun h => run rfl ?_⟩
  · show (s.advance dt).pinActive = _
    rw [State.pinActive, if_neg (by simpa using h)]
    rfl
  · show (s.advance dt).pinActive = _
    rw [State.pinActive, if_pos (by simpa using h)]
  · show (s.advance dt).powerOn = _
    rw [State.powerOn, State.advance_resetPin, h]
    rfl
  · show (s.advance dt).pinRelease = _
    rw [State.pinRelease, if_pos (by simpa using h)]

/-- Settles O13: with no configuration the unit does not run, so START latches and nothing is sent. -/
theorem configurationRefused : Obligations.ConfigurationRefused := by
  intro dt clock pending raw records image reading f hf s
  have heff : after (.configurationReadComplete dt image reading) s =
      (s.advance dt).enterConfigFault f := by
    show (s.advance dt).configRead image reading = _
    unfold State.configRead
    rw [hf]
  refine ⟨_, exec_of_not_reset rfl s, ?_⟩
  rw [heff]
  exact ⟨rfl, rfl, rfl, rfl, rfl, rfl, rfl, rfl, rfl, rfl, rfl, rfl, rfl, rfl, rfl, rfl, rfl, rfl⟩

/-- A command that acts under a test acts where the test holds. -/
theorem exec_when {c : Instr} {s x y : State} {b : Bool} (hc : isResetCommand c = false)
    (h : after c s = if b = true then x else y) (hb : b = true) :
    ∃ t, exec c s = .next t ∧ SettledFrom x t :=
  exec_settledFrom hc (h.trans (if_pos hb))

/-- A command that acts under a test does not where the test fails. -/
theorem exec_unless {c : Instr} {s x y : State} {b : Bool} (hc : isResetCommand c = false)
    (h : after c s = if b = true then x else y) (hb : b = false) :
    ∃ t, exec c s = .next t ∧ SettledFrom y t :=
  exec_settledFrom hc (h.trans (if_neg (by rw [hb]; exact Bool.false_ne_true)))

/-- Settles O14. -/
theorem listeningEnds : Obligations.ListeningEnds := by
  intro dt s hphase hdue
  exact exec_when rfl rfl (Bool.and_eq_true_iff.mpr ⟨beq_iff_eq.mpr hphase, hdue⟩)

/-- A change of a channel is read at the channel alone. -/
theorem setChannel_congr {ch : ChannelId} {f g : Channel → Channel} {s : State}
    (h : f (s.meas.channel ch) = g (s.meas.channel ch)) : s.setChannel ch f = s.setChannel ch g := by
  cases ch <;>
  · simp only [Measurement.channel] at h
    simp only [State.setChannel, State.setMeas, Measurement.setChannel, h]

theorem setChannel_self {ch : ChannelId} {f : Channel → Channel} {s : State}
    (h : f (s.meas.channel ch) = s.meas.channel ch) : s.setChannel ch f = s := by
  rw [setChannel_congr (g := id) h]
  cases ch <;> rfl

/-- The interval is void 500 ms after the last edge, and not before (R19). -/
theorem voidInterval_eq {c : Channel} {e : Nat} (h : c.lastEdge = some e) (now : Nat) :
    c.voidInterval now =
      if e + 500000 ≤ now then { c with interval := none, edgeOpen := false } else c := by
  simp only [Channel.voidInterval, ranFor, h, decide_eq_true_eq]

/-- Settles O15. -/
theorem quadratureChannels : Obligations.QuadratureChannels := by
  refine ⟨fun ch c s => by cases ch <;> rfl, ?_⟩
  intro dt ch s halive now len
  have alive : (s.advance dt).alive = true := halive
  refine ⟨fun tr htr => exec_settledFrom rfl ?_, exec_settledFrom rfl ?_, fun e he => ?_⟩
  · have edge (forward : Bool) : (s.advance dt).setChannel ch
        (fun c => c.edge ((s.advance dt).edgeLength ch) forward (s.advance dt).clock) =
        (s.advance dt).setChannel ch (fun c => { c with
          acc := if forward = true then c.acc + len else c.acc - len
          interval := match c.lastEdge with
            | some e => if c.edgeOpen = true ∧ now < e + 500000 then some (now - e) else none
            | none => none
          lastEdge := some now, edgeOpen := true, forward := forward, edges := c.edges + 1 }) := by
      congr 1
      funext c
      have hlen : (((s.advance dt).edgeLength ch : Nat) : Int) = len := by
        show ((if s.cfg.isSome = true then s.countLength ch else 1 : Nat) : Int) = _
        exact Nat.cast_ite ..
      simp only [Channel.edge, hlen, Bool.and_eq_true, decide_eq_true_eq]
      rfl
    show (if (s.advance dt).alive then (s.advance dt).transition ch tr else _) = _
    rw [if_pos alive]
    cases tr with
    | normalOrder =>
      rw [show decide (QuadTransition.normalOrder = .normalOrder) = true from rfl, Bool.true_bne]
      exact edge _
    | reverseOrder =>
      rw [show decide (QuadTransition.reverseOrder = .normalOrder) = false from rfl, Bool.false_bne]
      exact edge _
    | bothChanged => exact absurd rfl htr
  · show (if (s.advance dt).alive then _ else _) = _
    rw [if_pos alive]
    rfl
  · refine exec_settledFrom rfl ?_
    show (if (s.advance dt).alive then _ else _) = _
    rw [if_pos alive]
    by_cases hvoid : e + 500000 ≤ now
    · rw [if_pos hvoid]
      exact setChannel_congr ((voidInterval_eq he _).trans (if_pos hvoid))
    · rw [if_neg hvoid]
      exact setChannel_self ((voidInterval_eq he _).trans (if_neg hvoid))

end Sys2Proof.Machine
end


section
/-! # The terminals, the gate's timers and the service port (Chapters 9 to 11) -/

namespace Sys2Proof.Machine

open Sys2Proof

/-! ## Outputs -/

theorem refreshOutputs_outputLaw (s : State) : OutputLaw s.refreshOutputs := ⟨rfl, rfl, rfl⟩

theorem settle_outputLaw (s : State) : OutputLaw s.settle := refreshOutputs_outputLaw _

/-- The analog output shows no code once the output hold timer has expired. -/
theorem settle_analogOut_of_expired {s : State} (h : s.term.hold = .expired) :
    s.settle.term.analogOut = 0 := by
  have hhold : s.settle.term.hold = .expired := (settle_touches s .hold (by decide)).trans h
  rw [(settle_outputLaw s).2.2, hhold]
  exact if_neg (by simp)

/-- Settles O57. -/
theorem outputHoldExpiry : Obligations.OutputHoldExpiry := by
  intro dt due s hhold hdue
  have heff : after (.outputHoldTimerExpiry dt) s =
      ((s.advance dt).setTerm ({ · with hold := .expired })).bump .holdExpiries := by
    refine if_pos ?_
    show (s.advance dt).holdDue = true
    simp only [State.holdDue, State.advance_term, hhold, State.advance_clock, hdue, decide_true]
  refine ⟨_, exec_of_not_reset rfl s, .of_eq heff, settle_outputLaw _, ?_⟩
  rw [heff]
  exact settle_analogOut_of_expired rfl

/-! ## Inputs -/

/-- Settles O55. -/
theorem rawLevelDebounced : Obligations.RawLevelDebounced := by
  intro dt i high s hi n active
  have hraw : n.rawActive i = active := by
    simp [State.rawActive, n, active, hi, State.conf]
  refine ⟨fun hrun hread => ?_, fun hno => ?_⟩
  · refine exec_when (b := n.running && n.readsInput i) (y := n) rfl ?_
      (Bool.and_eq_true_iff.mpr ⟨hrun, List.contains_iff_mem.mpr hread⟩)
    show (if _ then n.followRaw i else n) = _
    unfold State.followRaw
    simp only [hraw, beq_iff_eq]
    rfl
  · exact exec_unless rfl (rfl : after _ s = if (n.running && n.readsInput i) = true then _ else _) (by
      rcases hno with h | h
      · rw [show n.running = false from h, Bool.false_and]
      · rw [show n.readsInput i = false from by
          rw [State.readsInput, List.contains_eq_mem]
          exact decide_eq_false h, Bool.and_false])

/-! ## Timers of the gate block -/

/-- Settles O53. -/
theorem ticketTimers : Obligations.TicketTimers := by
  refine ⟨fun dt s hrun hrole => ?_, ?_⟩
  · exact exec_when rfl rfl (Bool.and_eq_true_iff.mpr ⟨hrun, beq_iff_eq.mpr hrole⟩)
  intro dt due x s hrun hdue red answered
  refine ⟨fun h => ?_, fun h => ?_, fun h => ?_⟩
  · have hheld : (s.advance dt).gate.ticket = .held x due := h
    refine exec_when rfl (?_ : after _ s = if ((s.advance dt).running &&
      (s.advance dt).ticketHoldDue) = true then _ else s.advance dt) ?_
    · show (if _ then (s.advance dt).holdTimeout else _) = _
      rw [State.holdTimeout, hheld]
      rfl
    · refine Bool.and_eq_true_iff.mpr ⟨hrun, ?_⟩
      rw [State.ticketHoldDue, hheld]
      exact decide_eq_true hdue
  · have hawaits : (s.advance dt).gate.ticket = .awaitingPassage x due := h
    refine exec_when rfl (?_ : after _ s = if ((s.advance dt).running &&
      (s.advance dt).passageDue) = true then _ else s.advance dt) ?_
    · show (if _ then (s.advance dt).passageTimeout else _) = _
      rw [State.passageTimeout, hawaits]
      rfl
    · refine Bool.and_eq_true_iff.mpr ⟨hrun, ?_⟩
      rw [State.passageDue, hawaits]
      exact decide_eq_true hdue
  · refine exec_when rfl rfl (Bool.and_eq_true_iff.mpr ⟨hrun, ?_⟩)
    show (s.advance dt).due s.gate.redDue = true
    rw [h]
    exact decide_eq_true hdue

/-! ## The reader line -/

theorem readerChar_of_idle {s : State} (h : s.term.assembling = []) (c : ReaderChar) :
    s.readerChar c = s.outsideChar c := by
  unfold State.readerChar
  rw [h]
  rfl

/-- Settles O54. -/
theorem readerLine : Obligations.ReaderLine := by
  intro dt s hread
  have reads : (s.advance dt).readsReader = true := hread
  have tested : after (.readerGapTimeout dt) s = if ((s.advance dt).readsReader &&
      !(s.advance dt).term.assembling.isEmpty && (s.advance dt).gapExceeded) = true
      then (s.advance dt).breakFraming else s.advance dt := rfl
  refine ⟨fun hrec hgap => exec_when rfl tested ?_, fun h => exec_unless rfl tested ?_,
    fun c h hc => ?_, fun c h hc => ?_⟩
  · rw [reads, Bool.true_and, Bool.and_eq_true_iff, Bool.not_eq_true', List.isEmpty_eq_false_iff]
    exact ⟨hrec, decide_eq_true hgap⟩
  · rcases h with h | h
    · rw [show (s.advance dt).term.assembling = [] from h]
      simp
    · rw [show (s.advance dt).gapExceeded = false from decide_eq_false (Nat.not_lt.mpr h),
        Bool.and_false]
  · refine exec_settledFrom rfl ((if_pos reads).trans ?_)
    exact (readerChar_of_idle (s := s.advance dt) h c).trans (if_neg hc)
  · refine exec_settledFrom rfl ((if_pos reads).trans ?_)
    refine (readerChar_of_idle (s := s.advance dt) h c).trans ((if_pos hc).trans ?_)
    rw [hc]
    rfl

/-! ## The service port -/

/-- A command is taken where no answer of another is being sent. -/
theorem command_of_free {s : State} {c : ServiceCommand} (halive : s.alive = true)
    (hfree : s.commandInProgress = false) :
    s.command c = match s.commandRefusal c with
      | some r => s.refuseWith r true
      | none => s.carryOut c := by
  unfold State.command
  rw [halive, hfree]
  rfl

theorem command_of_busy {s : State} {c : ServiceCommand} (halive : s.alive = true)
    (hbusy : s.commandInProgress = true) : s.command c = s.refuseWith .busy false := by
  unfold State.command
  rw [halive, hbusy]
  rfl

theorem command_refused {s : State} {c : ServiceCommand} {r : RefusalCode} (halive : s.alive = true)
    (hfree : s.commandInProgress = false) (h : s.commandRefusal c = some r) :
    s.command c = s.refuseWith r true := by rw [command_of_free halive hfree, h]

theorem command_carried {s : State} {c : ServiceCommand} (halive : s.alive = true)
    (hfree : s.commandInProgress = false) (h : s.commandRefusal c = none) :
    s.command c = s.carryOut c := by rw [command_of_free halive hfree, h]

theorem alive_of_configured {s : State} {st : UnitState} (h : s.phase = .configured st) :
    s.alive = true := by rw [State.alive, h]; rfl

theorem alive_of_running {s : State} (h : s.running = true) : s.alive = true := by
  unfold State.running at h
  split at h
  next hp => exact alive_of_configured hp
  next hp => exact alive_of_configured hp
  next hp => exact alive_of_configured hp
  next => exact absurd h Bool.false_ne_true

/-- A running unit refuses a command only by the command itself and the role. -/
theorem commandRefusal_of_running {s : State} (h : s.running = true) (c : ServiceCommand) :
    s.commandRefusal c =
      match c with
      | .unknown => some .unknown
      | .peer none => some .range
      | .peer (some n) => if 31 < n then some .range else none
      | .cycle => if s.role == .gate then none else some .role
      | _ => none := by
  have hstart : (s.phase == .starting) = false := by
    rw [beq_eq_false_iff_ne]
    intro hp
    rw [State.running, hp] at h
    exact absurd h Bool.false_ne_true
  have hfault : (s.phase == .configured .configFault) = false := by
    rw [beq_eq_false_iff_ne]
    intro hp
    rw [State.running, hp] at h
    exact absurd h Bool.false_ne_true
  unfold State.commandRefusal
  rw [hstart, hfault]
  rfl

theorem commandRefusal_of_starting {s : State} (h : s.phase = .starting) (c : ServiceCommand) :
    s.commandRefusal c = some .starting := by simp [State.commandRefusal, h]

theorem commandRefusal_of_fault {s : State} (h : s.phase = .configured .configFault)
    {c : ServiceCommand} (hc : answeredInFault c = false) :
    s.commandRefusal c = some .notConfigured := by simp [State.commandRefusal, h, hc]

theorem commandRefusal_status {s : State} {st : UnitState} (h : s.phase = .configured st) :
    s.commandRefusal .status = none := by simp [State.commandRefusal, h, answeredInFault]

theorem commandRefusal_brakeRecords {s : State} {st : UnitState} (h : s.phase = .configured st) :
    s.commandRefusal .brakeRecords = none := by simp [State.commandRefusal, h, answeredInFault]

/-- Settles O58. -/
theorem readingCommandsAnswer : Obligations.ReadingCommandsAnswer := by
  intro dt s hfree n answered
  have free : n.commandInProgress = false := hfree
  refine ⟨fun st hst => ⟨exec_settledFrom rfl ?_, exec_settledFrom rfl ?_⟩, fun k hrun hk =>
    exec_settledFrom rfl ?_, fun hrun => exec_settledFrom rfl ?_, fun hrun hrole =>
    exec_settledFrom rfl ?_⟩
  · have phase : n.phase = .configured st := hst
    refine (command_carried (alive_of_configured phase) free (commandRefusal_status phase)).trans ?_
    show (match n.phase with
      | .configured st => n.answerWith (.status (n.statusAnswer st)) true
      | _ => n) = _
    rw [phase]
    rfl
  · have phase : n.phase = .configured st := hst
    exact command_carried (alive_of_configured phase) free (commandRefusal_brakeRecords phase)
  · have run : n.running = true := hrun
    exact command_carried (alive_of_running run) free
      ((commandRefusal_of_running run _).trans (if_neg (Nat.not_lt.mpr hk)))
  · have run : n.running = true := hrun
    exact command_carried (alive_of_running run) free (commandRefusal_of_running run _)
  · have run : n.running = true := hrun
    exact command_carried (alive_of_running run) free
      ((commandRefusal_of_running run _).trans (if_pos (beq_iff_eq.mpr hrole)))

/-- Settles O59. -/
theorem changingCommands : Obligations.ChangingCommands := by
  intro dt s hrun hfree n queued
  have run : n.running = true := hrun
  have free : n.commandInProgress = false := hfree
  refine ⟨exec_settledFrom rfl ?_, fun hstill h0 h1 => exec_settledFrom rfl ?_⟩
  · exact command_carried (alive_of_running run) free (commandRefusal_of_running run _)
  · refine (command_carried (alive_of_running run) free (commandRefusal_of_running run _)).trans ?_
    show n.judgeRestore = _
    unfold State.judgeRestore
    rw [show n.meas.standstill = true from hstill, show n.channelClean n.meas.e0 = true from h0,
      show n.channelClean n.meas.e1 = true from h1]
    rfl

/-- The commands of the service port, each with what it names (Table 11-4). -/
inductive PortCommand : Instr → ServiceCommand → Prop where
  | status (dt : Nat) : PortCommand (.status dt) .status
  | peer (dt : Nat) (k : Option Nat) : PortCommand (.peer dt k) (.peer k)
  | counts (dt : Nat) : PortCommand (.counts dt) .counts
  | brakeRecords (dt : Nat) : PortCommand (.brakeRecords dt) .brakeRecords
  | cycle (dt : Nat) : PortCommand (.cycle dt) .cycle
  | clearCounts (dt : Nat) : PortCommand (.clearCounts dt) .clearCounts
  | referenceRestore (dt : Nat) : PortCommand (.referenceRestore dt) .referenceRestore
  | unknown (dt : Nat) : PortCommand (.unknownCommand dt) .unknown

theorem exec_portCommand {c : Instr} {x : ServiceCommand} (h : PortCommand c x) {s t : State}
    (ht : (s.advance (commandTime c)).command x = t) :
    ∃ t', exec c s = .next t' ∧ SettledFrom t t' := by
  subst ht
  cases h <;> exact exec_settledFrom rfl rfl

/-- Settles O60. -/
theorem serviceRefusals : Obligations.ServiceRefusals := by
  intro dt s n refused others commands
  have other {c : Instr} (hc : others c) :
      ∃ x, PortCommand c x ∧ commandTime c = dt ∧ answeredInFault x = false := by
    rcases hc with hc | ⟨k, rfl⟩
    · simp only [List.mem_cons, List.mem_nil_iff, or_false] at hc
      rcases hc with rfl | rfl | rfl | rfl | rfl <;> exact ⟨_, by constructor, rfl, rfl⟩
    · exact ⟨_, .peer dt k, rfl, rfl⟩
  have port {c : Instr} (hc : commands c) : ∃ x, PortCommand c x ∧ commandTime c = dt := by
    rcases hc with rfl | rfl | hc
    · exact ⟨_, .status dt, rfl⟩
    · exact ⟨_, .brakeRecords dt, rfl⟩
    · obtain ⟨x, hx, ht, -⟩ := other hc
      exact ⟨x, hx, ht⟩
  have refuse {c : Instr} {x : ServiceCommand} {r : RefusalCode} (hx : PortCommand c x)
      (ht : commandTime c = dt) (halive : s.alive = true) (hfree : s.commandInProgress = false)
      (h : n.commandRefusal x = some r) : ∃ t, exec c s = .next t ∧ refused r true t := by
    subst ht
    exact exec_portCommand hx (command_refused halive hfree h)
  refine ⟨fun halive hbusy c hc => ?_, fun hrun hfree => ?_, fun hphase hfree c hc => ?_,
    fun hphase hfree c hc => ?_, exec_settledFrom rfl rfl⟩
  · obtain ⟨x, hx, ht⟩ := port hc
    subst ht
    exact exec_portCommand hx (command_of_busy halive hbusy)
  · have run : n.running = true := hrun
    have halive := alive_of_running hrun
    have own := commandRefusal_of_running run
    refine ⟨refuse (.unknown dt) rfl halive hfree (own _), fun k hk => refuse (.peer dt _) rfl halive hfree
      ((own _).trans (if_pos hk)), refuse (.peer dt _) rfl halive hfree (own _), fun hrole =>
      refuse (.cycle dt) rfl halive hfree ((own _).trans (if_neg (mt beq_iff_eq.mp hrole))), fun hmoves => ?_,
      fun hstill hfault => ?_⟩
    · refine exec_portCommand (.referenceRestore dt) ((command_carried (s := n) halive hfree (own _)).trans ?_)
      exact if_pos (show (!s.meas.standstill) = true by rw [hmoves]; rfl)
    · refine exec_portCommand (.referenceRestore dt) ((command_carried (s := n) halive hfree (own _)).trans ?_)
      refine (if_neg (show ¬(!s.meas.standstill) = true by rw [hstill]; decide)).trans (if_pos ?_)
      rw [Bool.not_eq_true', Bool.and_eq_false_iff]
      exact hfault
  · obtain ⟨x, hx, ht⟩ := port hc
    refine refuse hx ht (by rw [State.alive, hphase]; rfl) hfree (commandRefusal_of_starting (s := n) hphase x)
  · obtain ⟨x, hx, ht, hfault⟩ := other hc
    refine refuse hx ht (alive_of_configured hphase) hfree
      (commandRefusal_of_fault (s := n) hphase hfault)

end Sys2Proof.Machine
end


section
/-! # The line bus, one attempt and one frame at a time (Chapter 3) -/

namespace Sys2Proof.Machine

open Sys2Proof

/-! ## Counts that queuing can move -/

/-- The counts that a frame queued or given up can increase. -/
def queueCounts : List Count :=
  [.stateDrops, .controlRefusals, .controlDrops, .noticesNotSent, .evacuationsNotSent,
   .requestsNotSent]

/-- `t` holds every count as `s` does, but those that queuing can move. -/
structure KeepsCounts (s t : State) : Prop where
  count : ∀ c, c ∉ queueCounts → t.count c = s.count c

namespace KeepsCounts

variable {s t u : State}

theorem trans (h : KeepsCounts s t) (g : KeepsCounts t u) : KeepsCounts s u :=
  ⟨fun c hc => (g.count c hc).trans (h.count c hc)⟩

theorem of_counts (h : t.counts = s.counts) : KeepsCounts s t :=
  ⟨fun c _ => by rw [State.count, h]; rfl⟩

theorem of_touches {X : List Part} (h : Touches X s t) (hX : Part.counts ∉ X := by decide) :
    KeepsCounts s t := of_counts (h .counts hX)

theorem bump (s : State) {c : Count} (hc : c ∈ queueCounts := by decide) :
    KeepsCounts s (s.bump c) := ⟨fun _ hd => count_bump_ne s (fun e => hd (e ▸ hc))⟩

theorem bump_after {c : Count} (h : KeepsCounts s t) (hc : c ∈ queueCounts := by decide) :
    KeepsCounts s (t.bump c) := h.trans (bump t hc)

theorem of_bump {d : Count} (h : KeepsCounts s t) (hd : d ∉ queueCounts) :
    t.count d = s.count d := h.count d hd

theorem stateQueued (h : StateQueued s t) : KeepsCounts s t :=
  ⟨fun c hc => h.2.2.2 c (fun e => hc (e ▸ by decide))⟩

theorem tellNotSent (p : Payload) (s : State) : KeepsCounts s (s.tellNotSent p) := by
  unfold State.tellNotSent
  split
  · split
    · split
      · exact bump_after (of_counts rfl)
      · exact of_counts rfl
    · exact of_counts rfl
  · exact bump _
  · exact bump _
  · exact of_counts rfl

theorem enqueue (p : Payload) (s : State) : KeepsCounts s (s.enqueue p) := by
  have set (q : List TxFrame) (k : FrameKind) : KeepsCounts s (s.setQueue q k) := of_counts rfl
  unfold State.enqueue
  split
  · split
    · unfold State.enqueueState
      dsimp only
      split
      · exact set _ _
      · split
        · exact set _ _
        · split
          · exact (set _ _).trans (bump _)
          · exact bump _
    · unfold State.enqueueControl
      dsimp only
      split
      · exact tellNotSent _ _
      · split
        · exact set _ _
        · split
          · exact (set _ _).trans (bump _)
          · exact (bump s).trans (tellNotSent _ _)
    · unfold State.enqueueOrder
      dsimp only
      split
      · split
        · exact set _ _
        · exact of_counts rfl
      · split
        · exact set _ _
        · split
          · exact (set _ _).trans (bump _)
          · split
            · exact ((set _ _).trans (bump _)).trans (tellNotSent _ _)
            · exact of_counts rfl
  · exact of_counts rfl

end KeepsCounts

/-- After a command that settles, a count that queuing cannot move is that of the effect. -/
theorem SettledFrom.count_eq {x t : State} (h : SettledFrom x t) {c : Count}
    (hc : c ≠ .stateDrops := by decide) : t.count c = x.count c := h.2.2.2.1 c hc

/-- A count is read from the counts alone. -/
theorem count_congr {s t : State} (h : t.counts = s.counts) (c : Count) : t.count c = s.count c := by
  rw [State.count, h]; rfl

/-! ## Idle and offers -/

theorem busIdle_of_running {s : State} (h : s.running = true) :
    s.busIdle = s.setBus ({ · with footing := true }) := if_pos h

theorem running_of_operating {s : State} (h : s.operating = true) : s.running = true := by
  unfold State.running
  rw [beq_iff_eq.mp (show (s.phase == .configured .operating) = true from h)]

/-- Where the controller may send, an idle offers the head. -/
theorem offer_of_operating {s : State} (hop : s.operating = true) (hidle : s.bus.attempt = none)
    (hfree : s.heldOff = false) :
    s.offer = (s.setBus ({ · with footing := true })).offerHead := by
  unfold State.offer
  rw [busIdle_of_running (running_of_operating hop)]
  refine if_pos ?_
  show (s.operating && s.bus.attempt.isNone && !s.heldOff) = true
  rw [hop, hidle, hfree]
  rfl

/-- Settles O28. -/
theorem offerTakesHead : Obligations.OfferTakesHead := by
  refine ⟨fun dt s hrun => exec_settledFrom rfl (busIdle_of_running (s := s.advance dt) hrun),
    fun dt s hop hidle hfree => ⟨fun f rest hq => exec_settledFrom rfl ?_, fun hq =>
      exec_settledFrom rfl ?_⟩⟩
  all_goals
    refine (offer_of_operating (s := s.advance dt) hop hidle hfree).trans ?_
    unfold State.offerHead
    simp only [State.setBus_bus, State.advance_bus, hq]
    try rfl

/-! ## The ends of an attempt -/

/-- Settles O29. -/
theorem arbitrationLost : Obligations.ArbitrationLost := fun dt s h =>
  exec_when (b := (s.advance dt).bus.attempt.isSome) (y := s.advance dt) rfl rfl h

/-- The attempt is over with a queue given. -/
def State.endedWith (q : List TxFrame) (s : State) : State :=
  s.setBus ({ · with attempt := none, queue := q.map (fun g => { g with onBus := false }) })

/-- What one failed attempt of a frame in the queue leaves (R46). -/
theorem failAttempt_of_onBus {s : State} {f : TxFrame} (h : s.bus.queue.find? (·.onBus) = some f) :
    s.failAttempt =
      if s.givesUp f = true then
        ((s.endedWith (s.bus.queue.eraseP (·.onBus))).bump .giveUps).tellNotSent f.payload
      else s.endedWith (s.bus.queue.map (fun g =>
        if g.onBus = true then { g with failed := g.failed + 1 } else g)) := by
  have hon : s.onBus = some f := h
  unfold State.failAttempt
  rw [hon]
  rfl

theorem failAttempt_of_gone {s : State} (h : s.bus.queue.find? (·.onBus) = none) :
    s.failAttempt = s.endedWith s.bus.queue := by
  have hon : s.onBus = none := h
  unfold State.failAttempt
  rw [hon]
  rfl

/-- The parts of the bus and the blocks that a failed attempt leaves in a known state. -/
theorem failAttempt_rest (s : State) : s.failAttempt.bus.attempt = none ∧
    s.failAttempt.bus.conflictRun = s.bus.conflictRun ∧ s.failAttempt.gate = s.gate := by
  cases h : s.bus.queue.find? (·.onBus) with
  | none => rw [failAttempt_of_gone h]; exact ⟨rfl, rfl, rfl⟩
  | some f =>
    rw [failAttempt_of_onBus h]
    split
    · rw [tellNotSent_frame]; exact ⟨rfl, rfl, rfl⟩
    · exact ⟨rfl, rfl, rfl⟩

theorem tellNotSent_setConflictRun (p : Payload) (run : Nat) (s : State) :
    (s.tellNotSent p).setBus ({ · with conflictRun := run }) =
      (s.setBus ({ · with conflictRun := run })).tellNotSent p := by
  unfold State.tellNotSent
  split
  · dsimp only [State.setBus]
    split
    · split <;> rfl
    · rfl
  all_goals rfl

/-- A failed attempt neither reads nor changes the conflict run. -/
theorem failAttempt_setConflictRun (run : Nat) (s : State) :
    s.failAttempt.setBus ({ · with conflictRun := run }) =
      (s.setBus ({ · with conflictRun := run })).failAttempt := by
  cases h : s.bus.queue.find? (·.onBus) with
  | none =>
    rw [failAttempt_of_gone h,
      failAttempt_of_gone (s := s.setBus ({ · with conflictRun := run })) h]
    rfl
  | some f =>
    rw [failAttempt_of_onBus h,
      failAttempt_of_onBus (s := s.setBus ({ · with conflictRun := run })) h]
    show State.setBus _ (if s.givesUp f = true then _ else _) = if s.givesUp f = true then _ else _
    split
    · rw [tellNotSent_setConflictRun]
      rfl
    · rfl

/-- A bit error that does not complete a run of three fails the attempt under the run it leaves. -/
theorem bitError_of_attempt {s : State} {field : BitField} (hattempt : s.bus.attempt.isSome = true)
    (hrun : countsForConflict field = true → s.bus.conflictRun ≤ 1) :
    s.bitError field = ((s.bump .bitErrors).setBus ({ · with
      abortPlaced := true
      conflictRun := if countsForConflict field = true then s.bus.conflictRun + 1
        else s.bus.conflictRun })).failAttempt := by
  have hrun_eq : ((s.bump .bitErrors).setBus ({ · with abortPlaced := true })).failAttempt.bus.conflictRun
      = s.bus.conflictRun :=
    (failAttempt_rest ((s.bump .bitErrors).setBus ({ · with abortPlaced := true }))).2.1
  unfold State.bitError
  rw [if_pos hattempt]
  unfold State.conflictError
  split
  next hcounts =>
    have hle := hrun hcounts
    dsimp only
    rw [hrun_eq, if_neg (by omega), failAttempt_setConflictRun,
      show min 3 (s.bus.conflictRun + 1) = s.bus.conflictRun + 1 by omega]
    rfl
  next =>
    rfl

theorem noAck_of_attempt {s : State} {a : TxFrame} (h : s.bus.attempt = some a) :
    s.noAck =
      if s.announcesNoAck a = true then
        (((s.bump .noAckAttempts).setBus ({ · with conflictRun := 0 })).failAttempt).gateDoubt
      else ((s.bump .noAckAttempts).setBus ({ · with conflictRun := 0 })).failAttempt := by
  unfold State.noAck
  rw [h]

theorem failAttempt_counts (s : State) {c : Count} (hc : c ∉ queueCounts) (hg : c ≠ .giveUps) :
    s.failAttempt.count c = s.count c := by
  cases h : s.bus.queue.find? (·.onBus) with
  | none => rw [failAttempt_of_gone h]; rfl
  | some f =>
    rw [failAttempt_of_onBus h]
    split
    · rw [(KeepsCounts.tellNotSent _ _).count c hc, count_bump_ne _ hg]
      rfl
    · rfl

/-- Settles O30. -/
theorem failedAttempt : Obligations.FailedAttempt := by
  intro dt s a field hattempt told ended run erred unheard counted
  have erring (hcounted : counted) : after (.bitError dt field) s = erred.failAttempt :=
    bitError_of_attempt (s := s.advance dt) (by rw [State.advance_bus, hattempt]; rfl) hcounted
  have acks : (s.advance dt).noAck = _ := noAck_of_attempt (s := s.advance dt) hattempt
  have mute (hno : ¬told) : after (.noAckAttempt dt) s = unheard.failAttempt :=
    acks.trans (if_neg (mt (announcesNoAck_iff a (s.advance dt)).mp hno))
  have heard (hyes : told) : after (.noAckAttempt dt) s = unheard.failAttempt.gateDoubt :=
    acks.trans (if_pos ((announcesNoAck_iff a (s.advance dt)).mpr hyes))
  refine ⟨fun f hf => ?_, fun hgone => ?_⟩
  · intro failed
    refine ⟨fun hcounted => exec_settledFrom rfl ((erring hcounted).trans (failAttempt_of_onBus hf)),
      fun hno => exec_settledFrom rfl ((mute hno).trans (failAttempt_of_onBus hf)), fun hyes => ?_⟩
    obtain ⟨t, hexec, ht⟩ := exec_settledFrom rfl (heard hyes)
    obtain ⟨hcarA, hcarB⟩ := gateDoubt_cars unheard.failAttempt
    obtain ⟨hended, hrun, hgate⟩ := failAttempt_rest unheard
    refine ⟨t, hexec, ?_, ?_, ?_, ?_, ?_, ?_⟩
    · rw [ht.attempt_eq, gateDoubt_bus, hended]
    · rw [ht.conflictRun_eq, gateDoubt_bus, hrun]
      rfl
    · rw [ht.gate_eq]; exact hcarA
    · rw [ht.gate_eq]; exact hcarB
    · rw [ht.gate_eq]
      intro hcycle
      exact gateDoubt_others _ (by rw [hgate]; exact hcycle)
    · rw [ht.count_eq]
      refine (count_congr (gateDoubt_counts _) _).trans ?_
      exact failAttempt_counts unheard (by decide) (by decide)
  · refine ⟨fun hcounted => exec_settledFrom rfl ((erring hcounted).trans (failAttempt_of_gone hgone)),
      fun hno => exec_settledFrom rfl ((mute hno).trans (failAttempt_of_gone hgone)), fun hyes => ?_,
      exec_settledFrom rfl ?_⟩
    · have hended : after (.noAckAttempt dt) s = (ended unheard s.bus.queue).gateDoubt := by
        rw [heard hyes, failAttempt_of_gone (s := unheard) hgone]
        rfl
      obtain ⟨t, hexec, ht⟩ := exec_settledFrom rfl hended
      obtain ⟨hcarA, hcarB⟩ := gateDoubt_cars (ended unheard s.bus.queue)
      exact ⟨t, hexec, ht, by rw [ht.gate_eq]; exact hcarA, by rw [ht.gate_eq]; exact hcarB⟩
    · show (s.advance dt).sent = _
      unfold State.sent
      rw [if_pos (by rw [State.advance_bus, hattempt]; rfl)]
      show (match s.bus.queue.find? (·.onBus) with
        | some f => _
        | none => _) = _
      rw [hgone]
      rfl

/-! ## The end of a frame sent -/

/-- A frame sent leaves the queue, and its block is told (R45). -/
theorem sent_of_onBus {s : State} {f : TxFrame} (hattempt : s.bus.attempt.isSome = true)
    (hf : s.bus.queue.find? (·.onBus) = some f) :
    s.sent = ((s.bump .framesSent).setBus (fun b => { b with
      attempt := none, conflictRun := 0
      queue := (b.queue.eraseP (·.onBus)).map (fun g => { g with onBus := false }) })).tellSent
        f.payload := by
  unfold State.sent
  rw [if_pos hattempt]
  show (match s.bus.queue.find? (·.onBus) with
    | some f => _
    | none => _) = _
  rw [hf]
  rfl

theorem redecide_of_not_held {s : State} (h : ∀ x due, s.gate.ticket ≠ .held x due) :
    s.redecide = s := by
  unfold State.redecide
  split
  · split
    next x due hx => exact absurd hx (h x due)
    next => rfl
  · rfl

/-- Only an ADMISSION REPORT of a GATE and a BRAKE RESET of a DRIVE have an effect when sent. -/
theorem tellSent_of_plain {s : State} {p : Payload}
    (hgate : ¬(s.role = .gate ∧ p.kind = .admissionReport))
    (hdrive : ¬(s.role = .drive ∧ p.kind = .brakeReset)) : s.tellSent p = s := by
  unfold State.tellSent
  split
  · exact if_neg fun h => hgate ⟨beq_iff_eq.mp h, rfl⟩
  · exact if_neg fun h => hdrive ⟨beq_iff_eq.mp h, rfl⟩
  · rfl

/-- Settles O32. -/
theorem frameSentLeaves : Obligations.FrameSentLeaves := by
  intro dt s f hattempt hf gone
  have hsent : after (.frameSent dt) s = gone.tellSent f.payload :=
    sent_of_onBus (s := s.advance dt) hattempt hf
  refine ⟨fun hgate hdrive => exec_settledFrom rfl (hsent.trans (tellSent_of_plain hgate hdrive)),
    fun number hrole hp => exec_settledFrom rfl ?_,
    fun c a hrole hp hticket hcycle hsame hmore => exec_settledFrom rfl ?_⟩
  · rw [hsent, hp]
    exact if_pos (beq_iff_eq.mpr hrole)
  · rw [hsent, hp]
    refine (if_pos (beq_iff_eq.mpr hrole)).trans ?_
    rw [State.reportSent, if_pos ⟨hcycle, hsame, hmore⟩]
    exact redecide_of_not_held hticket

/-! ## Reception -/

theorem complete_of_error {s : State} {raw : RawFrame} {e : ReceiveError}
    (h : raw.judge = .error e) : s.complete raw = s.takeError e := by
  unfold State.complete
  rw [h]

theorem complete_of_correct {s : State} {raw : RawFrame} {f : Frame} (h : raw.judge = .correct f) :
    s.complete raw =
      if f.source = s.conf.address then (s.setBus ({ · with ackDriven := s.operating })).bump .ownAddress
      else (s.setBus ({ · with ackDriven := s.operating })).store f := by
  unfold State.complete
  rw [h]

/-- Settles O33. -/
theorem frameJudged : Obligations.FrameJudged := by
  intro dt raw s hrecv n
  have recv : (s.advance dt).receives = true := hrecv
  refine ⟨fun f hf => ⟨fun hown => ?_, fun hother hroom => ?_⟩, fun e c hc => ?_⟩
  · exact exec_settledFrom rfl ((if_pos recv).trans ((complete_of_correct hf).trans (if_pos hown)))
  · refine exec_settledFrom rfl ((if_pos recv).trans
      ((complete_of_correct hf).trans ((if_neg hother).trans ?_)))
    exact if_pos hroom
  · have herr : isResetCommand c = false ∧ after c s = (s.advance dt).takeError e := by
      rcases hc with rfl | ⟨rfl, hjudge⟩
      · exact ⟨rfl, if_pos recv⟩
      · exact ⟨rfl, (if_pos recv).trans (complete_of_error hjudge)⟩
    obtain ⟨hreset, hafter⟩ := herr
    refine ⟨fun hrole => exec_settledFrom hreset (hafter.trans (if_neg (mt beq_iff_eq.mp hrole))),
      fun hrole => ?_⟩
    have hgate : after c s = (((s.advance dt).bump (errorCount e)).setBus
        ({ · with ackDriven := false })).gateDoubt := hafter.trans (if_pos (beq_iff_eq.mpr hrole))
    obtain ⟨t, hexec, ht⟩ := exec_settledFrom hreset hgate
    obtain ⟨hcarA, hcarB⟩ := gateDoubt_cars (((s.advance dt).bump (errorCount e)).setBus
      ({ · with ackDriven := false }))
    refine ⟨t, hexec, ?_, ?_, ?_, ?_, ?_⟩
    · rw [ht.rx_eq, gateDoubt_bus]; rfl
    · rw [ht.count_eq (by cases e <;> decide)]
      exact count_congr (gateDoubt_counts _) _
    · rw [ht.gate_eq]; exact hcarA
    · rw [ht.gate_eq]; exact hcarB
    · rw [ht.gate_eq]
      exact gateDoubt_touches _ .ticket (by decide)

end Sys2Proof.Machine
end


section
/-! # Raises, resets and proofs of the brake block (Chapter 6) -/

namespace Sys2Proof.Machine

open Sys2Proof

/-! ## Latched levels -/

theorem demandCauses_getElem? {c : Cause} (h : c ∈ demandCauses) :
    demandCauses[causeCode c - 1]? = some c := by
  cases c <;> first | rfl | exact absurd h (by decide)

theorem causeCode_lt {c : Cause} (h : c ∈ demandCauses) : causeCode c - 1 < 20 :=
  (List.getElem?_eq_some_iff.mp (demandCauses_getElem? h)).1

theorem causeCode_ne {c d : Cause} (hc : c ∈ demandCauses) (hd : d ∈ demandCauses) (h : d ≠ c) :
    causeCode c - 1 ≠ causeCode d - 1 := fun e => h (Option.some.inj (by
  rw [← demandCauses_getElem? hc, ← demandCauses_getElem? hd, e]))

theorem latched_congr {s t : State} (h : t.brake.demands = s.brake.demands) (c : Cause) :
    t.latched c = s.latched c := by
  unfold State.latched
  rw [h]

theorem latch_latched_self {s : State} (hlen : s.brake.demands.length = 20) {c : Cause}
    (hc : c ∈ demandCauses) (level : Nat) :
    (s.latch c level).latched c = max (s.latched c) level := by
  have hlt : causeCode c - 1 < s.brake.demands.length := hlen ▸ causeCode_lt hc
  simp [State.latched, State.latch, List.getElem?_eq_getElem hlt]

theorem latch_latched_ne {s : State} {c d : Cause} (hc : c ∈ demandCauses) (hd : d ∈ demandCauses)
    (h : d ≠ c) (level : Nat) : (s.latch c level).latched d = s.latched d := by
  have hne := causeCode_ne hc hd h
  simp [State.latched, State.latch, hne]

/-- No latched level exceeds the highest own demand. -/
theorem latched_le_highestOwn (s : State) (c : Cause) : s.latched c ≤ s.highestOwn := by
  unfold State.latched
  split
  next d hd => exact (highestOwn_le_iff s _).mp (Nat.le_refl _) d (List.mem_of_getElem? hd)
  next => exact Nat.zero_le _

/-- A latch brings the highest own demand up to its level, and no further. -/
theorem latch_highestOwn {s : State} (hlen : s.brake.demands.length = 20) {c : Cause}
    (hc : c ∈ demandCauses) (level : Nat) :
    (s.latch c level).highestOwn = max s.highestOwn level := by
  refine Nat.le_antisymm ((highestOwn_le_iff _ _).mpr fun d hd => ?_) (max_le ?_ ?_)
  · obtain ⟨i, hi, rfl⟩ := List.mem_iff_getElem.mp hd
    have hi' : i < s.brake.demands.length := by rwa [State.latch, List.length_modify] at hi
    have hold := (highestOwn_le_iff s _).mp (Nat.le_refl _) _ (List.getElem_mem hi')
    simp only [State.latch, List.getElem_modify]
    split
    · exact max_le_max hold (Nat.le_refl _)
    · exact hold.trans (Nat.le_max_left _ _)
  · exact latch_highestOwn_le c level s
  · have h := latched_le_highestOwn (s.latch c level) c
    rw [latch_latched_self hlen hc] at h
    exact (Nat.le_max_right _ _).trans h

/-! ## Frames that a later step of a command leaves in the queue -/

/-- Every BRAKE ORDER queued in `s` is queued in `t`. -/
structure KeepsOrders (s t : State) : Prop where
  mem : ∀ f ∈ s.bus.queue, f.isOrder = true → f ∈ t.bus.queue

namespace KeepsOrders

variable {s t u : State}

theorem trans (h : KeepsOrders s t) (g : KeepsOrders t u) : KeepsOrders s u :=
  ⟨fun f hf ho => g.mem f (h.mem f hf ho) ho⟩

theorem of_queue (h : t.bus.queue = s.bus.queue) : KeepsOrders s t :=
  ⟨fun _ hf _ => h ▸ hf⟩

theorem of_touches {X : List Part} (h : Touches X s t) (hX : Part.queue ∉ X := by decide) :
    KeepsOrders s t := of_queue (h.queue_eq hX)

theorem not_state {f : TxFrame} (h : f.isOrder = true) : f.isState = false := by
  unfold TxFrame.isOrder at h
  unfold TxFrame.isState
  rw [beq_iff_eq.mp h]
  rfl

theorem stateQueued (h : StateQueued s t) : KeepsOrders s t where
  mem f hf ho := by
    have hmem : f ∈ s.bus.queue.filter (fun f => !f.isState) :=
      List.mem_filter.mpr ⟨hf, by rw [not_state ho]; rfl⟩
    rw [← h.2.1] at hmem
    exact (List.mem_filter.mp hmem).1

theorem tellNotSent_queue (p : Payload) (s : State) : (s.tellNotSent p).bus.queue = s.bus.queue :=
  (tellNotSent_touches p s).queue_eq

theorem mem_insertControl (f g : TxFrame) (q : List TxFrame) (h : f ∈ q) :
    f ∈ insertControl g q := by
  rw [← List.takeWhile_append_dropWhile (p := fun g => !g.isState) (l := q)] at h
  unfold insertControl
  rcases List.mem_append.mp h with h | h
  · exact List.mem_append_left _ h
  · exact List.mem_append_right _ (List.mem_cons_of_mem _ h)

/-- A CONTROL frame queued leaves the orders (R51). -/
theorem enqueue_control {p : Payload} (hp : p.cls = .control) (s : State) :
    KeepsOrders s (s.enqueue p) := by
  unfold State.enqueue
  split
  · rw [hp]
    unfold State.enqueueControl
    dsimp only
    split
    · exact of_queue (tellNotSent_queue _ _)
    · split
      · exact ⟨fun f hf _ => mem_insertControl f _ _ hf⟩
      · split
        · exact ⟨fun f hf ho => mem_insertControl f _ _
            ((List.mem_eraseP_of_neg (by rw [not_state ho]; exact Bool.false_ne_true)).mpr hf)⟩
        · exact of_queue (tellNotSent_queue _ (s.bump .controlRefusals))
  · exact of_queue rfl

theorem carWithdraw (b g : Nat) (r : WithdrawReason) (s : State) :
    KeepsOrders s (s.carWithdraw b g r) :=
  (of_queue rfl : KeepsOrders s (s.setDoor _)).trans (enqueue_control rfl _)

theorem setSides (h : KeepsOrders s t) (f : Side → DoorSideContext → DoorSideContext)
    (g : DoorBlock → DoorBlock) : KeepsOrders s ((t.mapSides f).setDoor g) :=
  h.trans (of_queue rfl)

theorem lockClosing (s : State) : KeepsOrders s s.lockClosing := by
  unfold State.lockClosing State.withdrawLocked
  dsimp only
  split
  · exact of_queue rfl
  · refine setSides ?_ _ _
    split
    · exact (of_queue rfl : KeepsOrders s s.lockSides).trans (carWithdraw _ _ _ _)
    · exact of_queue rfl

theorem endEvacuation (s : State) : KeepsOrders s s.endEvacuation := by
  unfold State.endEvacuation
  split
  · exact (of_queue rfl : KeepsOrders s (s.mapSides _)).trans (lockClosing _)
  · exact of_queue rfl

theorem reform (s : State) : KeepsOrders s s.reform := by
  have told (before : Nat) (x : State) : KeepsOrders x (x.tellLevel before) := by
    unfold State.tellLevel
    split
    · split
      · exact of_touches (tripRise_touches _ x)
      · exact of_queue rfl
    · split
      · exact endEvacuation x
      · exact of_queue rfl
    · exact of_queue rfl
    · exact of_queue rfl
  unfold State.reform
  dsimp only
  split
  · exact of_queue rfl
  · refine trans (t := s.setBrake ({ · with effective := s.formedLevel })) (of_queue rfl) ?_
    unfold State.levelChanged
    split
    · exact ((of_touches (proofAtChange_touches _ _)).trans (told _ _)).trans
        (stateQueued (queueAllStates_stateQueued _))
    · exact of_queue rfl

end KeepsOrders

theorem cls_cases (f : TxFrame) : f.isState = true ∨ f.isControl = true ∨ f.isOrder = true := by
  unfold TxFrame.isState TxFrame.isControl TxFrame.isOrder
  cases f.payload.cls <;> decide

/-- A running unit that queues an order holds one of its level or above (R50, R51). -/
theorem queueOrder_present {s : State} (hrun : s.running = true) (level : Nat) (cause : Cause) :
    ∃ f ∈ (s.queueOrder level cause).bus.queue, f.isOrder = true ∧ level ≤ orderLevel f.payload := by
  set p : Payload := .brakeOrder level cause s.reportedH (s.brake.held.getD 0) with hp
  have new : (s.newFrame p).isOrder = true ∧ level ≤ orderLevel (s.newFrame p).payload :=
    ⟨rfl, Nat.le_refl _⟩
  have hq : s.queueOrder level cause = s.enqueueOrder p := by
    unfold State.queueOrder State.enqueue
    rw [if_pos hrun]
    rfl
  rw [hq]
  unfold State.enqueueOrder
  dsimp only
  split
  next o ho =>
    have hmem := List.mem_of_find?_eq_some ho
    have hord : o.isOrder = true := List.find?_some ho
    split
    · exact ⟨s.newFrame p, List.mem_map.mpr ⟨o, hmem, if_pos hord⟩, new⟩
    next hle => exact ⟨o, hmem, hord, Nat.not_lt.mp hle⟩
  next hnone =>
    split
    · exact ⟨s.newFrame p, List.mem_cons_self, new⟩
    next hfull =>
      split
      · exact ⟨s.newFrame p, List.mem_cons_self, new⟩
      next hstate =>
        split
        · refine ⟨s.newFrame p, ?_, new⟩
          rw [KeepsOrders.tellNotSent_queue]
          exact List.mem_cons_self
        next hcontrol =>
          -- A full queue holds a frame, and a frame is of one of the three classes.
          exfalso
          cases hq : s.bus.queue with
          | nil => rw [hq] at hfull; exact hfull (by decide)
          | cons f rest =>
            have hf : f ∈ s.bus.queue := by rw [hq]; exact List.mem_cons_self
            rcases cls_cases f with h | h | h
            · exact hstate (List.any_eq_true.mpr ⟨f, hf, h⟩)
            · exact List.find?_eq_none.mp hcontrol f hf h
            · exact List.find?_eq_none.mp hnone f hf h

/-! ## Raising -/

/-- What a raise does to the latched levels and to the effective one (R100, R105). -/
theorem raise_levels {s : State} (hlaw : BrakeLaw s) {c : Cause} (hc : c ∈ demandCauses)
    (level : Nat) :
    (s.raise c level).latched c = max (s.latched c) level ∧
      (∀ d ∈ demandCauses, d ≠ c → (s.raise c level).latched d = s.latched d) ∧
      (s.raise c level).brake.effective = max s.brake.effective level := by
  obtain ⟨hlen, -, hjudged, -, heff⟩ := hlaw
  obtain ⟨hd, -, -, -, he⟩ := judgeRise_sources (s.latch c level)
  refine ⟨?_, fun d hd' hne => ?_, ?_⟩
  · rw [State.raise, latched_congr hd, latch_latched_self hlen hc]
  · rw [State.raise, latched_congr hd, latch_latched_ne hc hd' hne]
  · have own := latch_highestOwn hlen hc level
    have judged : (s.latch c level).brake.judged = s.highestOwn := hjudged
    have formed : (s.latch c level).formedLevel = max (max s.highestOwn level) s.highestHeard := by
      rw [State.formedLevel, own]; rfl
    have before : (s.latch c level).brake.effective = max s.highestOwn s.highestHeard := heff
    rw [State.raise, he, judged, own, formed, before, heff, State.formedLevel]
    split <;> omega

/-- Where the highest own demand does not rise, only the entry changes. -/
theorem raise_of_le {s : State} (hlaw : BrakeLaw s) {c : Cause} (hc : c ∈ demandCauses)
    {level : Nat} (h : level ≤ s.highestOwn) :
    s.raise c level = { s with brake := { s.brake with demands := (s.latch c level).brake.demands } } := by
  obtain ⟨hlen, -, hjudged, hraised, -⟩ := hlaw
  have own : (s.latch c level).highestOwn = s.highestOwn := by
    rw [latch_highestOwn hlen hc, Nat.max_eq_left h]
  have judged : (s.latch c level).brake.judged = s.highestOwn := hjudged
  unfold State.raise State.judgeRise
  dsimp only
  rw [own, judged, if_neg (Nat.lt_irrefl _)]
  have hb : ({ (s.latch c level).brake with judged := s.highestOwn, raised := [] } : Brake) =
      { s.brake with demands := (s.latch c level).brake.demands } := by
    rw [← hjudged, ← hraised]
    rfl
  show ({ s with brake := _ } : State) = _
  rw [← hb]

/-- Where it rises, an order and a record are made before the level is formed. -/
theorem raise_of_lt {s : State} (hlaw : BrakeLaw s) {c : Cause} (hc : c ∈ demandCauses)
    {level : Nat} (h : s.highestOwn < level) :
    s.raise c level = ((((s.latch c level).setBrake ({ · with
      judged := level, raised := [] })).queueOrder level c).writeRecord c level).reform := by
  obtain ⟨hlen, -, hjudged, hraised, -⟩ := hlaw
  have own : (s.latch c level).highestOwn = level := by
    rw [latch_highestOwn hlen hc, Nat.max_eq_right h.le]
  have judged : (s.latch c level).brake.judged = s.highestOwn := hjudged
  have raised : (s.latch c level).brake.raised = [(c, level)] := by
    show s.brake.raised ++ _ = _
    rw [hraised]
    rfl
  unfold State.raise State.judgeRise
  dsimp only
  rw [own, judged, if_pos h, raised]
  rfl

theorem raise_brakeLaw {s : State} (hlaw : BrakeLaw s) (c : Cause) (level : Nat) :
    BrakeLaw (s.raise c level) := judgeRise_brakeLaw (hlaw.mid.latch c level)

/-- Settles O38. -/
theorem raiseLatches : Obligations.RaiseLatches := by
  intro s c level hlaw hc t
  obtain ⟨hself, hothers, heff⟩ := raise_levels hlaw hc level
  refine ⟨raise_brakeLaw hlaw c level, hself, hothers, heff, fun h => ?_, fun h => ⟨?_, fun hrun => ?_⟩⟩
  · have ht := raise_of_le hlaw hc h
    show s.raise c level = _
    conv_rhs => rw [show t = s.raise c level from rfl, ht]
    exact ht
  all_goals
    have ht : t = _ := raise_of_lt hlaw hc h
    set x := (s.latch c level).setBrake ({ · with judged := level, raised := [] })
    have hx : Touches [.queue, .requeue, .counts] x (x.queueOrder level c) := queueOrder_touches _ _ _
  · have records : t.brake.records = ((x.queueOrder level c).writeRecord c level).brake.records := by
      rw [ht]
      exact reform_touches _ .records (by decide)
    have old : (x.queueOrder level c).brake.records = s.brake.records := hx .records (by decide)
    refine ⟨_, records.trans (congrArg (fun l => (_ :: l).take 16) old), rfl, rfl, ?_, ?_⟩
    · show (if (x.queueOrder level c).meas.known then some (x.queueOrder level c).meas.h else none) = _
      rw [State.queueOrder, enqueue_meas]
      rfl
    · show BitVec.ofNat 32 ((x.queueOrder level c).clock / 1000) = _
      rw [State.queueOrder, enqueue_clock]
      rfl
  · obtain ⟨f, hf, hord, hlevel⟩ := queueOrder_present (s := x) hrun level c
    refine ⟨f, ?_, hord, hlevel⟩
    rw [ht]
    exact (KeepsOrders.reform _).mem f hf hord

/-! ## Brake reset -/

/-- The demands that a reset keeps are those whose causes are present (R111). -/
theorem resetDemands_latched {s : State} (hlen : s.brake.demands.length = 20) (number : Nat)
    {c : Cause} (hc : c ∈ demandCauses) :
    (s.resetDemands number).latched c = if s.causePresent c = true then s.latched c else 0 := by
  have hlt : causeCode c - 1 < s.brake.demands.length := hlen ▸ causeCode_lt hc
  have hcause := demandCauses_getElem? hc
  have hdemands : (s.resetDemands number).brake.demands =
      (s.brake.demands.zipWith (fun d c => { d with present := s.causePresent c })
        demandCauses).map (fun d => if d.present then d else { d with level := 0 }) := by
    unfold State.resetDemands State.releaseAbsent
    dsimp only
    rw [State.setBrake_brake, State.setBrake_brake, State.syncPresence_brake]
    dsimp only [State.setBrake_brake]
    congr 2
  unfold State.latched
  rw [hdemands, List.getElem?_map, List.getElem?_zipWith, hcause, List.getElem?_eq_getElem hlt]
  cases h : s.causePresent c <;> simp [h]

/-- No proof starts at a level that does not rise (R106). -/
theorem proofLevel_of_le {role : Role} {before after : Nat} (h : after ≤ before) :
    proofLevel role before after = none := by
  unfold proofLevel
  split
  · rw [if_neg (by omega), if_neg (by omega)]
  · exact if_neg (by omega)
  · rfl

theorem proofAtChange_of_le {s : State} {before : Nat} (h : s.brake.effective ≤ before) :
    s.proofAtChange before = s := by
  unfold State.proofAtChange
  rw [proofLevel_of_le h]

/-- The blocks told of the level leave the brake block alone. -/
theorem tellLevel_touches_blocks (before : Nat) (s : State) :
    Touches [.trip, .sides, .door, .queue, .requeue, .counts, .cycle] s (s.tellLevel before) := by
  unfold State.tellLevel
  split
  · exact .ite (fun _ => (tripRise_touches _ s).mono (by decide)) (fun _ => .refl _ s)
  · exact .ite (fun _ => (endEvacuation_touches s).mono (by decide)) (fun _ => .refl _ s)
  · exact (gateLevel_touches s).mono (by decide)
  · exact .refl _ s

/-- The blocks told of a reset leave the brake block alone. -/
theorem tellReset_touches_blocks (s : State) :
    Touches [.trip, .requeue, .queue, .counts, .authority, .position, .sides, .door] s
      s.tellReset := by
  unfold State.tellReset
  split
  · refine Touches.trans ((tripReset_touches s).mono (by decide)) (Touches.trans ?_
      ((authorityReset_touches _).mono (by decide)))
    exact .ite (fun _ => (tripRise_touches _ _).mono (by decide)) (fun _ => .refl _ _)
  · exact ((authorityReset_touches s).comp (endEvacuation_touches _)).mono (by decide)
  · exact .refl _ _

theorem reform_proof_of_le {s : State} (h : s.formedLevel ≤ s.brake.effective) :
    s.reform.brake.proof = s.brake.proof := by
  unfold State.reform
  dsimp only
  split
  · rfl
  · unfold State.levelChanged
    split
    · rw [proofAtChange_of_le (s := s.setBrake ({ · with effective := s.formedLevel })) h]
      refine (queueAllStates_touches _ .proof (by decide)).trans ?_
      exact tellLevel_touches_blocks s.brake.effective _ .proof (by decide)
    · rfl

theorem highestOwn_congr {s t : State} (h : t.brake.demands = s.brake.demands) :
    t.highestOwn = s.highestOwn := by
  unfold State.highestOwn
  rw [h]

/-- Settles O39. -/
theorem brakeResetJudged : Obligations.BrakeResetJudged := by
  intro s number hlaw t
  refine ⟨fun h => if_pos h, fun h hmoves => ?_, fun h hstill => ?_⟩
  · exact (if_neg h).trans (if_neg (by rw [hmoves]; exact Bool.false_ne_true))
  have ht : t = s.acceptReset number := (if_neg h).trans (if_pos hstill)
  obtain ⟨hlen, -, -, -, heff⟩ := hlaw
  obtain ⟨hd, hr, -, -, -⟩ := acceptReset_sources number s
  obtain ⟨-, hheard, hformed⟩ := acceptReset_formedLevel number s
  obtain ⟨-, -, -, -, hown⟩ := resetDemands_sources number hlen
  have late : Touches [.trip, .requeue, .queue, .counts, .authority, .position, .sides, .door]
      (s.resetDemands number).reform (s.acceptReset number) := by
    rw [acceptReset_eq]
    exact (tellReset_touches_blocks _).trans ((reOrder_touches _).mono (by decide))
  have early := resetDemands_touches number s
  have level := reform_touches (s.resetDemands number)
  rw [ht]
  refine ⟨?_, ?_, fun r hr' => ?_, fun c hc => ?_, ?_, ?_⟩
  · exact (late .held (by decide)).trans (level .held (by decide))
  · refine (late .proof (by decide)).trans (reform_proof_of_le ?_)
    have before : (s.resetDemands number).brake.effective = s.brake.effective :=
      early.effective_eq (by decide)
    rw [before, heff, State.formedLevel, highestHeard_zero (s := s.resetDemands number) rfl]
    exact (Nat.max_eq_left (Nat.zero_le _)).le.trans (hown.trans (Nat.le_max_left _ _))
  · rw [hr] at hr'
    exact (List.mem_replicate.mp hr').2
  · rw [latched_congr hd, resetDemands_latched hlen number hc]
  · rw [hformed, State.formedLevel, hheard]
    exact Nat.max_eq_left (Nat.zero_le _)
  · exact (late .records (by decide)).trans ((level .records (by decide)).trans
      (early .records (by decide)))

end Sys2Proof.Machine
end


section
/-! # Expiries on the latest sample, marks, grants and passages (Chapters 2, 5, 8 and 9) -/

namespace Sys2Proof.Machine

open Sys2Proof

/-! ## Whole blocks left alone -/

namespace Touches

variable {X : List Part} {s t : State}

/-- The parts of the measurement block. -/
def measBlock : List Part :=
  [.channels, .reference, .speed, .standstill, .position, .marks, .weight]

theorem meas_eq (h : Touches X s t) (hX : ∀ p ∈ measBlock, p ∉ X) : t.meas = s.meas := by
  have h1 : (t.meas.e0, t.meas.e1) = (s.meas.e0, s.meas.e1) := h .channels (hX _ (by decide))
  have h2 : (t.meas.status, t.meas.reference, t.meas.disagreeSince, t.meas.agreeSince) =
      (s.meas.status, s.meas.reference, s.meas.disagreeSince, s.meas.agreeSince) :=
    h .reference (hX _ (by decide))
  have h3 : (t.meas.v, t.meas.slowSince, t.meas.lastSample) =
      (s.meas.v, s.meas.slowSince, s.meas.lastSample) := h .speed (hX _ (by decide))
  have h4 : t.meas.standstill = s.meas.standstill := h .standstill (hX _ (by decide))
  have h5 : (t.meas.acc, t.meas.known, t.meas.synchronised, t.meas.h, t.meas.u, t.meas.residue,
      t.meas.outside, t.meas.degraded) = (s.meas.acc, s.meas.known, s.meas.synchronised, s.meas.h,
      s.meas.u, s.meas.residue, s.meas.outside, s.meas.degraded) := h .position (hX _ (by decide))
  have h6 : (t.meas.expected, t.meas.expectedUp, t.meas.misses, t.meas.lastSign) =
      (s.meas.expected, s.meas.expectedUp, s.meas.misses, s.meas.lastSign) :=
    h .marks (hX _ (by decide))
  have h7 : (t.meas.filter, t.meas.published, t.meas.established) =
      (s.meas.filter, s.meas.published, s.meas.established) := h .weight (hX _ (by decide))
  simp only [Prod.mk.injEq] at h1 h2 h3 h5 h6 h7
  cases hs : s.meas
  cases ht : t.meas
  simp only [hs, ht] at h1 h2 h3 h4 h5 h6 h7
  simp only [h1, h2, h3, h4, h5, h6, h7]

theorem sup_eq (h : Touches X s t) (hX : ∀ p ∈ [Part.authority, .supervision], p ∉ X) :
    t.sup = s.sup := by
  have h1 : t.sup.authority = s.sup.authority := h .authority (hX _ (by decide))
  have h2 : { t.sup with authority := none } = { s.sup with authority := none } :=
    h .supervision (hX _ (by decide))
  calc t.sup = { { t.sup with authority := none } with authority := t.sup.authority } := rfl
    _ = { { s.sup with authority := none } with authority := s.sup.authority } := by rw [h1, h2]
    _ = s.sup := rfl

theorem prof_eq (h : Touches X s t) (hX : ∀ p ∈ [Part.profile, .setInForce, .notice], p ∉ X) :
    t.prof = s.prof := by
  have h1 : (t.prof.merged, t.prof.digest) = (s.prof.merged, s.prof.digest) :=
    h .profile (hX _ (by decide))
  have h2 : (t.prof.setInForce, t.prof.carTrip) = (s.prof.setInForce, s.prof.carTrip) :=
    h .setInForce (hX _ (by decide))
  have h3 : t.prof.notice = s.prof.notice := h .notice (hX _ (by decide))
  simp only [Prod.mk.injEq] at h1 h2
  cases hs : s.prof
  cases ht : t.prof
  simp only [hs, ht] at h1 h2 h3
  simp only [h1, h2, h3]

/-- A door block without what the part of the sides holds. -/
def restDoor (d : DoorBlock) : DoorBlock :=
  { d with left := default, right := default, stopBerth := none, grantId := none }

theorem door_eq (h : Touches X s t) (hX : ∀ p ∈ [Part.sides, .door], p ∉ X) : t.door = s.door := by
  have h1 : (t.door.left, t.door.right, t.door.stopBerth, t.door.grantId) =
      (s.door.left, s.door.right, s.door.stopBerth, s.door.grantId) := h .sides (hX _ (by decide))
  have h2 : restDoor t.door = restDoor s.door := h .door (hX _ (by decide))
  simp only [Prod.mk.injEq] at h1
  obtain ⟨left, right, berth, id⟩ := h1
  calc t.door = { restDoor t.door with
        left := t.door.left, right := t.door.right
        stopBerth := t.door.stopBerth, grantId := t.door.grantId } := rfl
    _ = { restDoor s.door with
        left := s.door.left, right := s.door.right
        stopBerth := s.door.stopBerth, grantId := s.door.grantId } := by
      rw [left, right, berth, id, h2]
    _ = s.door := rfl

/-- A boarding cycle without what the part of the places holds. -/
def restCycle (c : BoardingCycle) : BoardingCycle := { c with pending := 0, unannounced := [] }

theorem cycle_eq (h : Touches X s t) (hX : ∀ p ∈ [Part.places, .cycle], p ∉ X) :
    t.gate.cycle = s.gate.cycle := by
  have h1 : t.gate.cycle.pending = s.gate.cycle.pending := h.pending_eq (hX _ (by decide))
  have h2 : t.gate.cycle.unannounced = s.gate.cycle.unannounced :=
    h.unannounced_eq (hX _ (by decide))
  have h3 : restCycle t.gate.cycle = restCycle s.gate.cycle := h .cycle (hX _ (by decide))
  calc t.gate.cycle = { restCycle t.gate.cycle with
        pending := t.gate.cycle.pending, unannounced := t.gate.cycle.unannounced } := rfl
    _ = { restCycle s.gate.cycle with
        pending := s.gate.cycle.pending, unannounced := s.gate.cycle.unannounced } := by
      rw [h1, h2, h3]
    _ = s.gate.cycle := rfl

theorem gate_eq (h : Touches X s t)
    (hX : ∀ p ∈ [Part.places, .cycle, .ticket, .cars, .passback, .red], p ∉ X) :
    t.gate = s.gate := by
  have within : [Part.places, .cycle] ⊆ [.places, .cycle, .ticket, .cars, .passback, .red] := by
    decide
  have h1 := h.cycle_eq (fun p hp => hX p (within hp))
  have h2 : t.gate.ticket = s.gate.ticket := h .ticket (hX _ (by decide))
  have h3 : (t.gate.carA, t.gate.carB) = (s.gate.carA, s.gate.carB) := h .cars (hX _ (by decide))
  have h4 : t.gate.passback = s.gate.passback := h .passback (hX _ (by decide))
  have h5 : t.gate.redDue = s.gate.redDue := h .red (hX _ (by decide))
  simp only [Prod.mk.injEq] at h3
  cases hs : s.gate
  cases ht : t.gate
  simp only [hs, ht] at h1 h2 h3 h4 h5
  simp only [h1, h2, h3, h4, h5]

/-- A trip controller without what the part of the requeuing holds. -/
def restTrip (t : TripController) : TripController := { t with requeue := false }

theorem trip_eq (h : Touches X s t) (hX : ∀ p ∈ [Part.trip, .requeue], p ∉ X) : t.trip = s.trip := by
  have h1 : t.trip.requeue = s.trip.requeue := h .requeue (hX _ (by decide))
  have h2 : restTrip t.trip = restTrip s.trip := h .trip (hX _ (by decide))
  calc t.trip = { restTrip t.trip with requeue := t.trip.requeue } := rfl
    _ = { restTrip s.trip with requeue := s.trip.requeue } := by rw [h1, h2]
    _ = s.trip := rfl

end Touches

/-! ## The latest sample -/

theorem BrakeLaw.of_brake {s t : State} (h : BrakeLaw s) (hb : t.brake = s.brake) : BrakeLaw t := by
  unfold BrakeLaw State.formedLevel State.highestOwn State.highestHeard at *
  rw [hb]
  exact h

/-- With nothing raised there is no rise to judge. -/
theorem judgeRise_of_law {s : State} (h : BrakeLaw s) : s.judgeRise = s := by
  obtain ⟨-, -, hjudged, hraised, -⟩ := h
  unfold State.judgeRise
  dsimp only
  rw [← hjudged, if_neg (Nat.lt_irrefl _)]
  have hb : ({ s.brake with judged := s.brake.judged, raised := [] } : Brake) = s.brake := by
    rw [← hraised]
  exact congrArg (fun b => ({ s with brake := b } : State)) hb

theorem onLatestSample_of_sample {s : State} {sample : Nat} (hrun : s.running = true)
    (hs : s.meas.lastSample = some sample) (f : Nat → State → State) :
    s.onLatestSample f = (f sample s).judgeRise := by
  unfold State.onLatestSample
  rw [hs]
  exact if_pos hrun

/-- A command that raises one demand from a state `y` under the law of the levels. -/
theorem exec_raises {cmd : Instr} {s y : State} {c : Cause} {level : Nat}
    (hreset : isResetCommand cmd = false) (h : after cmd s = y.raise c level) (hlaw : BrakeLaw y)
    (hc : c ∈ demandCauses) :
    ∃ t, exec cmd s = .next t ∧ t.meas = y.meas ∧ t.sup = y.sup ∧
      t.latched c = max (y.latched c) level ∧ t.brake.effective = max y.brake.effective level := by
  obtain ⟨t, hexec, ht⟩ := exec_settledFrom hreset h
  obtain ⟨hself, -, heff⟩ := raise_levels hlaw hc level
  have touched := raise_touches c level y
  refine ⟨t, hexec, ht.meas_eq.trans (touched.meas_eq (by decide)),
    ht.sup_eq.trans (touched.sup_eq (by decide)), (ht.2.2.2.2 c hc).trans hself,
    ht.effective_eq.trans heff⟩

/-- Settles O19. -/
theorem disagreementAndAgreement : Obligations.DisagreementAndAgreement := by
  intro dt sample s hrun hlaw hs hsup h0 h1
  have compares : (s.advance dt).comparesChannels = true := by
    show (s.supervises && s.meas.e0.inService && s.meas.e1.inService) = true
    rw [hsup, h0, h1]; rfl
  have latest := onLatestSample_of_sample (s := s.advance dt) hrun hs
  have law : BrakeLaw (s.advance dt) := hlaw.of_brake rfl
  refine ⟨fun hstatus hran => ?_, fun hstatus hran => exec_settledFrom rfl ?_⟩
  · have heff : after (.disagreementTimerExpiry dt) s =
        ((s.advance dt).setMeas ({ · with status := .disagree })).raise .referenceDisagree 1 := by
      refine (latest _).trans ((congrArg State.judgeRise (if_pos compares)).trans ?_)
      rw [State.judgeDisagree, if_pos]
      · rfl
      · show (s.meas.status == .normal && ranFor s.meas.disagreeSince sample 500) = true
        rw [hstatus, hran]; rfl
    obtain ⟨t, hexec, hmeas, -, hlatched, hlevel⟩ :=
      exec_raises rfl heff (law.of_brake rfl) (by decide)
    exact ⟨t, hexec, hmeas, hlatched, hlevel⟩
  · refine (latest _).trans ((congrArg State.judgeRise (if_pos compares)).trans ?_)
    rw [State.judgeAgree, if_pos]
    · exact judgeRise_of_law (law.of_brake rfl)
    · show (s.meas.status == .disagree && ranFor s.meas.agreeSince sample 500) = true
      rw [hstatus, hran]; rfl

/-- Settles O20. -/
theorem standstillAndSlip : Obligations.StandstillAndSlip := by
  intro dt sample s hrun hlaw hs
  have latest := onLatestSample_of_sample (s := s.advance dt) hrun hs
  have law : BrakeLaw (s.advance dt) := hlaw.of_brake rfl
  refine ⟨fun hstill hran => exec_settledFrom rfl ?_, fun hrole hran hpresent => ?_⟩
  · refine (latest _).trans ?_
    rw [State.judgeStandstill, if_pos]
    · exact judgeRise_of_law (law.of_brake rfl)
    · show (ranFor s.meas.slowSince sample 500 && !s.meas.standstill) = true
      rw [hran, hstill]; rfl
  · have heff : after (.ropeSlipTimerExpiry dt) s = ((s.advance dt).setSup (fun p => { p with
        present := p.present ++ [.ropeSlip] })).raise .ropeSlip 3 := by
      refine (latest _).trans ?_
      rw [State.judgeSlip, if_pos]
      · rfl
      · show (s.role == .car && ranFor s.sup.slipSince sample (s.k .slipTime)
          && !s.sup.present.contains .ropeSlip) = true
        rw [hrole, hran, List.contains_eq_mem, decide_eq_false hpresent]; rfl
    obtain ⟨t, hexec, hmeas, hsup, hlatched, hlevel⟩ :=
      exec_raises rfl heff (law.of_brake rfl) (by decide)
    exact ⟨t, hexec, hmeas, hsup, hlatched, hlevel⟩

/-! ## Loss of a channel (R23, R24) -/

/-- A channel judged as lost. -/
def Channel.lostAt (now : UnitTime) (c : Channel) : Channel :=
  { c with inService := false, lastFault := some now }

theorem judgeLossOf_fallback {s : State} {ch : ChannelId}
    (hin : (s.meas.channel ch).inService = true)
    (hother : (s.meas.channel (otherChannel ch)).inService = true) :
    s.judgeLossOf ch = (s.setMeas (fun m => { m.setChannel ch (Channel.lostAt s.unitTime) with
      status := .fallback, reference := otherChannel ch
      disagreeSince := none, agreeSince := none })).bump .channelLosses := by
  cases ch <;>
  · simp only [Measurement.channel, otherChannel] at hin hother
    simp [State.judgeLossOf, State.judgeLoss, hin, hother, lossStatus, lossReference,
      Measurement.setChannel, Channel.lostAt, otherChannel, State.setMeas]

theorem judgeLossOf_none {s : State} {ch : ChannelId}
    (hin : (s.meas.channel ch).inService = true)
    (hother : (s.meas.channel (otherChannel ch)).inService = false) (hsup : s.supervises = true) :
    s.judgeLossOf ch = ((s.setMeas (fun m => { m.setChannel ch (Channel.lostAt s.unitTime) with
      status := .none, disagreeSince := none, agreeSince := none })).bump .channelLosses).latch
        .referenceLost 2 := by
  have sup (m : Measurement) : ((s.setMeas (fun _ => m)).bump .channelLosses).supervises = true :=
    hsup
  cases ch <;>
  · simp only [Measurement.channel, otherChannel] at hin hother
    simp only [State.setMeas] at sup
    simp [State.judgeLossOf, State.judgeLoss, hin, hother, lossStatus, lossReference,
      Measurement.setChannel, Channel.lostAt, State.setMeas, sup]

/-- Settles O18. -/
theorem channelLoss : Obligations.ChannelLoss := by
  intro dt sample ch s hrun hlaw hs hin lost c hc
  have latest := onLatestSample_of_sample (s := s.advance dt) hrun hs
  have law : BrakeLaw (s.advance dt) := hlaw.of_brake rfl
  have judged : isResetCommand c = false ∧
      after c s = ((s.advance dt).judgeLossOf ch).judgeRise := by
    rcases hc with ⟨rfl, hmet⟩ | ⟨rfl, hmet⟩
    all_goals
      exact ⟨rfl, (latest _).trans (congrArg State.judgeRise
        (if_pos (Bool.and_eq_true_iff.mpr ⟨hin, hmet⟩)))⟩
  obtain ⟨hreset, hafter⟩ := judged
  refine ⟨fun hother => exec_settledFrom hreset ?_, fun hother hsup => ?_⟩
  · rw [hafter, judgeLossOf_fallback (s := s.advance dt) hin hother]
    exact judgeRise_of_law (law.of_brake rfl)
  · have heff := hafter.trans (congrArg State.judgeRise
      (judgeLossOf_none (s := s.advance dt) hin hother hsup))
    obtain ⟨t, hexec, hmeas, -, hlatched, hlevel⟩ :=
      exec_raises hreset heff (law.of_brake rfl) (by decide)
    exact ⟨t, hexec, hmeas, hlatched, by rw [hlevel]; exact Nat.le_max_right _ _⟩

/-! ## Marks -/

theorem markEdge_of_unknown {s : State} (h : s.meas.known = false ∨
    nearestMark (s.conf.candidates s.conf.car) s.edgeEstimate = none) :
    s.markEdge = s.bump .unexpectedMarks := by
  unfold State.markEdge
  rcases h with h | h
  · rw [if_neg (by rw [h]; exact Bool.false_ne_true)]
  · rw [h]
    split <;> rfl

theorem markEdge_of_nearest {s : State} {i : Nat} {m : Mark} (hknown : s.meas.known = true)
    (h : nearestMark (s.conf.candidates s.conf.car) s.edgeEstimate = some (i, m)) :
    s.markEdge = if ((m.position : Int) - s.edgeEstimate).natAbs ≤ s.captureWindow
      then s.matchMark m else s.bump .unexpectedMarks := by
  unfold State.markEdge
  rw [if_pos hknown, h]

/-- Settles O21. -/
theorem markDetector : Obligations.MarkDetector := by
  intro dt high s hrun
  have tested (hrole : s.role = .car) (hactive : s.markActive high = true) :
      after (.markDetectorEdge dt high) s = (s.advance dt).markEdge := by
    refine if_pos ?_
    show (s.running && s.role == .car && s.markActive high) = true
    rw [hrun, hrole, hactive]; rfl
  refine ⟨fun hrole hactive hknown i m hm => ⟨fun hwithin => ?_, fun hbeyond =>
    exec_settledFrom rfl ?_⟩, fun hrole hactive h => exec_settledFrom rfl
      ((tested hrole hactive).trans (markEdge_of_unknown (s := s.advance dt) h)),
    fun h => exec_settledFrom rfl (if_neg ?_)⟩
  · have heff : after (.markDetectorEdge dt high) s = (s.advance dt).matchMark m :=
      (tested hrole hactive).trans
        ((markEdge_of_nearest (s := s.advance dt) hknown hm).trans (if_pos hwithin))
    obtain ⟨t, hexec, ht⟩ := exec_settledFrom rfl heff
    refine ⟨t, hexec, ?_, ?_, ?_, ?_, ?_, ?_, ?_⟩
    · rw [ht.meas_eq]; rfl
    · rw [ht.meas_eq]; rfl
    · rw [ht.meas_eq]; rfl
    · rw [ht.meas_eq]; rfl
    · rw [ht.meas_eq]; rfl
    · rw [ht.meas_eq]
      exact Int.sub_add_cancel _ _
    · rw [ht.meas_eq]
      exact ht
  · refine (tested hrole hactive).trans ((markEdge_of_nearest (s := s.advance dt) hknown hm).trans
      (if_neg (Nat.not_le.mpr hbeyond)))
  · show ¬(s.running && s.role == .car && s.markActive high) = true
    rcases h with h | h
    · rw [beq_eq_false_iff_ne.mpr h, Bool.and_false, Bool.false_and]
      exact Bool.false_ne_true
    · rw [h, Bool.and_false]
      exact Bool.false_ne_true

/-! ## The grant table's timer -/

/-- Settles O48. -/
theorem discardTimer : Obligations.DiscardTimer := by
  intro dt s hrun hdue
  have heff : after (.discardTimerExpiry dt) s = (s.advance dt).discardExpiry :=
    if_pos (Bool.and_eq_true_iff.mpr ⟨hrun, hdue⟩)
  refine ⟨fun h => exec_settledFrom rfl (heff.trans ?_), fun hpending hready =>
    exec_settledFrom rfl (heff.trans ?_)⟩
  · unfold State.discardExpiry
    rcases h with h | h <;> rw [State.advance_grant, h] <;> rfl
  · unfold State.discardExpiry
    split
    · exact absurd ‹_› hpending
    · exact absurd ‹_› hready
    · rfl

/-! ## Debounced inputs -/

theorem inputChanged_of_passage {s : State} (h : s.role = .gate) :
    s.inputChanged 0 true = s.passage := by
  unfold State.inputChanged
  rw [h]
  rfl

/-- Settles O56. -/
theorem debounceTakesLevel : Obligations.DebounceTakesLevel := by
  intro dt i s hrun hdue
  have heff : after (.debounceTimerExpiry dt i) s = (s.advance dt).debounce i :=
    if_pos (Bool.and_eq_true_iff.mpr ⟨hrun, hdue⟩)
  refine ⟨?_, fun x due hrole hi hactive hticket => exec_settledFrom rfl (heff.trans ?_)⟩
  · obtain ⟨t, hexec, ht⟩ := exec_settledFrom rfl (heff.trans (debounce_eq i _))
    have reported := inputChanged_touches i ((s.advance dt).rawActive i) ((s.advance dt).takeLevel i)
    have settled := ht.touches
    refine ⟨t, hexec, ?_, ?_, ?_⟩
    · exact (settled .debounced (by decide)).trans (reported .debounced (by decide))
    · exact (settled .debounceDue (by decide)).trans (reported .debounceDue (by decide))
    · exact (settled .wires (by decide)).trans (reported .wires (by decide))
  · subst hi
    have role : ((s.advance dt).takeLevel 0).role = .gate := hrole
    have active : (s.advance dt).rawActive 0 = true := hactive
    rw [debounce_eq, active, inputChanged_of_passage role]
    unfold State.passage
    rw [show ((s.advance dt).takeLevel 0).gate.ticket = _ from hticket]
    show _ = _
    rw [State.takeLevel, active]
    rfl

end Sys2Proof.Machine
end


section
/-! # Proofs, silence, periods and the load (Chapters 2, 3, 4 and 6) -/

namespace Sys2Proof.Machine

open Sys2Proof

/-! ## Counts through a raise -/

namespace KeepsCounts

variable {s : State}

theorem carWithdraw (b g : Nat) (r : WithdrawReason) (s : State) :
    KeepsCounts s (s.carWithdraw b g r) :=
  (of_counts rfl : KeepsCounts s (s.setDoor _)).trans (enqueue _ _)

theorem setSides {t : State} (h : KeepsCounts s t) (f : Side → DoorSideContext → DoorSideContext)
    (g : DoorBlock → DoorBlock) : KeepsCounts s ((t.mapSides f).setDoor g) :=
  h.trans (of_counts rfl)

theorem lockClosing (s : State) : KeepsCounts s s.lockClosing := by
  unfold State.lockClosing State.withdrawLocked
  dsimp only
  split
  · exact of_counts rfl
  · refine setSides ?_ _ _
    split
    · exact (of_counts rfl : KeepsCounts s s.lockSides).trans (carWithdraw _ _ _ _)
    · exact of_counts rfl

theorem endEvacuation (s : State) : KeepsCounts s s.endEvacuation := by
  unfold State.endEvacuation
  split
  · exact (of_counts rfl : KeepsCounts s (s.mapSides _)).trans (lockClosing _)
  · exact of_counts rfl

theorem tellLevel (before : Nat) (s : State) : KeepsCounts s (s.tellLevel before) := by
  unfold State.tellLevel
  split
  · split
    · exact of_touches (tripRise_touches _ s)
    · exact of_counts rfl
  · split
    · exact endEvacuation s
    · exact of_counts rfl
  · exact of_counts rfl
  · exact of_counts rfl

theorem reform (s : State) : KeepsCounts s s.reform := by
  unfold State.reform
  dsimp only
  split
  · exact of_counts rfl
  · refine trans (t := s.setBrake ({ · with effective := s.formedLevel })) (of_counts rfl) ?_
    unfold State.levelChanged
    split
    · exact ((of_touches (proofAtChange_touches _ _)).trans (tellLevel _ _)).trans
        (stateQueued (queueAllStates_stateQueued _))
    · exact of_counts rfl

theorem judgeRise (s : State) : KeepsCounts s s.judgeRise := by
  have judged : KeepsCounts s (s.setBrake ({ · with judged := s.highestOwn, raised := [] })) :=
    of_counts rfl
  unfold State.judgeRise
  dsimp only
  split
  · split
    · exact ((judged.trans (enqueue _ _)).trans (of_touches (writeRecord_touches _ _ _))).trans
        (reform _)
    · exact judged.trans (reform _)
  · exact judged

theorem raise (c : Cause) (level : Nat) (s : State) : KeepsCounts s (s.raise c level) :=
  (of_touches (latch_touches c level s)).trans (judgeRise _)

end KeepsCounts

/-! ## Brake proof (R107) -/

/-- A failed proof is counted and raises its level. -/
theorem proofFailed_raises {s t : State} {c : Instr} {level : Nat}
    (hc : isResetCommand c = false) (hlaw : BrakeLaw s)
    (h : after c t = ((s.bump .proofFailures)).raise .brakeProof level) :
    ∃ u, exec c t = .next u ∧ u.latched .brakeProof = max (s.latched .brakeProof) level ∧
      u.brake.effective = max s.brake.effective level ∧
      u.count .proofFailures = (s.bump .proofFailures).count .proofFailures := by
  have law : BrakeLaw (s.bump .proofFailures) := hlaw.of_brake rfl
  obtain ⟨hself, -, heff⟩ := raise_levels law (c := .brakeProof) (by decide) level
  obtain ⟨u, hexec, hu⟩ := exec_settledFrom hc h
  exact ⟨u, hexec, (hu.2.2.2.2 _ (by decide)).trans hself, hu.effective_eq.trans heff,
    hu.count_eq.trans ((KeepsCounts.raise _ _ _).count _ (by decide))⟩

/-- Settles O40. -/
theorem brakeProofJudged : Obligations.BrakeProofJudged := by
  intro dt s p hrun hlaw hp hdue
  set ended := (s.advance dt).setBrake ({ · with proof := none }) with hended
  have law : BrakeLaw ended := hlaw
  have heff : after (.brakeProofTimerExpiry dt) s = (s.advance dt).judgeProof p := by
    show (match s.brake.proof with
      | some p => if (s.running && decide (p.due ≤ s.clock + dt)) = true
          then (s.advance dt).judgeProof p else s.advance dt
      | none => s.advance dt) = _
    rw [hp]
    exact if_pos (by rw [hrun, decide_eq_true hdue]; rfl)
  refine ⟨fun h => exec_settledFrom rfl (heff.trans (if_pos (decide_eq_true h))),
    fun hfast hslow => ?_⟩
  have failed : (s.advance dt).judgeProof p = ended.proofFailed p := if_neg (by
    show ¬decide (s.absV < 20 ∨ s.absV + s.k .proofDecrement ≤ p.speed) = true
    rw [decide_eq_true_eq]
    omega)
  refine ⟨fun hrole hlevel => ?_, fun hrole hlevel => ?_, fun hrole hlevel => ?_⟩
  · refine proofFailed_raises (s := ended) rfl law ((heff.trans failed).trans ?_)
    unfold State.proofFailed
    rw [show ended.role = .drive from hrole]
    rcases hlevel with h | h <;> rw [h] <;> rfl
  · refine proofFailed_raises (s := ended) rfl law ((heff.trans failed).trans ?_)
    unfold State.proofFailed
    rw [show ended.role = .car from hrole, hlevel]
    rfl
  · refine exec_settledFrom rfl ((heff.trans failed).trans ?_)
    unfold State.proofFailed
    rw [show ended.role = .car from hrole, hlevel]
    rfl

/-! ## Notices leave the gate block alone -/

theorem reform_gate_of_not_gate {s : State} (h : s.role ≠ .gate) : s.reform.gate = s.gate := by
  unfold State.reform
  dsimp only
  split
  · rfl
  · unfold State.levelChanged
    split
    · set x := s.setBrake ({ · with effective := s.formedLevel })
      have proof := proofAtChange_touches s.brake.effective x
      have told : ((x.proofAtChange s.brake.effective).tellLevel s.brake.effective).gate = s.gate := by
        have role : (x.proofAtChange s.brake.effective).role ≠ .gate := fun e =>
          h ((proof.role_eq).symm.trans e)
        refine Eq.trans ?_ (proof.gate_eq (by decide))
        unfold State.tellLevel
        split
        · split
          · exact (tripRise_touches _ _).gate_eq (by decide)
          · rfl
        · split
          · exact (endEvacuation_touches _).gate_eq (by decide)
          · rfl
        · contradiction
        · rfl
      exact ((queueAllStates_touches _).gate_eq (by decide)).trans told
    · rfl

theorem judgeRise_gate_of_not_gate {s : State} (h : s.role ≠ .gate) :
    s.judgeRise.gate = s.gate := by
  set x := s.setBrake ({ · with judged := s.highestOwn, raised := [] }) with hx
  unfold State.judgeRise
  dsimp only
  split
  · split
    next cause _ _ =>
      have queued := (queueOrder_touches s.highestOwn cause x).comp
        (writeRecord_touches cause s.highestOwn _)
      exact (reform_gate_of_not_gate (fun e => h (queued.role_eq.symm.trans e))).trans
        (queued.gate_eq (by decide))
    · exact reform_gate_of_not_gate (s := x) h
  · rfl

theorem judgeGrant_gate_of_not_gate {s : State} (h : s.role ≠ .gate) :
    s.judgeGrant.gate = s.gate := by
  have left (x : State) : x.leaveWithdrawing.gate = x.gate :=
    (leaveWithdrawing_touches x).gate_eq (by decide)
  unfold State.judgeGrant
  split
  · split <;> rfl
  · split <;> rfl
  · unfold State.judgeGranted
    split
    · have withdrawn : Touches grantParts s (((s.startWithdrawing .presenceLost).sendWithdrawal
          .presenceLost).bump .presenceLosses) :=
        (((setGrant_grantParts _ s).trans (enqueue_grantParts _ _))).trans
          ((bump_touches _ _).mono (by decide))
      refine (left _).trans ((judgeRise_gate_of_not_gate ?_).trans (withdrawn.gate_eq (by decide)))
      exact fun e => h (withdrawn.role_eq.symm.trans e)
    · split
      · refine (left _).trans (Touches.gate_eq (X := grantParts) ?_ (by decide))
        exact (setGrant_grantParts _ s).trans (enqueue_grantParts _ _)
      · rfl
  · exact left s
  · rfl

theorem notice_gate (id : Identity) (s : State) : (s.notice id).gate = s.gate := by
  have closing : s.judgeClosing.gate = s.gate := (judgeClosing_touches s).gate_eq (by decide)
  unfold State.notice
  split
  · exact closing
  · split
    · exact closing
    · rfl
  · exact (doorDriveNotice_touches s).gate_eq (by decide)
  · split
    · exact (doorBerthNotice_touches s).gate_eq (by decide)
    · rfl
  next hrole =>
    split
    · exact judgeGrant_gate_of_not_gate (by rw [hrole]; decide)
    · rfl
  · rfl

theorem noticeChanges_gate (before : List PeerEntry) (stored : List Identity) (s : State) :
    (s.noticeChanges before stored).gate = s.gate := by
  unfold State.noticeChanges
  generalize (stored ++ changedIdentities before s.peers).eraseDups = l
  induction l generalizing s with
  | nil => rfl
  | cons id l ih => exact (ih _).trans (notice_gate id s)

/-- What the blocks notified of a change of the peer view can touch. -/
def notifiedParts : List Part :=
  [.demands, .judged, .records, .effective, .proof, .queue, .periods, .requeue, .counts, .trip,
   .sides, .door, .grant, .cycle]

theorem notice_touches_notifiedParts (id : Identity) (s : State) :
    Touches notifiedParts s (s.notice id) := by
  have closing : Touches notifiedParts s s.judgeClosing :=
    .ite (fun _ => (setTrip_touches _ s).mono (by decide)) (fun _ => .refl _ _)
  unfold State.notice
  split
  · exact closing
  · exact .ite (fun _ => closing) (fun _ => .refl _ _)
  · exact (doorDriveNotice_touches s).mono (by decide)
  · exact .ite (fun _ => (doorBerthNotice_touches s).mono (by decide)) (fun _ => .refl _ _)
  · exact .ite (fun _ => (judgeGrant_touches s).mono (by decide)) (fun _ => .refl _ _)
  · exact .refl _ _

theorem noticeChanges_touches_notifiedParts (before : List PeerEntry) (stored : List Identity)
    (s : State) : Touches notifiedParts s (s.noticeChanges before stored) :=
  .foldl (fun t id => notice_touches_notifiedParts id t) _ s

/-! ## Silence (R64) -/

theorem mem_modify {α : Type} {l : List α} {i : Nat} {f : α → α} {x : α} (h : x ∈ l.modify i f) :
    x ∈ l ∨ ∃ y ∈ l, x = f y := by
  obtain ⟨j, hj, rfl⟩ := List.getElem_of_mem h
  rw [List.length_modify] at hj
  rw [List.getElem_modify]
  split
  · exact .inr ⟨_, List.getElem_mem hj, rfl⟩
  · exact .inl (List.getElem_mem hj)

theorem endConflicts_of_none {s : State} (h : ∀ e ∈ s.peers, e.freshness ≠ .conflict) :
    s.endConflicts = s := by
  have unmoved : ∀ x ∈ s.peers.zipIdx, (match x.1.freshness, x.1.announcement with
      | .conflict, some a =>
          if s.inConflict x.2 a then x.1 else { x.1 with freshness := s.afterConflict x.1 }
      | _, _ => x.1) = x.1 := fun x hx => by
    have hne := h x.1 (List.fst_mem_of_mem_zipIdx hx)
    split
    · contradiction
    · rfl
  have hmap := (List.map_congr_left unmoved).trans (List.zipIdx_map_fst 0 s.peers)
  exact congrArg (fun l => ({ s with peers := l } : State)) hmap

/-- Settles O37. -/
theorem silenceTimers : Obligations.SilenceTimers := by
  intro dt addr s hrun e silence
  set n := s.advance dt with hn
  have stale : after (.staleTimerExpiry dt addr) s =
      if (s.running && e.freshness == .fresh && decide (e.staleTime ≤ silence)) = true
        then n.goStale addr else n := rfl
  have lost : after (.lostTimerExpiry dt addr) s =
      if (s.running && runsLostTimer e.freshness && decide (5000 ≤ silence)) = true
        then n.goLost addr else n := rfl
  refine ⟨fun hfresh hsilent => ?_, fun h => exec_unless rfl stale ?_,
    fun hruns hsilent hnone => ?_, fun h => exec_unless rfl lost ?_⟩
  · obtain ⟨t, hexec, ht⟩ := exec_when rfl stale (by
      rw [hrun, hfresh, decide_eq_true hsilent]; rfl)
    have told : Touches notifiedParts (n.setEntry addr ({ · with freshness := .stale }))
        (n.goStale addr) := noticeChanges_touches_notifiedParts _ _ _
    refine ⟨t, hexec, ?_, ?_, ?_, ?_, ?_⟩
    · exact ht.peers_eq.trans told.peers_eq
    · exact ht.meas_eq.trans (told.meas_eq (by decide))
    · exact ht.sup_eq.trans (told.sup_eq (by decide))
    · exact ht.gate_eq.trans (noticeChanges_gate _ _ _)
    · exact ht.prof_eq.trans (told.prof_eq (by decide))
  · rw [hrun, Bool.true_and]
    rcases h with h | h
    · rw [beq_eq_false_iff_ne.mpr h, Bool.false_and]
    · rw [decide_eq_false (Nat.not_le.mpr h), Bool.and_false]
  · obtain ⟨t, hexec, ht⟩ := exec_when rfl lost (by
      rw [hrun, decide_eq_true hsilent]
      rcases hruns with h | h | h <;> rw [h] <;> rfl)
    set x := n.setEntry addr ({ · with freshness := .lost }) with hx
    have unended : x.endConflicts = x := endConflicts_of_none (fun p hp => by
      rcases mem_modify (l := n.peers) hp with h | ⟨q, -, rfl⟩
      · exact hnone p h
      · exact fun h => nomatch h)
    set y := x.countEntered n.peers with hy
    have counted : Touches [.counts] x y := countEntered_touches n.peers x
    have held := counted.comp (clearHeld_touches y)
    have kept : y.prof.notice = s.prof.notice := counted .notice (by decide)
    have emptied : ∃ z, n.goLost addr = z.noticeChanges n.peers [] ∧
        Touches [.counts, .held, .notice] x z ∧
        z.prof.notice = if s.role = .car ∧ n.answer .drive = some addr then none
          else s.prof.notice := by
      have role : y.clearHeld.role = s.role := held.role_eq
      unfold State.goLost
      dsimp only
      rw [← hx, unended, ← hy]
      by_cases hd : n.answer .drive = some addr
      · by_cases hr : s.role = .car
        · rw [if_pos hd, if_pos (by rw [role, hr]; rfl), if_pos ⟨hr, hd⟩]
          exact ⟨_, rfl, held.comp (emptyNotice_touches _), rfl⟩
        · rw [if_pos hd, if_neg (by rw [role]; simpa using hr), if_neg (fun h => hr h.1)]
          exact ⟨_, rfl, held.mono (by decide), kept⟩
      · rw [if_neg hd, if_neg (fun h => hd h.2)]
        exact ⟨_, rfl, counted.mono (by decide), kept⟩
    obtain ⟨z, hgo, hz, hnotice⟩ := emptied
    rw [hgo] at ht
    have told := noticeChanges_touches_notifiedParts n.peers [] z
    refine ⟨t, hexec, ?_, ?_, ?_, ?_, ?_⟩
    · exact ht.peers_eq.trans (told.peers_eq.trans hz.peers_eq)
    · exact ht.meas_eq.trans ((told.meas_eq (by decide)).trans (hz.meas_eq (by decide)))
    · exact ht.sup_eq.trans ((told.sup_eq (by decide)).trans (hz.sup_eq (by decide)))
    · exact ht.gate_eq.trans ((noticeChanges_gate _ _ _).trans (hz.gate_eq (by decide)))
    · rw [ht.prof_eq, ← hnotice]
      exact told .notice (by decide)
  · rw [hrun, Bool.true_and]
    rcases h with h | h | h
    · rw [h]; rfl
    · rw [h]; rfl
    · rw [decide_eq_false (Nat.not_le.mpr h), Bool.and_false]

/-! ## The period timers (R52) -/

theorem StateQueued.settled {x y t : State} (h : StateQueued x y) (ht : SettledFrom y t) :
    SettledFrom x t := by
  obtain ⟨hy, hq, hn, hc⟩ := h
  obtain ⟨ht', hq', hn', hc', hl'⟩ := ht
  refine ⟨?_, hq'.trans hq, fun k hk => (hn' k hk).trans (hn k hk),
    fun c hc0 => (hc' c hc0).trans (hc c hc0), fun c hm => (hl' c hm).trans ?_⟩
  · conv_lhs => rw [ht', hy]
  · rw [State.latched, hy]
    rfl

theorem StateQueued.stateContent_eq {x y : State} (h : StateQueued x y) (k : StateKind) :
    y.stateContent k = x.stateContent k := by
  rw [h.1]
  cases k <;> rfl

theorem StateQueued.role_eq {x y : State} (h : StateQueued x y) : y.role = x.role :=
  h.touches.role_eq

/-- The STATE kind of a content. -/
def stateFrameKind : StateKind → FrameKind
  | .motion => .motion
  | .doorState => .doorState
  | .berthState => .berthState
  | .loadReport => .loadReport
  | .admissionReport => .admissionReport

theorem stateContent_kind (s : State) (k : StateKind) : (s.stateContent k).kind = stateFrameKind k := by
  cases k <;> rfl

theorem frameKind_inj {k j : StateKind} (h : stateFrameKind k = stateFrameKind j) : k = j := by
  cases k <;> cases j <;> first | rfl | cases h

theorem index_inj {k j : StateKind} (h : k.index = j.index) : k = j := by
  cases k <;> cases j <;> first | rfl | cases h

/-- The frame that a kind queues at this moment stands in the queue, and the kind's timer and content are
those of this moment. -/
structure Queued (k : StateKind) (due : Nat) (s : State) : Prop where
  frame : ∃ f ∈ s.bus.queue, f.payload = s.stateContent k ∧ f.failed = 0 ∧ f.onBus = false
  period : s.bus.periodDue[k.index]? = some (some due)
  content : s.bus.lastContent[k.index]? = some (some (s.stateContent k))

/-- A STATE frame queued while the queue has a place: the frames of other kinds stay, the queue grows by one
at most, and the new frame stands in it (R49, R51). -/
theorem enqueueState_of_room {s : State} {p : Payload} (h : s.bus.queue.length < 8) :
    (s.enqueueState p).bus.queue.length ≤ s.bus.queue.length + 1 ∧
      s.newFrame p ∈ (s.enqueueState p).bus.queue ∧
      ∀ f ∈ s.bus.queue, f.payload.kind ≠ p.kind → f ∈ (s.enqueueState p).bus.queue := by
  unfold State.enqueueState
  dsimp only
  split
  next hany =>
    obtain ⟨g, hg, hkind⟩ := List.any_eq_true.mp hany
    refine ⟨?_, List.mem_map.mpr ⟨g, hg, if_pos hkind⟩, fun f hf hne => List.mem_map.mpr
      ⟨f, hf, if_neg (fun e => hne (beq_iff_eq.mp e))⟩⟩
    rw [State.setQueue_bus, List.length_map]
    exact Nat.le_succ _
  · rw [if_pos (show s.bus.queue.length < txCapacity from h), State.setQueue_bus]
    refine ⟨?_, List.mem_append_right _ (List.mem_singleton.mpr rfl),
      fun f hf _ => List.mem_append_left _ hf⟩
    rw [List.length_append]
    exact Nat.le_refl _

theorem enqueue_stateContent {s : State} (hrun : s.running = true) (k : StateKind) :
    s.enqueue (s.stateContent k) = s.enqueueState (s.stateContent k) := by
  unfold State.enqueue
  rw [if_pos hrun, stateContent_cls]

theorem queueState_of_room {s : State} (hrun : s.running = true) (h : s.bus.queue.length < 8)
    (k : StateKind) : (s.queueState k).bus.queue.length ≤ s.bus.queue.length + 1 := by
  show (s.enqueue (s.stateContent k)).bus.queue.length ≤ _
  rw [enqueue_stateContent hrun]
  exact (enqueueState_of_room h).1

/-- Queuing a kind establishes what `Queued` says of it. -/
theorem queueState_queued {s : State} (hrun : s.running = true) (h : s.bus.queue.length < 8)
    (hperiods : s.bus.periodDue.length = 5) (hcontents : s.bus.lastContent.length = 5)
    (k : StateKind) : Queued k (s.after 250) (s.queueState k) := by
  have same := (queueState_stateQueued s k).stateContent_eq k
  have touched := enqueue_touches (s.stateContent k) s
  have periods : (s.enqueue (s.stateContent k)).bus.periodDue = s.bus.periodDue :=
    congrArg Prod.fst (touched .periods (by decide))
  have contents : (s.enqueue (s.stateContent k)).bus.lastContent = s.bus.lastContent :=
    congrArg Prod.snd (touched .periods (by decide))
  have hk : k.index < 5 := by cases k <;> decide
  refine ⟨⟨s.newFrame (s.stateContent k), ?_, same.symm, rfl, rfl⟩, ?_, ?_⟩
  · show _ ∈ (s.enqueue (s.stateContent k)).bus.queue
    rw [enqueue_stateContent hrun]
    exact (enqueueState_of_room h).2.1
  · show ((s.enqueue (s.stateContent k)).bus.periodDue.set k.index
      (some ((s.enqueue (s.stateContent k)).after 250)))[k.index]? = _
    rw [periods, List.getElem?_set_self (by omega), State.after, State.after, touched.clock_eq]
  · show ((s.enqueue (s.stateContent k)).bus.lastContent.set k.index
      (some (s.stateContent k)))[k.index]? = _
    rw [contents, List.getElem?_set_self (by omega), same]

/-- Queuing another kind leaves it so. -/
theorem Queued.queueState {s : State} {k j : StateKind} {due : Nat} (hq : Queued k due s)
    (hrun : s.running = true) (h : s.bus.queue.length < 8) (hne : j ≠ k) :
    Queued k due (s.queueState j) := by
  have same := (queueState_stateQueued s j).stateContent_eq k
  have touched := enqueue_touches (s.stateContent j) s
  have periods : (s.enqueue (s.stateContent j)).bus.periodDue = s.bus.periodDue :=
    congrArg Prod.fst (touched .periods (by decide))
  have contents : (s.enqueue (s.stateContent j)).bus.lastContent = s.bus.lastContent :=
    congrArg Prod.snd (touched .periods (by decide))
  have index : j.index ≠ k.index := fun e => hne (index_inj e)
  obtain ⟨⟨f, hf, hp, hfailed, hbus⟩, hperiod, hcontent⟩ := hq
  refine ⟨⟨f, ?_, hp.trans same.symm, hfailed, hbus⟩, ?_, ?_⟩
  · show _ ∈ (s.enqueue (s.stateContent j)).bus.queue
    rw [enqueue_stateContent hrun]
    refine (enqueueState_of_room h).2.2 f hf (fun e => hne (frameKind_inj ?_))
    rw [hp, stateContent_kind, stateContent_kind] at e
    exact e.symm
  · show ((s.enqueue (s.stateContent j)).bus.periodDue.set j.index _)[k.index]? = _
    rw [periods, List.getElem?_set_ne index, hperiod]
  · show ((s.enqueue (s.stateContent j)).bus.lastContent.set j.index _)[k.index]? = _
    rw [contents, List.getElem?_set_ne index, hcontent, same]

/-- A kind whose content is that last queued is not queued again (R52). -/
theorem Queued.not_changed {s : State} {k : StateKind} {due : Nat} (hq : Queued k due s) :
    s.stateChanged k = false := by
  unfold State.stateChanged
  rw [List.getD_eq_getElem?_getD, hq.content]
  simp

/-- A queue with places for a list of kinds keeps what `Queued` says through their changes. -/
theorem Queued.foldl {k : StateKind} {due : Nat} (l : List StateKind) {s : State}
    (hq : Queued k due s) (hrun : s.running = true)
    (h : s.bus.queue.length + (l.filter (· ≠ k)).length ≤ 8) :
    Queued k due (l.foldl (fun t j => if t.stateChanged j then t.queueState j else t) s) := by
  induction l generalizing s with
  | nil => exact hq
  | cons j l ih =>
    rw [List.foldl_cons]
    by_cases hj : j = k
    · subst hj
      rw [if_neg (by rw [hq.not_changed]; exact Bool.false_ne_true)]
      refine ih hq hrun ?_
      simpa using h
    · rw [List.filter_cons_of_pos (by simpa using hj), List.length_cons] at h
      split
      · have hlt : s.bus.queue.length < 8 := by omega
        have queued := queueState_stateQueued s j
        refine ih (hq.queueState hrun hlt hj) (queued.touches.running_eq.trans hrun) ?_
        have := queueState_of_room hrun hlt j
        omega
      · exact ih hq hrun (by omega)

/-- Settles O36. -/
theorem statePeriodQueues : Obligations.StatePeriodQueues := by
  intro dt k s hrun hk hdue hperiods hcontents hlen
  set n := s.advance dt with hn
  have heff : after (.statePeriodExpiry dt k) s = n.queueState k := by
    refine if_pos ?_
    show (s.running && (stateKinds s.role).contains k &&
      n.due (s.bus.periodDue.getD k.index none)) = true
    rw [hrun, hdue, List.contains_eq_mem, decide_eq_true hk]
    rfl
  have queued := queueState_queued (s := n) hrun (by show s.bus.queue.length < 8; omega)
    hperiods hcontents k
  have frame := queueState_stateQueued n k
  have running : (n.queueState k).running = true := frame.touches.running_eq.trans hrun
  have room : (n.queueState k).bus.queue.length + ((stateKinds s.role).filter (· ≠ k)).length ≤ 8 := by
    have grown := queueState_of_room (s := n) hrun (by show s.bus.queue.length < 8; omega) k
    have others : ((stateKinds s.role).filter (· ≠ k)).length ≤ 2 := by
      revert hk
      cases s.role <;> cases k <;> decide
    have : n.bus.queue.length ≤ 5 := hlen
    omega
  obtain ⟨⟨f, hf, hp, hfailed, hbus⟩, hperiod, hcontent⟩ := Queued.foldl (stateKinds s.role)
    queued running room
  have changed : (n.queueState k).queueChangedStates = (stateKinds s.role).foldl
      (fun t j => if t.stateChanged j then t.queueState j else t) (n.queueState k) := by
    unfold State.queueChangedStates
    rw [frame.role_eq]
    rfl
  have bus : (n.queueState k).settle.bus = (n.queueState k).queueChangedStates.bus := by
    unfold State.settle
    rw [if_pos running]
    rfl
  have content : (n.queueState k).queueChangedStates.stateContent k = s.stateContent k :=
    (frame.trans (queueChangedStates_stateQueued _)).stateContent_eq k
  rw [← changed] at hf hp hperiod hcontent
  rw [exec_of_not_reset rfl, heff]
  refine ⟨_, rfl, frame.settled (settle_settledFrom _), ?_, ?_, f, ?_, hp.trans content, hfailed,
    hbus⟩
  · rw [bus]
    exact hperiod
  · rw [bus, hcontent, content]
  · rw [bus]
    exact hf

/-! ## The load of a CAR (R35, R36) -/

/-- What a sample changes after the measurement and the supervision. -/
def lateParts : List Part := riseParts ++ roleParts

theorem sample_touches_late (reading : BitVec 16) (s : State) :
    Touches lateParts (s.sampleBlocks reading) (s.sample reading) :=
  (((roleSample_touches _ _).mono (by decide)).trans ((judgeRise_touches _).mono (by decide))).trans
    ((queueMotion_touches _).mono (by decide))

theorem sampleBlocks_touches_late (reading : BitVec 16) (s : State) :
    Touches supervisionParts ((s.restartSample reading).sampleMeasurement reading)
      (s.sampleBlocks reading) :=
  .ite (fun _ => supervisionSample_touches _) (fun _ => .refl _ _)

/-- The stages of a sample before the load (R21). -/
def State.sampleMotion (s : State) : State :=
  (s.sampleSpeeds.sampleLoss.sampleDisagree.samplePosition s.meas.reference).sampleStandstill
    |>.sampleAdoption.sampleLimits

theorem sampleMeasurement_eq (reading : BitVec 16) (s : State) :
    s.sampleMeasurement reading = (s.sampleMotion.sampleLoad s.meas.standstill reading).setMeas
      ({ · with lastSample := some s.clock }) := rfl

theorem sampleMotion_touches (s : State) : Touches measParts s s.sampleMotion := by
  have lost : Touches measParts s s.sampleSpeeds.sampleLoss := by
    unfold State.sampleLoss State.sampleSpeeds
    exact ((setMeas_measParts _ s).trans (setMeas_measParts _ _)).trans (judgeLoss_touches _ _ _)
  exact ((((lost.trans (sampleDisagree_touches _)).trans (samplePosition_touches _ _)).trans
    (sampleStandstill_touches _)).trans (sampleAdoption_touches _)).trans (sampleLimits_touches _)

theorem loadOf_congr {s t : State} (h : t.conf = s.conf) (r : Int) : t.loadOf r = s.loadOf r := by
  unfold State.loadOf State.k
  rw [h]

theorem weigh_standstill (m : Measurement) (first : Bool) (load : Nat) :
    (m.weigh first load).standstill = m.standstill := by
  unfold Measurement.weigh
  dsimp only
  generalize ((if first then [] else m.filter) ++ [load]) = l
  split <;> rfl

theorem sampleLoad_standstill (stood : Bool) (reading : BitVec 16) (s : State) :
    (s.sampleLoad stood reading).meas.standstill = s.meas.standstill := by
  unfold State.sampleLoad
  split
  · exact weigh_standstill _ _ _
  · rfl

/-- A CAR at standstill weighs its load (R36). -/
theorem sampleLoad_of_standing {s : State} (hrole : s.role = .car) (h : s.meas.standstill = true)
    (stood : Bool) (reading : BitVec 16) :
    s.sampleLoad stood reading =
      s.setMeas (fun m => m.weigh (!stood) (s.loadOf reading.toInt)) := by
  unfold State.sampleLoad
  rw [hrole, h]
  rfl

/-- A load weighed is the newest of the filter, which holds at most 8 (R36). -/
theorem weigh_filter (m : Measurement) (first : Bool) (load : Nat) :
    (m.weigh first load).filter.getLast? = some load ∧ (m.weigh first load).filter.length ≤ 8 := by
  have filter : (m.weigh first load).filter =
      ((if first then [] else m.filter) ++ [load]).drop
        (((if first then [] else m.filter) ++ [load]).length - 8) := by
    unfold Measurement.weigh
    dsimp only
    generalize ((if first then [] else m.filter) ++ [load]) = l
    split <;> rfl
  rw [filter]
  generalize (if first then [] else m.filter) = l
  refine ⟨?_, ?_⟩
  · rw [List.getLast?_drop, if_neg (by rw [List.length_append, List.length_singleton]; omega),
      List.getLast?_append, List.getLast?_singleton]
    rfl
  · rw [List.length_drop]
    omega

/-- Settles O22. -/
theorem loadOfReading : Obligations.LoadOfReading := by
  refine ⟨fun s r => ⟨max 0 (min 65535
    (((r + s.conf.const .loadOffset) * (s.k .loadGain : Int)).tdiv 16384)), rfl, ?_⟩,
    fun dt reading s hrun hrole hdue => ?_⟩
  · unfold State.loadOf
    dsimp only
    generalize ((r + s.conf.const .loadOffset) * (s.k .loadGain : Int)).tdiv 16384 = c
    have clamped : max 0 (min 65535 c) = ((min c.toNat 65535 : Nat) : Int) := by omega
    rw [clamped, Int.tdiv_eq_ediv_of_nonneg (by positivity)]
    push_cast
    rfl
  · set n := s.advance dt with hn
    obtain ⟨t, hexec, ht⟩ := exec_when (c := .sampleEvent dt reading) (x := n.sample reading) (y := n)
      (b := s.running && n.due s.sampleDue) rfl rfl (by rw [hrun, hdue]; rfl)
    set x := n.restartSample reading with hx
    have measured := sampleMeasurement_touches reading x
    have supervised := sampleBlocks_touches_late reading n
    have late := (sampleBlocks_touches_late reading n).comp (sample_touches_late reading n)
    have all := late.comp ht.touches
    have analog : t.term.analogIn = (x.sampleMeasurement reading).term.analogIn :=
      all .analogIn (by decide)
    have read : (x.sampleMeasurement reading).term.analogIn = x.term.analogIn :=
      measured .analogIn (by decide)
    have still : t.meas.standstill = (x.sampleMeasurement reading).meas.standstill :=
      all .standstill (by decide)
    have filter : t.meas.filter = (x.sampleMeasurement reading).meas.filter :=
      congrArg Prod.fst (all .weight (by decide))
    refine ⟨t, hexec, analog.trans read, fun hstill => ?_⟩
    set z := x.sampleMotion with hz
    have motion := sampleMotion_touches x
    have load : z.loadOf reading.toInt = s.loadOf reading.toInt := loadOf_congr motion.conf_eq _
    have stands : z.meas.standstill = true := by
      rw [still, sampleMeasurement_eq, State.setMeas_meas] at hstill
      dsimp only at hstill
      rwa [sampleLoad_standstill] at hstill
    rw [filter, sampleMeasurement_eq, sampleLoad_of_standing (motion.role_eq.trans hrole) stands, load]
    exact weigh_filter z.meas (!x.meas.standstill) (s.loadOf reading.toInt)

end Sys2Proof.Machine
end


section
/-! # The trip controller (Chapter 7) and the grant table (Chapter 8) -/

namespace Sys2Proof.Machine

open Sys2Proof

/-! ## Frames queued -/

/-- A CONTROL frame that the queue takes stands in it (R51). -/
theorem enqueue_takes {s : State} (h : TakesControl s) {p : Payload} (hp : p.cls = .control) :
    ∃ f ∈ (s.enqueue p).bus.queue, f.payload = p := by
  obtain ⟨hrun, hphase, hlen⟩ := h
  refine ⟨s.newFrame p, ?_, rfl⟩
  unfold State.enqueue
  rw [if_pos hrun, hp]
  show _ ∈ (s.enqueueControl p).bus.queue
  unfold State.enqueueControl
  dsimp only
  rw [if_neg (by simpa using hphase), if_pos (show s.bus.queue.length < txCapacity from hlen)]
  exact List.mem_append_right _ (List.mem_cons_self ..)

theorem takesControl_of_operating {s : State} (h : s.operating = true)
    (hlen : s.bus.queue.length < 8) : TakesControl s := by
  refine ⟨running_of_operating h, fun e => ?_, hlen⟩
  unfold State.operating at h
  rw [e] at h
  exact absurd h (by decide)

/-- Of the trip controller a frame queued changes only that a notice is owed (R14). -/
theorem enqueue_trip (p : Payload) (s : State) :
    (s.enqueue p).trip = { s.trip with requeue := (s.enqueue p).trip.requeue } := by
  conv_lhs => rw [enqueue_frame]

theorem tellNotSent_counts_length (p : Payload) (s : State) :
    (s.tellNotSent p).counts.length = s.counts.length := by
  have bumped (x : State) (c : Count) : (x.bump c).counts.length = x.counts.length :=
    List.length_modify _ _ _
  unfold State.tellNotSent
  split
  · split
    · split
      · exact bumped _ _
      · rfl
    · rfl
  · exact bumped _ _
  · exact bumped _ _
  · rfl

theorem enqueue_counts_length (p : Payload) (s : State) :
    (s.enqueue p).counts.length = s.counts.length := by
  have bumped (x : State) (c : Count) : (x.bump c).counts.length = x.counts.length :=
    List.length_modify _ _ _
  unfold State.enqueue
  split
  · split
    · unfold State.enqueueState
      dsimp only
      repeat' split
      · rfl
      · rfl
      · exact bumped _ _
      · exact bumped _ _
    · unfold State.enqueueControl
      dsimp only
      repeat' split
      · exact tellNotSent_counts_length _ _
      · rfl
      · exact bumped _ _
      · exact (tellNotSent_counts_length _ _).trans (bumped _ _)
    · unfold State.enqueueOrder
      dsimp only
      repeat' split
      · rfl
      · rfl
      · rfl
      · exact bumped _ _
      · exact (tellNotSent_counts_length _ _).trans (bumped _ _)
      · rfl
  · rfl

/-- An event counted after others counts as it would have before them. -/
theorem bump_count_of_eq {s t : State} {c : Count} (h : t.count c = s.count c)
    (hlen : t.counts.length = s.counts.length) : (t.bump c).count c = (s.bump c).count c := by
  by_cases hc : c.ctorIdx < s.counts.length
  · rw [count_bump_self s c hc, count_bump_self t c (hlen ▸ hc), h]
  · simp only [State.count, State.bump, List.getD_eq_getElem?_getD, List.getElem?_modify]
    rw [List.getElem?_eq_none (by omega), List.getElem?_eq_none (by omega)]

theorem enqueue_bump_count (p : Payload) (s : State) {c : Count} (hc : c ∉ queueCounts) :
    ((s.enqueue p).bump c).count c = (s.bump c).count c :=
  bump_count_of_eq ((KeepsCounts.enqueue p s).count c hc) (enqueue_counts_length p s)

/-! ## The grant table (R142) -/

theorem requestRefusal_of_none {s : State} (h : s.grant.state = .none) (c : CarId)
    (side : DoorSide) : s.requestRefusal c side = s.standingRefusal c side := by
  unfold State.requestRefusal State.recordFree
  rw [h]
  cases s.standingRefusal c side <;> rfl

theorem takeRequest_of_none {s : State} (h : s.grant.state = .none) (c : CarId) (side : DoorSide)
    (number : Nat) : s.takeRequest c side number = s.newRequest c side number := by
  unfold State.takeRequest
  rw [h]
  rfl

theorem grantConditions_iff (s : State) (c : CarId) : s.grantConditions c = true ↔
    s.presenceInput = true ∧ s.platformGatesClosed = true ∧ s.carStanding c = true := by
  unfold State.grantConditions
  rw [Bool.and_eq_true, Bool.and_eq_true, and_assoc]

/-- Settles O49. -/
theorem requestJudged : Obligations.RequestJudged := by
  intro s c side number hnone t accepts
  have refusal := requestRefusal_of_none hnone c side
  refine ⟨fun hstands => ?_, fun r hr => ?_⟩
  · set x := s.setGrant (fun g => { g with
      car := c, side := side, number := number, grantId := (g.counter + 1) % 256
      reason := none }) with hx
    have judged : t = if x.grantConditions c = true then x.issueGrant else x.waitForGrant := by
      show s.takeRequest c side number = _
      rw [takeRequest_of_none hnone, State.newRequest, refusal, hstands]
    refine ⟨fun hconditions => ?_, fun hconditions => ?_⟩
    · rw [judged, if_pos ((grantConditions_iff x c).mpr hconditions)]
      unfold State.issueGrant State.sendGrant
      refine ⟨?_, ?_, fun haccepts => ?_⟩
      · rw [State.bump_grant, enqueue_grant]
        rfl
      · exact enqueue_bump_count _ _ (by decide)
      · exact enqueue_takes (s := x.setGrant (fun g => { g with
          counter := g.grantId, state := .granted, discardDue := none })) haccepts
          (p := .releaseGrant s.conf.ownBerth c side number ((s.grant.counter + 1) % 256)) rfl
    · rw [judged, if_neg (fun h => hconditions ((grantConditions_iff x c).mp h))]
      rfl
  · have refused : t = s.refuseRequest c number r := by
      show s.takeRequest c side number = _
      rw [takeRequest_of_none hnone, State.newRequest, refusal, hr]
    rw [refused]
    refine ⟨?_, ?_, fun haccepts => ?_⟩
    · unfold State.refuseRequest
      rw [State.bump_grant, enqueue_grant]
    · exact enqueue_bump_count _ _ (by decide)
    · exact enqueue_takes haccepts rfl

/-! ## Departure (R120 to R125) -/

theorem firstFailing_eq_none {l : List (Bool × Reason)} :
    firstFailing l = none ↔ ∀ c ∈ l, c.1 = true := by
  induction l with
  | nil => simp [firstFailing]
  | cons c l ih =>
    obtain ⟨ok, r⟩ := c
    cases ok <;> simp [firstFailing, ih]

/-- The conditions of Table 7-4 all hold. -/
theorem readyConditions_hold_iff (s : State) (departure : Bool) :
    firstFailing (s.readyConditions departure) = none ↔
      s.brake.effective = 0 ∧ s.carFresh .a = true ∧ s.carFresh .b = true ∧
      s.carDoorsLocked .a = true ∧ s.carDoorsLocked .b = true ∧
      (departure = true → ∀ b ∈ s.currentBerths, s.berthReady b = true) ∧ s.meas.status ≠ .none ∧
      s.carLoad .a ≤ s.k .ratedLoad ∧ s.carLoad .b ≤ s.k .ratedLoad := by
  rw [firstFailing_eq_none]
  unfold State.readyConditions
  simp only [List.forall_mem_cons, List.not_mem_nil, false_implies, implies_true, and_true,
    beq_iff_eq, Bool.and_eq_true, Bool.or_eq_true, Bool.not_eq_true', beq_eq_false_iff_ne,
    decide_eq_true_eq, List.all_eq_true, and_assoc]
  cases departure <;> simp

/-- RELEASING is entered, and left at once where torque is established (R125). -/
theorem startRelease_releasing (s : State) :
    s.startRelease .releasing = s.setTrip ({ · with
      haulage := if s.torqueEstablished = true then .running else .releasing
      askEnable := true, askService := s.torqueEstablished, setpoint := 0, torqueProved := false
      torqueDue := if s.torqueEstablished = true then none else some (s.after 2000) }) := by
  unfold State.startRelease
  dsimp only
  have same (f : TripController → TripController) :
      (s.setTrip f).torqueEstablished = s.torqueEstablished := rfl
  rw [same]
  cases h : s.torqueEstablished <;> rfl

/-- The steps of RELEASING in RECOVERY (R131). -/
theorem startRelease_recovery (s : State) :
    s.startRelease .recovery = s.setTrip ({ · with
      haulage := .recovery, askEnable := true, askService := s.torqueEstablished, setpoint := 0
      torqueProved := s.torqueEstablished
      torqueDue := if s.torqueEstablished = true then none else some (s.after 2000) }) := by
  unfold State.startRelease
  dsimp only
  have same (f : TripController → TripController) :
      (s.setTrip f).torqueEstablished = s.torqueEstablished := rfl
  rw [same]
  cases h : s.torqueEstablished <;> rfl

theorem judgeReady_of_departure {s : State} (h : s.trip.resumption = false) :
    s.judgeReady = match firstFailing (s.readyConditions true) with
      | some r => ((s.setReason r).bump .readyCheckFailures).returnToStop
      | none => s.depart := by
  unfold State.judgeReady
  rw [h]
  rfl

/-- Settles O41. -/
theorem departureTimers : Obligations.DepartureTimers := by
  refine ⟨fun s k hk hres => ?_, fun dt s hrun hstate hdue => ?_, fun dt s hrun hstate => ?_⟩
  · intro t holds d target trip
    have judged : t = _ := judgeReady_of_departure hres
    have passes := readyConditions_hold_iff s true
    refine ⟨fun h => ?_, fun h => ?_⟩
    · rw [passes.mpr (by simpa using h)] at judged
      set x : State := { s with
        trip := { s.trip with
          trip := some trip, counter := (s.trip.counter + 1) % 256, requeue := false }
        sup := { s.sup with
          authority := some { hEnd := trip.hEnd, direction := d, trip := trip.number } } } with hx
      have departs : s.depart = ((x.enqueue (.tripNotice trip.notice)).setTrip ({ · with
          currentStop := none, heldDir := d, resumption := false })).startRelease .releasing := by
        unfold State.depart
        rw [hk]
        rfl
      have torque : ((x.enqueue (.tripNotice trip.notice)).setTrip ({ · with
          currentStop := none, heldDir := d, resumption := false })).torqueEstablished =
          s.torqueEstablished := by
        show (x.enqueue _).term.debounced.getD 0 false = _
        rw [enqueue_term]
        rfl
      have ht : t = _ := judged.trans (departs.trans (startRelease_releasing _))
      rw [torque] at ht
      have sup : t.sup = x.sup := by rw [ht]; exact enqueue_sup _ x
      have trips : t.trip = { x.trip with
          requeue := (x.enqueue (.tripNotice trip.notice)).trip.requeue
          currentStop := none, heldDir := d, resumption := false
          haulage := if s.torqueEstablished = true then .running else .releasing
          askEnable := true, askService := s.torqueEstablished, setpoint := 0, torqueProved := false
          torqueDue := t.trip.torqueDue } := by
        rw [ht]
        simp only [State.setTrip_trip]
        rw [enqueue_trip]
      rw [trips]
      refine ⟨rfl, rfl, ?_, rfl, rfl, rfl, rfl, rfl, rfl, fun hop hlen => ?_⟩
      · rw [sup]
      · rw [ht]
        exact enqueue_takes (s := x) (takesControl_of_operating (s := x) hop hlen)
          (p := .tripNotice trip.notice) rfl
    · cases hf : firstFailing (s.readyConditions true) with
      | none => exact absurd (by simpa using passes.mp hf) h
      | some r =>
        rw [hf] at judged
        refine ⟨r, rfl, ?_, ?_, ?_, ?_⟩ <;> rw [judged] <;> rfl
  · exact exec_when rfl rfl (b := s.running && (s.advance dt).due s.trip.doorCloseDue)
      (by rw [hrun, hdue]; rfl)
  · intro closing
    refine ⟨fun hdue => ?_, fun hdue => ?_⟩
    · have dwells : after (.dwellTimerExpiry dt) s = (s.advance dt).dwellExpiry :=
        if_pos (show (s.running && (s.advance dt).due s.trip.dwellDue) = true by rw [hrun, hdue]; rfl)
      refine ⟨fun hauto => ?_, fun hmanual => ?_⟩
      · exact exec_settledFrom rfl (dwells.trans (if_pos hauto))
      · exact exec_settledFrom rfl (dwells.trans (if_neg (ne_true_of_eq_false hmanual)))
    · exact exec_when rfl rfl (b := s.running && (s.advance dt).due s.trip.retryDue)
        (by rw [hrun, hdue]; rfl)

end Sys2Proof.Machine
end


section
/-! # Arrivals, trips of the level, and the keys (Chapter 7) -/

namespace Sys2Proof.Machine

open Sys2Proof

/-! ## Arrival at a stop (R119, R129, R130) -/

/-- The dwell that starts runs from the clock for the configured dwell (R120). -/
theorem startDwell_of_touches {X : List Part} {s t : State} (h : Touches X s t)
    (hX : Part.clock ∉ X ∧ Part.cfg ∉ X := by decide) :
    t.startDwell.trip.dwellDue = some (s.clock + 1000 * (1000 * s.k .dwell)) := by
  have starts : t.startDwell.trip.dwellDue = some (t.after (1000 * t.k .dwell)) := rfl
  rw [starts, State.after, h.clock_eq hX.1, h.k_eq hX.2]

/-- `t` is `s` with the position set to a stop and AT_STOP entered there, the dwell started. -/
structure ArrivedAt (k : Nat) (s t : State) : Prop where
  haulage : t.trip.haulage = .atStop
  stop : t.trip.currentStop = some k
  dwell : t.trip.dwellDue = some (s.clock + 1000 * (1000 * s.k .dwell))
  waits : t.trip.dwellExpired = false ∧ t.trip.retryDue = none
  trip : t.trip = { s.trip with
    haulage := .atStop, currentStop := some k, retryDue := none, dwellDue := t.trip.dwellDue
    dwellExpired := false }
  known : t.meas.known = true
  synchronised : t.meas.synchronised = true
  certain : t.meas.u = 0 ∧ t.meas.residue = 0
  position : t.meas.h = min (s.hStop k) s.conf.lineLength
  accumulator : t.meas.acc = (s.hStop k : Int) * 1000
  sound : t.meas.degraded = false
  rest : t = { s with meas := t.meas, trip := t.trip }

theorem arriveAt_arrives (k : Nat) (s : State) : ArrivedAt k s (s.arriveAt k) where
  haulage := rfl
  stop := rfl
  dwell := startDwell_of_touches
    (t := (s.synchronise (s.hStop k)).setTrip
      ({ · with haulage := .atStop, currentStop := some k, retryDue := none }))
    ((synchronise_touches (s.hStop k) s).comp (setTrip_touches _ _))
  waits := ⟨rfl, rfl⟩
  trip := rfl
  known := rfl
  synchronised := rfl
  certain := ⟨rfl, rfl⟩
  position := rfl
  accumulator := rfl
  sound := Bool.and_false _
  rest := rfl

/-- What an arrival gives, read in a state of the same clock and configuration. -/
theorem ArrivedAt.of_touches {X : List Part} {k : Nat} {r s t : State} (h : ArrivedAt k s t)
    (hs : Touches X r s) (hX : Part.clock ∉ X ∧ Part.cfg ∉ X := by decide) :
    t.trip.dwellDue = some (r.clock + 1000 * (1000 * r.k .dwell)) ∧
      t.meas.h = min (r.hStop k) r.conf.lineLength ∧ t.meas.acc = (r.hStop k : Int) * 1000 := by
  have stop : s.hStop k = r.hStop k := by rw [State.hStop, State.hStop, hs.conf_eq hX.2]
  refine ⟨?_, ?_, ?_⟩
  · rw [h.dwell, hs.clock_eq hX.1, hs.k_eq hX.2]
  · rw [h.position, stop, hs.conf_eq hX.2]
  · rw [h.accumulator, stop]

/-- STOPPING that completes ends the trip and holds the direction of the next departure (R129). -/
theorem arrive_arrives (k : Nat) (d : Direction) (s : State) :
    ArrivedAt k (s.endTrip.setTrip ({ · with heldDir := s.arrivalDirection k d })) (s.arrive k d) :=
  arriveAt_arrives k _

/-- The arrival that completes STOPPING (R129). -/
theorem arrive_reaches {s x : State} {k : Nat} {d : Direction}
    (hx : x = (s.setTrip ({ · with askService := false, askEnable := false })).arrive k d) :
    x.trip.haulage = .atStop ∧ x.trip.currentStop = some k ∧
      x.trip.heldDir = (if k = s.conf.lastStop then .down else if k = 0 then .up else d) ∧
      x.trip.dwellDue = some (s.clock + 1000 * (1000 * s.k .dwell)) ∧ x.trip.dwellExpired = false ∧
      x.trip.retryDue = none ∧ x.trip.lastReason = s.trip.lastReason ∧
      x.meas.known = true ∧ x.meas.synchronised = true ∧ x.meas.u = 0 ∧ x.meas.residue = 0 ∧
      x.meas.h = min (s.hStop k) s.conf.lineLength ∧ x.meas.acc = (s.hStop k : Int) * 1000 ∧
      x.meas.degraded = false ∧
      x = { s with meas := x.meas, trip := x.trip, sup := { s.sup with authority := none } } := by
  have arrived := arrive_arrives k d
    (s.setTrip ({ · with askService := false, askEnable := false }))
  rw [← hx] at arrived
  obtain ⟨dwell, position, accumulator⟩ := arrived.of_touches (((setTrip_tripParts
    ({ · with askService := false, askEnable := false }) s).trans (endTrip_tripParts _)).trans
      (setTrip_tripParts _ _))
  have trip := arrived.trip
  refine ⟨arrived.haulage, arrived.stop, ?_, dwell, arrived.waits.1, arrived.waits.2, ?_,
    arrived.known, arrived.synchronised, arrived.certain.1, arrived.certain.2, position,
    accumulator, arrived.sound, arrived.rest.trans ?_⟩
  · rw [trip]
    rfl
  · rw [trip]
    rfl
  · dsimp only [State.setTrip, State.endTrip, State.clearTrip]

theorem completeStop_target {s : State} {r : TripRecord} {k : Nat} (hr : s.trip.trip = some r)
    (hk : r.target = some k) : s.completeStop =
      if s.dStop k r.direction ≤ s.k .creepDistance ∨ s.presenceAt k = true then
        (s.setTrip ({ · with askService := false, askEnable := false })).arrive k r.direction
      else (((s.setTrip ({ · with askService := false, askEnable := false })).endTrip.setReason
        .stopShort).setHaulage .stranded) := by
  unfold State.completeStop
  simp only [hr, hk]

theorem completeStop_no_target {s : State} {r : TripRecord} (hr : s.trip.trip = some r)
    (hk : r.target = none) : s.completeStop = match s.furthestMatch r.direction with
      | some k => (s.setTrip ({ · with askService := false, askEnable := false })).arrive k r.direction
      | none => ((s.setTrip ({ · with askService := false, askEnable := false })).endTrip.setReason
          .syncLost).setTrip ({ · with haulage := .unsynced, resetSeen := false }) := by
  unfold State.completeStop
  simp only [hr, hk] <;> rfl

/-- STOPPING completed leaves no trip, and nothing asked for. -/
theorem completeStop_rests {s : State} {r : TripRecord} (hr : s.trip.trip = some r) :
    s.completeStop.trip.trip = none ∧ s.completeStop.trip.askEnable = false ∧
      s.completeStop.trip.askService = false := by
  cases hk : r.target with
  | some k =>
    rw [completeStop_target hr hk]
    split <;> exact ⟨rfl, rfl, rfl⟩
  | none =>
    rw [completeStop_no_target hr hk]
    split <;> exact ⟨rfl, rfl, rfl⟩

/-- The torque proof has failed: drive enable no longer asked for, the reason recorded and the event
counted (R125). -/
def State.torqueFailed (s : State) : State :=
  ((s.setTrip ({ · with torqueDue := none, askEnable := false })).setReason .driveNotReady).bump
    .torqueTimeouts

/-- The torque proof timer of RELEASING (R125). -/
theorem torqueTimeout_releasing {s : State} (h : s.trip.haulage = .releasing) :
    s.torqueTimeout =
      if s.trip.resumption = true then s.torqueFailed.standHolding
      else ((s.torqueFailed.setTrip ({ · with
        currentStop := s.trip.trip.bind (·.fromStop) })).endTrip).returnToStop := by
  unfold State.torqueTimeout
  simp only [h] <;> rfl

/-- Settles O42. -/
theorem torqueTimeout : Obligations.TorqueTimeout := by
  refine ⟨fun s r hr => ?_, fun dt s hrun hstate hdue => ?_⟩
  · intro t reached unreached
    obtain ⟨htrip, henable, hservice⟩ := completeStop_rests hr
    refine ⟨htrip, henable, hservice, fun k hk => ?_, fun hk => ?_⟩
    · have completed : t = _ := completeStop_target hr hk
      refine ⟨fun hnear => arrive_reaches (completed.trans (if_pos hnear)), fun hfar hpresence => ?_⟩
      have short : t = _ := completed.trans (if_neg (fun h => h.elim (by omega)
        (fun h => Bool.false_ne_true (hpresence.symm.trans h))))
      show t.trip.haulage = _ ∧ t.trip.lastReason = _ ∧ t = _
      rw [short]
      dsimp only [State.setTrip, State.endTrip, State.clearTrip, State.setReason, State.setHaulage]
      exact ⟨rfl, rfl, rfl⟩
    · have completed : t = _ := completeStop_no_target hr hk
      refine ⟨fun hup k hmatch => ?_, fun hdown k hmatch => ?_, fun hmatch => ?_⟩
      · have furthest : s.furthestMatch r.direction = some k := by rw [hup]; exact hmatch
        rw [furthest] at completed
        exact arrive_reaches completed
      · have furthest : s.furthestMatch r.direction = some k := by rw [hdown]; exact hmatch
        rw [furthest] at completed
        exact arrive_reaches completed
      · have furthest : s.furthestMatch r.direction = none := by
          cases hd : r.direction <;> simp [State.furthestMatch, hmatch]
        rw [furthest] at completed
        show (t.trip.haulage = _ ∧ t.trip.lastReason = _ ∧ t = _) ∧ t.trip.resetSeen = _
        rw [completed]
        dsimp only [State.setTrip, State.endTrip, State.clearTrip, State.setReason]
        exact ⟨⟨rfl, rfl, rfl⟩, rfl⟩
  · set n := s.advance dt with hn
    have expires : after (.torqueProofTimerExpiry dt) s = n.torqueTimeout :=
      if_pos (show (n.running && n.due n.trip.torqueDue) = true by
        rw [show n.running = true from hrun, show n.due n.trip.torqueDue = true from hdue]; rfl)
    obtain ⟨t, hexec, ht⟩ := exec_settledFrom rfl expires
    have judged := torqueTimeout_releasing (s := n) hstate
    have counted : t.count .torqueTimeouts = n.torqueTimeout.count .torqueTimeouts :=
      ht.count_eq (by decide)
    have settled := ht.touches
    have trip : t.trip = n.torqueTimeout.trip := settled.trip_eq (by decide)
    have sup : t.sup = n.torqueTimeout.sup := settled.sup_eq (by decide)
    have meas : t.meas = n.torqueTimeout.meas := settled.meas_eq (by decide)
    have door : t.door = n.torqueTimeout.door := settled.door_eq (by decide)
    have effective : t.brake.effective = n.torqueTimeout.brake.effective := settled.effective_eq
    refine ⟨t, hexec, ?_⟩
    rw [trip, sup, meas, door, effective, counted]
    cases hres : s.trip.resumption with
    | true =>
      rw [if_pos (show n.trip.resumption = true from hres)] at judged
      rw [judged]
      exact ⟨rfl, rfl, rfl, rfl, rfl, rfl, rfl, fun _ => ⟨rfl, rfl, rfl, rfl⟩, nofun⟩
    | false =>
      rw [if_neg (show ¬n.trip.resumption = true from ne_true_of_eq_false hres)] at judged
      rw [judged]
      exact ⟨rfl, rfl, rfl, rfl, rfl, rfl, rfl, nofun, fun _ => ⟨rfl, rfl, rfl, rfl, rfl, rfl⟩⟩

/-! ## The level and the brake reset (R128, R130) -/

theorem nearestOf_eq_none {c : UnitConfig} {h : Nat} {l : List Nat} :
    c.nearestOf h l = none ↔ l = [] := by
  cases l with
  | nil => exact ⟨fun _ => rfl, fun _ => rfl⟩
  | cons k rest =>
    unfold UnitConfig.nearestOf
    split
    · simp
    · split <;> simp

/-- The nearest of a list is one of it, and none of it lies nearer. -/
theorem nearestOf_nearest {c : UnitConfig} {h : Nat} {l : List Nat} {k : Nat}
    (hk : c.nearestOf h l = some k) : k ∈ l ∧ ∀ j ∈ l,
      distance ((c.stop? k).getD default).h h ≤ distance ((c.stop? j).getD default).h h := by
  induction l generalizing k with
  | nil => cases hk
  | cons a rest ih =>
    unfold UnitConfig.nearestOf at hk
    split at hk
    · next hrest =>
      cases hk
      rw [nearestOf_eq_none.mp hrest]
      simp
    · next j hj =>
      obtain ⟨hmem, hleast⟩ := ih hj
      split at hk
      · next hlt =>
        cases hk
        refine ⟨List.mem_cons_of_mem _ hmem, fun i hi => ?_⟩
        rcases List.mem_cons.mp hi with rfl | hi
        · exact hlt.le
        · exact hleast i hi
      · next hle =>
        cases hk
        refine ⟨List.mem_cons_self .., fun i hi => ?_⟩
        rcases List.mem_cons.mp hi with rfl | hi
        · exact le_rfl
        · exact (not_lt.mp hle).trans (hleast i hi)

/-- A stop of R130: it matches, and its window holds h. -/
def State.standsAt (s : State) (k : Nat) : Prop :=
  k ∈ s.matchingStops ∧ ∃ st, s.conf.stop? k = some st ∧ s.conf.inStopWindow st s.meas.h = true

theorem stopHere_candidates (s : State) (k : Nat) :
    k ∈ s.matchingStops.filter (fun k => match s.conf.stop? k with
      | some st => s.conf.inStopWindow st s.meas.h
      | none => false) ↔ s.standsAt k := by
  rw [List.mem_filter, State.standsAt]
  cases s.conf.stop? k <;> simp

theorem stopHere_some {s : State} {k : Nat} (h : s.stopHere = some k) : s.standsAt k ∧
    ∀ j, s.standsAt j → distance (s.hStop k) s.meas.h ≤ distance (s.hStop j) s.meas.h := by
  obtain ⟨hmem, hleast⟩ := nearestOf_nearest h
  exact ⟨(stopHere_candidates s k).mp hmem, fun j hj =>
    hleast j ((stopHere_candidates s j).mpr hj)⟩

theorem stopHere_none {s : State} (h : s.stopHere = none) (j : Nat) : ¬s.standsAt j := fun hj =>
  List.not_mem_nil ((nearestOf_eq_none.mp h) ▸ (stopHere_candidates s j).mpr hj)

/-- The last evacuation replies are cleared (R133). -/
def State.clearReplies (s : State) : State := s.setTrip ({ · with replyA := none, replyB := none })

/-- What an accepted reset does, state by state (R130). -/
theorem tripReset_eq (s : State) : s.tripReset = match s.trip.haulage, s.trip.trip with
    | .tripped, _ =>
        if s.meas.known = true then
          match s.stopHere with
          | some k => s.clearReplies.clearTrip.arriveAt k
          | none => s.clearReplies.clearTrip.setHaulage .stranded
        else s.clearReplies.clearTrip.setTrip ({ · with haulage := .unsynced, resetSeen := true })
    | .holding, some r =>
        if r.recovery = true then
          if s.meas.known = true then s.clearReplies.standHolding.clearTrip.setHaulage .stranded
          else s.clearReplies.standHolding.clearTrip.setTrip
            ({ · with haulage := .unsynced, resetSeen := true })
        else s.clearReplies
    | .unsynced, _ => s.clearReplies.setTrip ({ · with resetSeen := true })
    | .parked, _ =>
        if s.parkKey = true then s.clearReplies
        else (s.clearReplies.setHaulage .atStop).startDwell
    | _, _ => s.clearReplies := by
  unfold State.tripReset
  simp only [State.setTrip_trip]
  cases s.trip.haulage <;> cases s.trip.trip <;> rfl

/-- In the states that R130 does not name a reset clears the replies alone. -/
theorem tripReset_other {s : State}
    (h : s.trip.haulage ∉ [Haulage.tripped, .holding, .unsynced, .parked]) :
    s.tripReset = s.clearReplies := by
  rw [tripReset_eq]
  split
  · next hstate => exact absurd (by rw [hstate]; decide) h
  · next hstate _ => exact absurd (by rw [hstate]; decide) h
  · next hstate => exact absurd (by rw [hstate]; decide) h
  · next hstate => exact absurd (by rw [hstate]; decide) h
  · rfl

/-- The state with another bus, brake block and counts. -/
def State.reframe (bus : LineBus) (brake : Brake) (counts : List Nat) (s : State) : State :=
  { s with bus := bus, brake := brake, counts := counts }

theorem startDwell_reframe (bus : LineBus) (brake : Brake) (counts : List Nat) (s : State) :
    (s.reframe bus brake counts).startDwell = s.startDwell.reframe bus brake counts := by
  have dwell : (s.reframe bus brake counts).after (1000 * (s.reframe bus brake counts).k .dwell) =
      s.after (1000 * s.k .dwell) := by
    rw [State.after, State.after]
    rfl
  rw [State.startDwell, dwell]
  rfl

theorem arriveAt_reframe (k : Nat) (bus : LineBus) (brake : Brake) (counts : List Nat) (s : State) :
    (s.reframe bus brake counts).arriveAt k = (s.arriveAt k).reframe bus brake counts :=
  startDwell_reframe bus brake counts ((s.synchronise (s.hStop k)).setTrip
    ({ · with haulage := .atStop, currentStop := some k, retryDue := none }))

/-- Of an accepted reset the trip controller reads neither the bus nor the brake block. -/
theorem tripReset_reframe (bus : LineBus) (brake : Brake) (counts : List Nat) (s : State) :
    (s.reframe bus brake counts).tripReset = s.tripReset.reframe bus brake counts := by
  have here : (s.reframe bus brake counts).stopHere = s.stopHere := rfl
  have key : (s.reframe bus brake counts).parkKey = s.parkKey := rfl
  have known : (s.reframe bus brake counts).meas.known = s.meas.known := rfl
  have trip : (s.reframe bus brake counts).trip = s.trip := rfl
  rw [tripReset_eq, tripReset_eq, here, key, known, trip]
  split
  · split
    · split
      · exact arriveAt_reframe _ bus brake counts s.clearReplies.clearTrip
      · rfl
    · rfl
  · split
    · split <;> rfl
    · rfl
  · rfl
  · split
    · rfl
    · exact startDwell_reframe bus brake counts (s.clearReplies.setHaulage .atStop)
  · rfl

/-- Frames queued and counts changed are changes of the bus and the counts alone. -/
theorem StateQueued.reframe_eq {x t : State} (h : StateQueued x t) :
    t = x.reframe t.bus t.brake t.counts := by
  obtain ⟨rest, -, -, -⟩ := h
  rw [rest]
  rfl

theorem tripReset_sup (s : State) : s.tripReset.sup = s.sup := by
  rw [tripReset_eq]
  split
  · split
    · split
      · exact (arriveAt_touches _ s.clearReplies.clearTrip).sup_eq (by decide)
      · rfl
    · rfl
  · split
    · split <;> rfl
    · rfl
  · rfl
  · split <;> rfl
  · rfl

theorem tripRise_of_two {s : State} {level : Nat} (h : 2 ≤ level) :
    s.tripRise level = match s.trip.haulage with
      | .unsynced | .parked | .tripped => s
      | _ => s.enterTripped := if_pos h

theorem tripRise_reframe (bus : LineBus) (brake : Brake) (counts : List Nat) (s : State) :
    (s.reframe bus brake counts).tripRise 2 = (s.tripRise 2).reframe bus brake counts := by
  have trip : (s.reframe bus brake counts).trip = s.trip := rfl
  rw [tripRise_of_two le_rfl, tripRise_of_two le_rfl, trip]
  split <;> rfl

/-- At a DRIVE a level that does not rise tells the trip controller nothing. -/
theorem reform_reframes {s : State} (hrole : s.role = .drive)
    (h : s.formedLevel ≤ s.brake.effective) :
    s.reform = s.reframe s.reform.bus s.reform.brake s.reform.counts := by
  unfold State.reform
  dsimp only
  split
  · rfl
  · unfold State.levelChanged
    split
    · rw [proofAtChange_of_le (s := s.setBrake ({ · with effective := s.formedLevel })) h]
      have silent : (s.setBrake ({ · with effective := s.formedLevel })).tellLevel
          s.brake.effective = s.setBrake ({ · with effective := s.formedLevel }) := by
        unfold State.tellLevel
        rw [show (s.setBrake _).role = .drive from hrole]
        exact if_neg (not_lt.mpr h)
      rw [silent]
      exact (queueAllStates_stateQueued _).reframe_eq
    · rfl

/-- What an accepted reset does at a DRIVE, but for the orders it queues again (R111). -/
theorem tellReset_drive {s : State} (hrole : s.role = .drive) : s.tellReset =
    (if 2 ≤ s.brake.effective then s.tripReset.tripRise 2 else s.tripReset).authorityReset := by
  have level : s.tripReset.brake.effective = s.brake.effective :=
    (tripReset_touches s).effective_eq
  unfold State.tellReset
  rw [hrole]
  dsimp only
  rw [level]
  split
  · next h => rw [tripRise_of_two h, tripRise_of_two le_rfl]
  · rfl

theorem authorityReset_drive {s : State} (h : s.role = .drive) : s.authorityReset =
    if s.trip.trip = none then { s with sup := { s.sup with authority := none } } else s := by
  unfold State.authorityReset
  rw [h]
  cases s.trip.trip <;> rfl

/-- The level that a reset leaves is not above the one before it (R111). -/
theorem resetDemands_formedLevel_le {s : State} (h : BrakeLaw s) (number : Nat) :
    (s.resetDemands number).formedLevel ≤ (s.resetDemands number).brake.effective := by
  obtain ⟨hlen, -, -, -, heff⟩ := h
  obtain ⟨-, -, -, -, hown⟩ := resetDemands_sources number hlen
  rw [(resetDemands_touches number s).effective_eq, heff, State.formedLevel, State.formedLevel,
    highestHeard_zero (s := s.resetDemands number) rfl, Nat.max_zero]
  exact hown.trans (Nat.le_max_left _ _)

theorem reframe_reframe (s : State) (a bus : LineBus) (b brake : Brake) (c counts : List Nat) :
    (s.reframe a b c).reframe bus brake counts = s.reframe bus brake counts := rfl

theorem resetDemands_reframe (number : Nat) (s : State) :
    s.resetDemands number = s.reframe s.bus (s.resetDemands number).brake s.counts := rfl

theorem reOrder_blocks (s : State) : s.reOrder.meas = s.meas ∧ s.reOrder.sup = s.sup ∧
    s.reOrder.trip = { s.trip with requeue := s.reOrder.trip.requeue } := by
  unfold State.reOrder
  split
  · exact ⟨enqueue_meas _ s, enqueue_sup _ s, enqueue_trip _ s⟩
  · exact ⟨rfl, rfl, rfl⟩

/-- A DRIVE that accepts a reset tells its blocks, and queues its orders again (R111, R112). -/
theorem judgeReset_drive {s : State} {number : Nat} (hlaw : BrakeLaw s) (hrole : s.role = .drive)
    (hheld : s.brake.held ≠ some number) (hstill : s.meas.standstill = true) :
    ∃ bus brake counts, s.judgeReset number = (s.reframe bus brake counts).tellReset.reOrder ∧
      (s.judgeReset number).brake.effective = brake.effective := by
  have accepted : s.judgeReset number = s.acceptReset number := (if_neg hheld).trans (if_pos hstill)
  have reformed := reform_reframes (s := s.resetDemands number) hrole
    (resetDemands_formedLevel_le hlaw number)
  rw [resetDemands_reframe, reframe_reframe, ← resetDemands_reframe] at reformed
  refine ⟨(s.resetDemands number).reform.bus, (s.resetDemands number).reform.brake,
    (s.resetDemands number).reform.counts, ?_, ?_⟩
  · rw [accepted, acceptReset_eq, ← reformed]
  · rw [accepted, acceptReset_eq]
    exact (reOrder_touches _).effective_eq.trans (tellReset_touches_blocks _).effective_eq

/-- Settles O43. -/
theorem riseTrips : Obligations.RiseTrips := by
  refine ⟨fun s => ?_, fun s number hlaw hrole hheld hstill => ?_, fun s level hlevel => ?_⟩
  · intro t h here cleared
    refine ⟨fun hstate hknown => ⟨fun k hk => ?_, fun hnone => ?_, fun k hk => ?_, fun hnone => ?_⟩,
      fun hstate hknown => ?_, fun r hstate hr => ⟨fun hrec => ?_, fun hrec => ?_⟩,
      fun hstate hr => ?_, fun hstate => ?_, fun hstate => ⟨fun hkey => ?_, fun hkey => ?_⟩,
      fun hother => ?_⟩
    · have arrives : t = s.clearReplies.clearTrip.arriveAt k := by
        show s.tripReset = _
        rw [tripReset_eq, hstate, hknown, hk]
        rfl
      have arrived := arriveAt_arrives k s.clearReplies.clearTrip
      rw [← arrives] at arrived
      obtain ⟨dwell, position, accumulator⟩ := arrived.of_touches
        ((setTrip_tripParts _ s).trans (setTrip_tripParts _ _))
      have trip := arrived.trip
      have rest := arrived.rest
      dsimp only [State.clearReplies, State.clearTrip, State.setTrip] at trip rest
      refine ⟨arrived.haulage, arrived.stop, ?_, ?_, ?_, dwell, arrived.waits.1, arrived.known,
        arrived.synchronised, arrived.certain.1, arrived.certain.2, position, accumulator, rest⟩
      all_goals rw [trip]
    · show s.tripReset = _
      rw [tripReset_eq, hstate, hknown, hnone]
      rfl
    · exact stopHere_some hk
    · exact stopHere_none hnone
    · show s.tripReset = _
      rw [tripReset_eq, hstate, hknown]
      rfl
    · show s.tripReset = _
      rw [tripReset_eq, hstate, hr]
      dsimp only
      rw [if_pos hrec]
      cases hknown : s.meas.known <;> rfl
    · show s.tripReset = _
      rw [tripReset_eq, hstate, hr]
      exact if_neg (ne_true_of_eq_false hrec)
    · show s.tripReset = _
      rw [tripReset_eq, hstate, hr]
      rfl
    · show s.tripReset = _
      rw [tripReset_eq, hstate]
      rfl
    · show s.tripReset = _
      rw [tripReset_eq, hstate]
      exact if_pos hkey
    · show s.tripReset = _
      rw [tripReset_eq, hstate]
      exact if_neg (ne_true_of_eq_false hkey)
    · show s.tripReset = _
      exact tripReset_other hother
  · intro t told
    obtain ⟨bus, brake, counts, resets, level⟩ := judgeReset_drive hlaw hrole hheld hstill
    have tells : (s.reframe bus brake counts).tellReset = _ := tellReset_drive hrole
    rw [tripReset_reframe] at tells
    obtain ⟨meas, sup, trip⟩ := reOrder_blocks (s.reframe bus brake counts).tellReset
    rw [← resets] at meas sup trip
    have told_eq : told = if 2 ≤ brake.effective then s.tripReset.tripRise 2 else s.tripReset := by
      show (if 2 ≤ t.brake.effective then _ else _) = _
      rw [level]
    have levels : (s.reframe bus brake counts).brake.effective = brake.effective := rfl
    have same : told.sup = s.sup ∧ told.role = .drive := by
      rw [told_eq]
      have role := (tripReset_touches s).role_eq
      split
      · exact ⟨((tripRise_touches 2 _).sup_eq (by decide)).trans (tripReset_sup s),
          ((tripRise_touches 2 _).role_eq).trans (role.trans hrole)⟩
      · exact ⟨tripReset_sup s, role.trans hrole⟩
    have tells_told : (s.reframe bus brake counts).tellReset =
        (told.reframe bus brake counts).authorityReset := by
      rw [tells, told_eq, tripRise_reframe, levels]
      split <;> rfl
    rw [tells_told, authorityReset_drive (s := told.reframe bus brake counts) same.2]
      at meas sup trip
    refine ⟨?_, ?_, ?_⟩
    · rw [meas]
      split <;> rfl
    · rw [trip]
      split <;> rfl
    · rw [sup, ← same.1]
      split <;> rename_i hended
      · exact (if_pos hended).symm
      · exact (if_neg hended).symm
  · intro t
    have rises : t = _ := tripRise_of_two hlevel
    refine ⟨fun hstate => ?_, fun hstate => ?_⟩
    · rw [rises]
      rcases List.mem_cons.mp hstate with h | h
      · rw [h]
      rcases List.mem_cons.mp h with h | h
      · rw [h]
      · rw [List.mem_singleton.mp h]
    · have entered : t = s.enterTripped := by
        rw [rises]
        split <;> rename_i h
        · exact absurd (by rw [h]; decide) hstate
        · exact absurd (by rw [h]; decide) hstate
        · exact absurd (by rw [h]; decide) hstate
        · rfl
      rw [entered]
      exact ⟨rfl, rfl, rfl, rfl, rfl, rfl, rfl, rfl, rfl, rfl⟩

/-! ## The recovery key and the park key (R119, R131, R132) -/

theorem recoveryFailure_eq_none {s : State} : s.recoveryFailure = none ↔
    s.meas.standstill = true ∧ s.brake.effective = 0 ∧ s.carFresh .a = true ∧
      s.carFresh .b = true ∧ s.carDoorsLocked .a = true ∧ s.carDoorsLocked .b = true ∧
      s.meas.status ≠ .none ∧ s.carLoad .a ≤ s.k .ratedLoad ∧ s.carLoad .b ≤ s.k .ratedLoad := by
  have conditions := readyConditions_hold_iff s false
  unfold State.recoveryFailure
  rw [firstFailing_eq_none] at conditions ⊢
  rw [List.forall_mem_cons, conditions]
  simp

/-- The trip record of a recovery trip (R131). -/
def State.recoveryTrip (s : State) (d : Direction) (target : Option Nat) (hEnd : Nat) : TripRecord :=
  { number := s.trip.counter, revision := 0, set := 1, pending := false, fromStop := none
    target := target, direction := d, hEnd := hEnd, derated := false, recovery := true }

/-- `t` is `s` with a recovery trip started in RECOVERY, drive enable asked for and its notice queued. -/
structure RecoveryStarted (trip : TripRecord) (s t : State) : Prop where
  record : t.trip.trip = some trip
  counter : t.trip.counter = (s.trip.counter + 1) % 256
  authority : t.sup.authority =
    some { hEnd := trip.hEnd, direction := trip.direction, trip := trip.number }
  state : t.trip.haulage = .recovery
  setpoint : t.trip.setpoint = 0
  enable : t.trip.askEnable = true
  service : t.trip.askService = s.torqueEstablished
  proved : t.trip.torqueProved = s.torqueEstablished
  torque : t.trip.torqueDue =
    if s.torqueEstablished = true then none else some (s.clock + 2000000)
  direction : t.trip.heldDir = trip.direction
  stop : t.trip.currentStop = none
  meas : t.meas = s.meas
  notice : TakesControl s → ∃ f ∈ t.bus.queue, f.payload = .tripNotice trip.notice

theorem startRecovery_starts {s : State} {d : Direction} {target : Option Nat} {hEnd : Nat}
    (h : hEnd = match target, d with
      | some k, d => s.endFor k d
      | none, .up => s.conf.lineLength
      | none, .down => 0) :
    RecoveryStarted (s.recoveryTrip d target hEnd) s (s.startRecovery d target) := by
  set trip := s.recoveryTrip d target hEnd with htrip
  set x : State := { s with
    trip := { s.trip with
      trip := some trip, counter := (s.trip.counter + 1) % 256, requeue := false }
    sup := { s.sup with
      authority := some { hEnd := trip.hEnd, direction := d, trip := trip.number } } } with hx
  set y := (x.enqueue (.tripNotice trip.notice)).setTrip ({ · with
    heldDir := d, currentStop := none, resumption := false }) with hy
  have released : s.startRecovery d target = y.startRelease .recovery := by
    unfold State.startRecovery
    rw [hy, hx, htrip, State.recoveryTrip, h]
    rfl
  have torque : y.torqueEstablished = s.torqueEstablished := by
    show (x.enqueue _).term.debounced.getD 0 false = _
    rw [enqueue_term]
    rfl
  have clock : y.clock = s.clock := (enqueue_touches (.tripNotice trip.notice) x).clock_eq
  rw [released, startRelease_recovery, torque]
  have trips : y.trip = { x.trip with
      requeue := (x.enqueue (.tripNotice trip.notice)).trip.requeue
      heldDir := d, currentStop := none, resumption := false } := by
    rw [hy]
    simp only [State.setTrip_trip]
    rw [enqueue_trip]
  have sup : y.sup = x.sup := enqueue_sup _ x
  have meas : y.meas = x.meas := enqueue_meas _ x
  constructor
  case notice => exact fun htakes => enqueue_takes (s := x) htakes (p := .tripNotice trip.notice) rfl
  case authority => exact congrArg Supervision.authority sup
  case meas => exact meas
  case torque =>
    show (if s.torqueEstablished = true then none else some (y.after 2000)) = _
    rw [State.after, clock]
  all_goals simp only [State.setTrip_trip, trips, hx, htrip, State.recoveryTrip]

theorem refuseRecovery_of_failure {s : State} {d : Direction} {r : Reason}
    (hd : s.directionSelector = some d) (hstate : s.trip.haulage ∈ [Haulage.unsynced, .stranded])
    (hr : s.recoveryFailure = some r) : s.recoveryKey = s.refuseRecovery r := by
  unfold State.recoveryKey
  rw [hd]
  rcases List.mem_pair.mp hstate with h | h <;> rw [h, hr]

theorem recoveryKey_ignored {s : State} {d : Direction} (hd : s.directionSelector = some d)
    (hstate : s.trip.haulage ∉ [Haulage.unsynced, .stranded]) :
    s.recoveryKey = s.bump .ignoredRecovery := by
  unfold State.recoveryKey
  rw [hd]
  dsimp only
  split
  · next h => exact absurd (by rw [h]; decide) hstate
  · next h => exact absurd (by rw [h]; decide) hstate
  · rfl

theorem recoveryKey_stranded {s : State} {d : Direction} (hd : s.directionSelector = some d)
    (hstate : s.trip.haulage = .stranded) (hmay : s.recoveryFailure = none) :
    s.recoveryKey = match s.conf.nextStopFrom s.meas.h d with
      | some k => s.startRecovery d (some k)
      | none => s.refuseRecovery .noTarget := by
  unfold State.recoveryKey
  simp only [hd, hstate, hmay] <;> rfl

theorem recoveryKey_unsynced {s : State} {d : Direction} (hd : s.directionSelector = some d)
    (hstate : s.trip.haulage = .unsynced) (hmay : s.recoveryFailure = none) :
    s.recoveryKey = match s.syncChoice d with
      | some k => (s.setTrip ({ · with heldDir := d })).arriveAt k
      | none => s.startRecovery d none := by
  unfold State.recoveryKey
  simp only [hd, hstate, hmay] <;> rfl

theorem keysJudged_running {s : State} (h : s.keysJudged = true) : s.running = true := by
  unfold State.keysJudged at h
  rcases Bool.or_eq_true_iff.mp h with h | h
  all_goals rw [State.running, beq_iff_eq.mp h]

/-- A key of the DRIVE that has become active acts in the state that shows it active (R118, R175). -/
theorem exec_key {s x : State} {dt i : Nat} (hkeys : s.keysJudged = true)
    (hdue : (s.advance dt).due (s.term.debounceDue.getD i none) = true) (hactive : s.rawActive i = true)
    (h : ((s.advance dt).setTerm (fun x => { x with
      debounced := x.debounced.set i true, debounceDue := x.debounceDue.set i none })).inputChanged i
        true = x) :
    ∃ t, exec (.debounceTimerExpiry dt i) s = .next t ∧ SettledFrom x t := by
  have runs : after (.debounceTimerExpiry dt i) s = (s.advance dt).debounce i :=
    if_pos (Bool.and_eq_true_iff.mpr ⟨keysJudged_running hkeys, hdue⟩)
  have active : (s.advance dt).rawActive i = true := hactive
  refine exec_settledFrom rfl (runs.trans ?_)
  rw [debounce_eq, State.takeLevel, active, h]

theorem momentary_of_active {s : State} (h : s.keysJudged = true) (act : State → State) :
    s.momentary true act = act s := if_pos (by rw [h]; rfl)

theorem inputChanged_recoveryKey {s : State} (hrole : s.role = .drive) (h : s.keysJudged = true) :
    s.inputChanged 5 true = s.recoveryKey := by
  unfold State.inputChanged
  rw [hrole]
  exact momentary_of_active h _

theorem inputChanged_parkKey {s : State} (hrole : s.role = .drive) (h : s.keysJudged = true) :
    s.inputChanged 14 true = s.parkKeyOn := by
  unfold State.inputChanged
  rw [hrole]
  exact momentary_of_active h _

/-- Settles O44. -/
theorem parkKeyParks : Obligations.ParkKeyParks := by
  refine ⟨fun dt s hkeys hrole hdue hactive => ?_, fun s => ⟨fun hd => ?_, fun d hd => ?_⟩,
    fun dt s hop hrole hdue hactive => ?_⟩
  · exact exec_key hkeys hdue hactive (inputChanged_recoveryKey hrole hkeys)
  · unfold State.recoveryKey
    rw [hd]
  · intro t may refused starts
    have may_iff : s.recoveryFailure = none ↔ may := recoveryFailure_eq_none
    have starts_of (target : Option Nat) (hEnd : Nat)
        (h : RecoveryStarted (s.recoveryTrip d target hEnd) s t) : starts target hEnd :=
      ⟨h.record, h.counter, h.authority, h.state, h.setpoint, h.enable, h.service, h.proved,
        h.torque, h.direction, h.stop, h.meas, h.notice⟩
    refine ⟨recoveryKey_ignored hd, fun hstate hfails => ?_, fun hstate hmay => ⟨fun k hk => ?_,
      fun hk => ?_⟩, fun hstate hmay => ⟨fun k hk => ?_, fun hnone => ?_⟩⟩
    · obtain ⟨r, hr⟩ := Option.ne_none_iff_exists'.mp (fun h => hfails (may_iff.mp h))
      have refuses : t = s.refuseRecovery r := refuseRecovery_of_failure hd hstate hr
      refine ⟨fun hmoves => ?_, r, refuses⟩
      have moving : s.recoveryFailure = some .notStandstill := by
        unfold State.recoveryFailure
        rw [hmoves]
        rfl
      rw [moving] at hr
      cases hr
      exact refuses
    · have begun : t = _ := recoveryKey_stranded hd hstate (may_iff.mpr hmay)
      rw [hk] at begun
      exact starts_of (some k) _ (begun ▸ startRecovery_starts rfl)
    · have begun : t = _ := recoveryKey_stranded hd hstate (may_iff.mpr hmay)
      rw [hk] at begun
      exact begun
    · have begun : t = _ := recoveryKey_unsynced hd hstate (may_iff.mpr hmay)
      have choice : s.syncChoice d = some k := by
        rcases hk with ⟨rfl, h⟩ | ⟨rfl, h⟩ <;> exact h
      rw [choice] at begun
      have arrived := arriveAt_arrives k (s.setTrip ({ · with heldDir := d }))
      rw [← show t = State.arriveAt k _ from begun] at arrived
      obtain ⟨dwell, position, accumulator⟩ := arrived.of_touches (setTrip_tripParts _ s)
      refine ⟨arrived.haulage, arrived.stop, ?_, dwell, arrived.known, arrived.synchronised,
        arrived.certain.1, position, accumulator, arrived.rest⟩
      rw [arrived.trip]
      rfl
    · have begun : t = _ := recoveryKey_unsynced hd hstate (may_iff.mpr hmay)
      have choice : s.syncChoice d = none := by
        cases d <;> simp [State.syncChoice, hnone]
      rw [choice] at begun
      exact starts_of none _ (begun ▸ startRecovery_starts (by cases d <;> rfl))
  · intro n
    have keys : s.keysJudged = true := by
      unfold State.operating at hop
      unfold State.keysJudged
      rw [hop]
      rfl
    have reported : n.inputChanged 14 true = n.parkKeyOn := inputChanged_parkKey hrole keys
    refine ⟨fun hstate => exec_key keys hdue hactive (reported.trans ?_),
      fun hstate => exec_key keys hdue hactive (reported.trans ?_)⟩
    · unfold State.parkKeyOn
      rw [show n.trip.haulage = .atStop from hstate]
    · unfold State.parkKeyOn
      split
      · next h => exact absurd h hstate
      · rfl

end Sys2Proof.Machine
end


section
/-! # What a sample latches, and the requests of a car (O45) -/

namespace Sys2Proof.Machine

open Sys2Proof

/-! ## Demands raised and not yet judged (R100) -/

/-- From `s` to `t` demands may have been raised, but none judged and none released. -/
structure Latching (s t : State) : Prop where
  judged : t.brake.judged = s.brake.judged
  levels : ∀ (i : Nat) (d : DemandEntry), s.brake.demands[i]? = some d →
    ∃ e, t.brake.demands[i]? = some e ∧ d.level ≤ e.level

namespace Latching

variable {s t u : State} {X : List Part}

theorem refl (s : State) : Latching s s := ⟨rfl, fun _ d h => ⟨d, h, le_rfl⟩⟩

theorem trans (h : Latching s t) (g : Latching t u) : Latching s u where
  judged := g.judged.trans h.judged
  levels i d hd := by
    obtain ⟨e, he, hle⟩ := h.levels i d hd
    obtain ⟨f, hf, hle'⟩ := g.levels i e he
    exact ⟨f, hf, hle.trans hle'⟩

theorem touch (h : Latching s t) (ht : Touches X t u)
    (hX : Part.demands ∉ X ∧ Part.judged ∉ X := by decide) : Latching s u := by
  have demands : u.brake.demands = t.brake.demands := ht .demands hX.1
  have judged : u.brake.judged = t.brake.judged := congrArg Prod.fst (ht .judged hX.2)
  refine h.trans ⟨judged, fun i d hd => ⟨d, ?_, le_rfl⟩⟩
  rw [demands]
  exact hd

theorem ite {c : Prop} [Decidable c] (h : c → Latching s t) (g : ¬c → Latching s u) :
    Latching s (if c then t else u) := by
  split
  · exact h ‹_›
  · exact g ‹_›

theorem latch (h : Latching s t) (c : Cause) (level : Nat) : Latching s (t.latch c level) := by
  refine h.trans ⟨rfl, fun i d hd => ?_⟩
  show ∃ e, (t.brake.demands.modify _ _)[i]? = some e ∧ _
  rw [List.getElem?_modify, hd]
  split
  · exact ⟨_, rfl, Nat.le_max_left _ _⟩
  · exact ⟨d, rfl, le_rfl⟩

theorem latched_le (h : Latching s t) (c : Cause) : s.latched c ≤ t.latched c := by
  unfold State.latched
  cases hd : s.brake.demands[causeCode c - 1]? with
  | none => exact Nat.zero_le _
  | some d =>
    obtain ⟨e, he, hle⟩ := h.levels _ d hd
    rw [he]
    exact hle

/-! ### The measurement block -/

theorem setMeas (h : Latching s t) (f : Measurement → Measurement) : Latching s (t.setMeas f) :=
  h.touch (setMeas_touches f t)

theorem bump (h : Latching s t) (c : Count) : Latching s (t.bump c) := h.touch (bump_touches c t)

theorem judgeLoss (h : Latching s t) (a b : Bool) : Latching s (t.judgeLoss a b) := by
  have counted (x : State) (c : Bool) (hx : Latching s x) :
      Latching s (if c then x.bump .channelLosses else x) :=
    .ite (fun _ => hx.bump _) (fun _ => hx)
  unfold State.judgeLoss
  dsimp only
  refine .ite (fun _ => .ite (fun _ => latch ?_ _ _) (fun _ => ?_)) (fun _ => h.setMeas _)
  all_goals exact counted _ _ (counted _ _ ((h.setMeas _).setMeas _))

theorem sampleLoss (h : Latching s t) : Latching s t.sampleLoss := by
  unfold State.sampleLoss
  exact (h.setMeas _).judgeLoss _ _

theorem judgeDisagree (h : Latching s t) (sample : Nat) : Latching s (t.judgeDisagree sample) :=
  .ite (fun _ => (h.setMeas _).latch _ _) (fun _ => h)

theorem judgeAgree (h : Latching s t) (sample : Nat) : Latching s (t.judgeAgree sample) :=
  .ite (fun _ => h.setMeas _) (fun _ => h)

theorem sampleDisagree (h : Latching s t) : Latching s t.sampleDisagree :=
  .ite (fun _ => ((h.setMeas _).judgeDisagree _).judgeAgree _) (fun _ => h)

theorem samplePosition (h : Latching s t) (reference : ChannelId) :
    Latching s (t.samplePosition reference) := by
  unfold State.samplePosition
  exact h.setMeas _

theorem judgeStandstill (h : Latching s t) (sample : Nat) : Latching s (t.judgeStandstill sample) :=
  .ite (fun _ => (h.setMeas _).touch (setDoor_touches _ _)) (fun _ => h)

theorem sampleStandstill (h : Latching s t) : Latching s t.sampleStandstill :=
  .ite (fun _ => (h.setMeas _).judgeStandstill _) (fun _ => h.setMeas _)

theorem sampleAdoption (h : Latching s t) : Latching s t.sampleAdoption := by
  unfold State.sampleAdoption
  refine .ite (fun _ => ?_) (fun _ => h)
  split
  · exact (h.touch (setPosition_touches _ _ _ t)).setMeas _
  · exact h

theorem missMark (h : Latching s t) (i : Nat) : Latching s (t.missMark i) :=
  .ite (fun _ => ((h.setMeas _).bump _).latch _ _) (fun _ => (h.setMeas _).bump _)

theorem sampleMarks (h : Latching s t) : Latching s t.sampleMarks := by
  have sought : Latching s (if t.meas.signDiffers then t.expectFrom t.ownTrack else t) :=
    .ite (fun _ => h.setMeas _) (fun _ => h)
  unfold State.sampleMarks
  dsimp only
  split
  · split
    · exact .ite (fun _ => sought.missMark _) (fun _ => sought)
    · exact sought
  · exact sought

theorem sampleEndOfTrack (h : Latching s t) : Latching s t.sampleEndOfTrack :=
  .ite (fun _ => (h.setMeas _).latch _ _) (fun _ => h.setMeas _)

theorem sampleDegraded (h : Latching s t) : Latching s t.sampleDegraded :=
  .ite (fun _ => (h.setMeas _).latch _ _) (fun _ => h.setMeas _)

theorem sampleLimits (h : Latching s t) : Latching s t.sampleLimits := by
  unfold State.sampleLimits
  have ended := h.sampleEndOfTrack
  exact setMeas (.ite (fun _ => sampleDegraded
    (.ite (fun _ => ended.sampleMarks) (fun _ => ended))) (fun _ => h)) _

theorem sampleMotion (h : Latching s t) : Latching s t.sampleMotion := by
  have speeds : Latching s t.sampleSpeeds := by
    unfold State.sampleSpeeds
    exact h.setMeas _
  exact ((speeds.sampleLoss.sampleDisagree.samplePosition _).sampleStandstill).sampleAdoption.sampleLimits

theorem sampleMeasurement (h : Latching s t) (reading : BitVec 16) :
    Latching s (t.sampleMeasurement reading) := by
  rw [sampleMeasurement_eq]
  have weighed : Latching s (t.sampleMotion.sampleLoad t.meas.standstill reading) :=
    .ite (fun _ => h.sampleMotion.setMeas _) (fun _ => h.sampleMotion)
  exact weighed.setMeas _

/-! ### The supervision block and the door block -/

theorem raiseCause (h : Latching s t) (c : Cause) : Latching s (t.raiseCause c) :=
  .ite (fun _ => (h.latch _ _).touch (requestProof_touches _)) (fun _ => h.latch _ _)

theorem setSup (h : Latching s t) (f : Supervision → Supervision) : Latching s (t.setSup f) :=
  h.touch (setSup_touches f t)

theorem takePresent (h : Latching s t) (l : List Cause) : Latching s (t.takePresent l) := by
  unfold State.takePresent
  generalize l.filter _ = raised
  have renewed := h.setSup ({ · with present := l })
  generalize t.setSup _ = x at renewed
  induction raised generalizing x with
  | nil => exact renewed
  | cons c raised ih => exact ih _ (renewed.raiseCause c)

theorem supervisionInputs (h : Latching s t) : Latching s t.supervisionInputs := by
  unfold State.supervisionInputs
  split
  · exact (h.touch (sampleSet_touches t)).setSup _
  · exact h.touch (judgeDeclaration_touches t)

theorem takeResult (h : Latching s t) (r : SupervisionResult) : Latching s (t.takeResult r) :=
  .ite (fun _ => (h.setSup _).bump _) (fun _ => h.setSup _)

theorem supervisionSample (h : Latching s t) : Latching s t.supervisionSample :=
  (takeResult (h.supervisionInputs.setSup _) _).takePresent _

theorem judgeOpenMoving (h : Latching s t) : Latching s t.judgeOpenMoving :=
  .ite (fun _ => (h.touch (setDoor_touches _ t)).latch _ _)
    (fun _ => h.touch (setDoor_touches _ t))

theorem sampleBlocks (h : Latching s t) (reading : BitVec 16) : Latching s (t.sampleBlocks reading) := by
  have measured := (h.touch (restartSample_touches reading t)).sampleMeasurement reading
  exact .ite (fun _ => measured.supervisionSample) (fun _ => measured)

end Latching

/-- Where nothing raised lies above what has been judged, nothing follows of it (R100). -/
theorem judgeRise_of_no_rise {s : State} (h : s.highestOwn ≤ s.brake.judged) :
    s.judgeRise = s.setBrake ({ · with judged := s.highestOwn, raised := [] }) := by
  unfold State.judgeRise
  dsimp only
  rw [if_neg (Nat.not_lt.mpr h)]

/-- A frame of the CONTROL or SAFETY class that waits in the queue waits there at the end of the step. -/
theorem SettledFrom.mem_queue {x t : State} (h : SettledFrom x t) {f : TxFrame}
    (hf : f ∈ x.bus.queue) (hkind : f.isState = false) : f ∈ t.bus.queue := by
  obtain ⟨-, kept, -, -, -⟩ := h
  have mem : f ∈ x.bus.queue.filter (fun f => !f.isState) := List.mem_filter.mpr ⟨hf, by rw [hkind]; rfl⟩
  rw [← kept] at mem
  exact List.mem_of_mem_filter mem

/-! ## Requests (R139, R140) -/

theorem requestConditions_iff (s : State) : s.requestConditions = true ↔
    s.meas.standstill = true ∧ s.meas.known = true ∧ s.brake.effective ≤ 1 ∧
      ∃ n b, s.carBerth = some n ∧ s.conf.berth? n = some b ∧
        distance s.ownTrack b.position + s.meas.u ≤ b.halfWidth := by
  unfold State.requestConditions
  cases hn : s.carBerth with
  | none => simp
  | some n =>
    simp only [State.withinBerth]
    cases hb : s.conf.berth? n with
    | none => simp [hb]
    | some b => simp [hb]; tauto

theorem judgeRequest_abandons {s : State} (h : s.anySide .requesting = true)
    (hc : s.requestConditions = false) : s.judgeRequest = s.abandonRequest :=
  if_pos (by rw [h, hc]; rfl)

theorem judgeRequest_starts {s : State} {b : Berth} (harmed : s.door.armed = true)
    (hc : s.requestConditions = true) (hb : s.carBerth.bind s.conf.berth? = some b) :
    s.judgeRequest = s.startRequest b := by
  unfold State.judgeRequest
  rw [if_neg (by rw [hc]; simp), if_pos (by rw [harmed, hc]; rfl), hb]

theorem judgeRequest_waits {s : State}
    (h : ¬(s.anySide .requesting = true ∧ s.requestConditions = false))
    (hw : s.door.armed = false ∨ s.requestConditions = false) : s.judgeRequest = s := by
  unfold State.judgeRequest
  rw [if_neg (by simpa using h), if_neg (by rcases hw with h | h <;> simp [h])]

/-- After DOOR_OPEN_MOVING has been judged, a sample of the door block latches nothing. -/
theorem doorSample_touches_rest (s : State) : Touches doorParts s.judgeOpenMoving s.doorSample := by
  refine .trans (t := if s.judgeOpenMoving.meas.standstill then s.judgeOpenMoving
    else s.judgeOpenMoving.endEvacuation) ?_ ?_
  · exact .ite (fun _ => .refl _ _) (fun _ => endEvacuation_touches _)
  · exact (((judgeRelease_touches _).trans (judgeRequest_touches _)).trans
      (judgeStanding_touches _)).trans (lockClosing_touches _)

/-- The end of a sample of a CAR in which no demand rises (R100, R139 to R152). -/
theorem sample_door_of_no_rise {s : State} {reading : BitVec 16} (hrole : s.role = .car)
    (h : ((s.sampleBlocks reading).judgeOpenMoving).highestOwn ≤ s.brake.judged) :
    (s.sample reading).door = (s.sampleBlocks reading).doorSample.door := by
  have blocks := sampleBlocks_touches reading s
  have latching : Latching s (s.sampleBlocks reading) := (Latching.refl s).sampleBlocks reading
  rw [sample_eq]
  generalize s.sampleBlocks reading = x at h blocks latching ⊢
  have role : x.role = .car := blocks.role_eq.trans hrole
  have plays : x.roleSample s.owedNotice = x.doorSample.setBrake ({ · with trackAsk := true }) := by
    unfold State.roleSample
    rw [role]
  have rest : Touches (doorParts ++ [.trackAsk]) x.judgeOpenMoving (x.roleSample s.owedNotice) := by
    rw [plays]
    exact (doorSample_touches_rest x).comp (trackAsk_touches _)
  have judged : (x.roleSample s.owedNotice).brake.judged = s.brake.judged :=
    (congrArg Prod.fst (rest .judged (by decide))).trans latching.judgeOpenMoving.judged
  have highest : (x.roleSample s.owedNotice).highestOwn = x.judgeOpenMoving.highestOwn :=
    highestOwn_congr (rest .demands (by decide))
  rw [(queueMotion_touches _).door_eq (by decide),
    judgeRise_of_no_rise (by rw [highest, judged]; exact h), plays, State.setBrake_door,
    State.setBrake_door]

theorem supervises_of_car {s : State} (h : s.role = .car) : s.supervises = true := by
  unfold State.supervises
  rw [h]
  rfl

/-- A sample of a CAR, up to the judgement of its doors. -/
theorem sampleBlocks_car {s : State} (hrole : s.role = .car) (reading : BitVec 16) :
    s.sampleBlocks reading = ((s.restartSample reading).sampleMeasurement reading).supervisionSample :=
  if_pos (supervises_of_car ((((restartSample_touches reading s).comp
    (sampleMeasurement_touches reading _)).role_eq).trans hrole))

/-- The sides and the timers of a request that starts (R139). -/
def State.requestSides (b : Berth) (s : State) : State :=
  (s.mapSides (fun d c =>
    { state :=
        if namesSide b.side d then .requesting
        else if c.state == .released then .closing else c.state
      confirmed := false, withdrawAtLock := false })).setDoor ({ · with
    armed := false, stopBerth := some b.number, requestNumber := (s.door.requestNumber + 1) % 256
    lastRefusal := none, confirmDue := none, grantId := none, retryCount := 1
    repeatDue := some (s.after 250) })

theorem startRequest_eq (b : Berth) (s : State) : s.startRequest b =
    (s.requestSides b).enqueue
      (.releaseRequest b.number s.conf.car b.side ((s.door.requestNumber + 1) % 256)) := rfl

/-- A request is counted again, and its repeat timer runs again (R140). -/
def State.recount (s : State) : State :=
  s.setDoor (fun d => { d with
    retryCount := d.retryCount + 1, repeatDue := some (s.after 250) })

/-- A request not answered is sent again, up to 40 times (R140). -/
theorem repeatExpiry_again {s : State} (h : s.anySide .requesting = true)
    (hfew : s.door.retryCount < 40) :
    s.repeatExpiry = match s.requestBerth with
      | some b => s.recount.enqueue
          (.releaseRequest b.number s.conf.car b.side s.door.requestNumber)
      | none => s.recount := by
  unfold State.repeatExpiry
  rw [if_neg (by rw [h]; decide), if_pos hfew]
  rfl

theorem repeatExpiry_faults {s : State} (h : s.anySide .requesting = true)
    (hmany : 40 ≤ s.door.retryCount) :
    s.repeatExpiry = (s.setDoor (fun d => { d with
      repeatDue := none
      left := if d.left.state = .requesting then { d.left with state := .fault } else d.left
      right := if d.right.state = .requesting then { d.right with state := .fault }
        else d.right })).bump .releaseFaults := by
  unfold State.repeatExpiry State.mapSides
  rw [if_neg (by rw [h]; decide), if_neg (Nat.not_lt.mpr hmany)]
  simp only [beq_iff_eq]
  rfl

/-- Settles O45. -/
theorem repeatTimer : Obligations.RepeatTimer := by
  refine ⟨fun s => ⟨requestConditions_iff s, ?_⟩, fun dt reading s hrun hrole hdue => ?_,
    fun dt s hrun hdue => ?_⟩
  · intro t abandons
    refine ⟨fun ⟨hasks, hfails⟩ => ?_, fun harmed hholds b hb => ?_, fun hrests hwaits =>
      judgeRequest_waits hrests hwaits⟩
    · have ht : t = s.abandonRequest := judgeRequest_abandons hasks hfails
      rw [ht]
      refine ⟨?_, ?_⟩
      · unfold State.abandonRequest State.mapSides
        simp only [beq_iff_eq]
        rfl
      · show s.driveHaulage.all (· == .atStop) = true ↔ _
        cases s.driveHaulage <;> simp
    · have ht : t = s.startRequest b := judgeRequest_starts harmed hholds hb
      rw [ht, startRequest_eq]
      refine ⟨?_, ?_, fun htakes => ?_⟩
      · rw [enqueue_door]
        unfold State.requestSides State.mapSides
        simp only [beq_iff_eq]
        rfl
      · exact enqueue_meas _ _
      · exact enqueue_takes (s := s.requestSides b) htakes rfl
  · intro x y hrise
    set n := s.advance dt with hn
    have samples : after (.sampleEvent dt reading) s = n.sample reading :=
      if_pos (Bool.and_eq_true_iff.mpr ⟨hrun, hdue⟩)
    obtain ⟨t, hexec, ht⟩ := exec_settledFrom rfl samples
    refine ⟨t, hexec, (ht.touches.door_eq (by decide)).trans ?_⟩
    have blocks : n.sampleBlocks reading = _ := sampleBlocks_car (s := n) hrole reading
    rw [sample_door_of_no_rise (s := n) hrole (by rw [blocks]; exact hrise), blocks]
    rfl
  · have runs : after (.repeatTimerExpiry dt) s = (s.advance dt).repeatExpiry :=
      if_pos (show (s.running && (s.advance dt).due s.door.repeatDue) = true by rw [hrun, hdue]; rfl)
    refine ⟨fun hasks hfew => ?_, fun hasks hmany => ?_, fun hnone => ?_⟩
    · obtain ⟨t, hexec, ht⟩ := exec_settledFrom rfl runs
      have repeated := repeatExpiry_again (s := s.advance dt) hasks hfew
      have settled := ht.touches
      have door : t.door = (s.advance dt).repeatExpiry.door := settled.door_eq (by decide)
      have meas : t.meas = (s.advance dt).repeatExpiry.meas := settled.meas_eq (by decide)
      have trip : t.trip = (s.advance dt).repeatExpiry.trip := settled.trip_eq (by decide)
      refine ⟨t, hexec, ?_, ?_, ?_, fun b hb hphase hlen => ?_⟩
      · rw [door, repeated]
        split
        · rw [enqueue_door]
          rfl
        · rfl
      · rw [meas, repeated]
        split
        · rw [enqueue_meas]
          rfl
        · rfl
      · rw [trip, repeated]
        split
        · rw [enqueue_trip]
          rfl
        · rfl
      · rw [show (s.advance dt).requestBerth = some b from hb] at repeated
        obtain ⟨f, hf, hpayload⟩ := enqueue_takes (s := (s.advance dt).recount)
          ⟨hrun, hphase, hlen⟩ (p := .releaseRequest b.number s.conf.car b.side
            s.door.requestNumber) rfl
        refine ⟨f, ht.mem_queue ?_ (by rw [TxFrame.isState, hpayload]; rfl), hpayload⟩
        rw [repeated]
        exact hf
    · exact exec_settledFrom rfl (runs.trans (repeatExpiry_faults (s := s.advance dt) hasks hmany))
    · have none : (s.advance dt).anySide .requesting = false := hnone
      exact exec_settledFrom rfl (runs.trans (if_pos (by rw [none]; rfl)))

end Sys2Proof.Machine
end


section
/-! # Grants held by a car (O46) -/

namespace Sys2Proof.Machine

open Sys2Proof

/-! ## Withdrawals and closing sides (R147, R148) -/

/-- The withdrawal noted with a car's RELEASE WITHDRAWAL (R147). -/
def State.noteWithdrawal (g : Nat) (s : State) : State :=
  s.setDoor (fun d => { d with
    recentWithdraw := (g, s.clock) :: d.recentWithdraw.filter (fun e => !(e.1 == g)) })

theorem carWithdraw_eq (b g : Nat) (r : WithdrawReason) (s : State) : s.carWithdraw b g r =
    (s.noteWithdrawal g).enqueue (.releaseWithdrawal b s.conf.car g r) := rfl

theorem carWithdraw_door (b g : Nat) (r : WithdrawReason) (s : State) :
    (s.carWithdraw b g r).door = { s.door with
      recentWithdraw := (g, s.clock) :: s.door.recentWithdraw.filter (fun e => !(e.1 == g)) } := by
  rw [carWithdraw_eq, enqueue_door]
  rfl

theorem carWithdraw_queued (b g : Nat) (r : WithdrawReason) {s : State} (h : TakesControl s) :
    ∃ f ∈ (s.carWithdraw b g r).bus.queue, f.payload = .releaseWithdrawal b s.conf.car g r := by
  rw [carWithdraw_eq]
  exact enqueue_takes (s := s.noteWithdrawal g) h rfl

theorem carWithdraw_meas (b g : Nat) (r : WithdrawReason) (s : State) :
    (s.carWithdraw b g r).meas = s.meas := by
  rw [carWithdraw_eq, enqueue_meas]
  rfl

/-- A side after its lock has been judged (R148). -/
def State.lockedSide (s : State) (d : Side) (c : DoorSideContext) : DoorSideContext :=
  if c.state = .closing ∧ s.doorLocked d = true then { c with state := .locked } else c

theorem doorLocked_congr {s t : State} (h : t.term = s.term) (d : Side) :
    t.doorLocked d = s.doorLocked d := by
  cases d <;> exact congrArg (fun x : Terminal => x.debounced.getD _ false) h

theorem lockSides_eq (s : State) : s.lockSides = s.setDoor (fun d => { d with
    left := s.lockedSide .left d.left, right := s.lockedSide .right d.right }) := by
  unfold State.lockSides State.mapSides State.lockedSide
  simp only [Bool.and_eq_true, beq_iff_eq]

theorem lockedSide_flag (s : State) (d : Side) (c : DoorSideContext) :
    (s.lockedSide d c).withdrawAtLock = c.withdrawAtLock := by
  unfold State.lockedSide
  split <;> rfl

/-- Some side waits to withdraw the grant at its lock. -/
def State.owesWithdrawal (s : State) : Prop :=
  s.door.left.withdrawAtLock = true ∨ s.door.right.withdrawAtLock = true

/-- Some side that is to withdraw the grant is not locked yet. -/
def State.awaitsLock (s : State) : Prop :=
  s.door.left.withdrawAtLock = true ∧ s.door.left.state ≠ .locked ∨
    s.door.right.withdrawAtLock = true ∧ s.door.right.state ≠ .locked

/-- Nothing is withdrawn where no side is to withdraw, and while one of them waits (R148). -/
theorem withdrawLocked_waits {s : State} (h : ¬s.owesWithdrawal ∨ s.awaitsLock) :
    s.withdrawLocked = s := by
  refine if_pos ?_
  unfold State.owesWithdrawal State.awaitsLock at h
  cases hl : s.door.left.withdrawAtLock <;> cases hr : s.door.right.withdrawAtLock <;>
    simp [hl, hr] at h ⊢ <;> tauto

/-- The last side that was to withdraw has locked: one withdrawal for the held grant (R148). -/
theorem withdrawLocked_withdraws {s : State} (h : s.owesWithdrawal) (hl : ¬s.awaitsLock) :
    s.withdrawLocked = ((match s.door.stopBerth, s.door.grantId with
      | some b, some g => s.carWithdraw b g .departure
      | _, _ => s).mapSides (fun _ c => { c with withdrawAtLock := false })).setDoor
        ({ · with grantId := none }) := by
  refine if_neg ?_
  unfold State.owesWithdrawal State.awaitsLock at *
  cases hl : s.door.left.withdrawAtLock <;> cases hr : s.door.right.withdrawAtLock <;>
    simp_all

theorem lockClosing_of_not_owed {s : State} (h : ¬s.owesWithdrawal) :
    s.lockClosing = s.lockSides := by
  refine withdrawLocked_waits (.inl fun owed => h ?_)
  rw [lockSides_eq] at owed
  unfold State.owesWithdrawal at owed ⊢
  simpa only [State.setDoor_door, lockedSide_flag] using owed

/-! ## A grant delivered (R145) -/

theorem withinBerth_iff (s : State) (n : Nat) : s.withinBerth n = true ↔
    ∃ b, s.conf.berth? n = some b ∧ s.meas.known = true ∧
      distance s.ownTrack b.position + s.meas.u ≤ b.halfWidth := by
  unfold State.withinBerth
  cases h : s.conf.berth? n <;> simp

theorem grantShown_iff (s : State) (b g : Nat) : s.grantShown b g = true ↔
    ∃ x, s.berthSummary b = some x ∧ x.car = s.conf.car ∧ x.grantId = g ∧ x.state = .granted := by
  unfold State.grantShown
  cases h : s.berthSummary b <;> simp [and_assoc]

theorem grantAccepted_iff (s : State) (berth number : Nat) (side : DoorSide) :
    s.grantAccepted berth number side = true ↔
      s.door.stopBerth = some berth ∧ number = s.door.requestNumber ∧
      (∃ b, s.conf.berth? berth = some b ∧ b.side = side ∧ s.meas.known = true ∧
        distance s.ownTrack b.position + s.meas.u ≤ b.halfWidth) ∧
      s.anySide .requesting = true ∧ s.meas.standstill = true := by
  unfold State.grantAccepted
  simp only [Bool.and_eq_true, beq_iff_eq, withinBerth_iff]
  constructor
  · rintro ⟨⟨⟨⟨⟨hstop, hnumber⟩, hside⟩, hasks⟩, hstill⟩, b, hb, hknown, hnear⟩
    refine ⟨hstop, hnumber, ⟨b, hb, ?_, hknown, hnear⟩, hasks, hstill⟩
    rw [State.requestBerth, hstop] at hside
    rw [Option.bind_some, hb] at hside
    exact Option.some.inj hside
  · rintro ⟨hstop, hnumber, ⟨b, hb, hside, hknown, hnear⟩, hasks, hstill⟩
    refine ⟨⟨⟨⟨⟨hstop, hnumber⟩, ?_⟩, hasks⟩, hstill⟩, b, hb, hknown, hnear⟩
    rw [State.requestBerth, hstop, Option.bind_some, hb]
    exact congrArg some hside

/-- The REQUESTING sides are RELEASED under a grant that awaits its confirmation (R145). -/
def State.takeRelease (berth grantId : Nat) (s : State) : State :=
  (s.mapSides (fun _ c =>
    if c.state == .requesting then { c with state := .released, confirmed := false } else c)).setDoor
    (fun d => { d with
      repeatDue := none, grantId := some grantId, confirmDue := some (s.after 1000)
      opening := match d.opening with
        | some o => if o.berth = berth then none else some o
        | none => none })

theorem takeGrant_accepts {s : State} {berth number g : Nat} {side : DoorSide}
    (hnew : ¬(s.door.grantId = some g ∧ s.door.stopBerth = some berth))
    (h : s.grantAccepted berth number side = true) :
    s.takeGrant berth side number g = (s.takeRelease berth g).judgeConfirm :=
  (if_neg hnew).trans (if_pos h)

theorem takeGrant_rejects {s : State} {berth number g : Nat} {side : DoorSide}
    (hnew : ¬(s.door.grantId = some g ∧ s.door.stopBerth = some berth))
    (h : s.grantAccepted berth number side = false) :
    s.takeGrant berth side number g = (s.carWithdraw berth g .notHeld).bump .rejectedGrants :=
  (if_neg hnew).trans (if_neg (ne_true_of_eq_false h))

/-- A side after a grant has been accepted and, where the berth shows it, confirmed. -/
def acceptedSide (confirmed : Bool) (c : DoorSideContext) : DoorSideContext :=
  if c.state = .requesting then { c with state := .released, confirmed := confirmed }
  else if c.state = .released ∧ confirmed = true then { c with confirmed := true } else c

theorem takeRelease_released {s : State} (h : s.anySide .requesting = true) (b g : Nat) :
    (s.takeRelease b g).anySide .released = true := by
  have released (c : DoorSideContext) (hc : (c.state == .requesting) = true) :
      ((if c.state == .requesting then { c with state := .released, confirmed := false }
        else c : DoorSideContext).state == .released) = true := by
    rw [if_pos hc]
    rfl
  unfold State.anySide at h ⊢
  rcases Bool.or_eq_true_iff.mp h with h | h
  · exact Bool.or_eq_true_iff.mpr (.inl (released _ h))
  · exact Bool.or_eq_true_iff.mpr (.inr (released _ h))

/-- An accepted grant of this berth clears the opening for it (R157). -/
theorem opening_cleared (o : Option Opening) (berth : Nat) :
    (match o with
      | some o => if o.berth = berth then none else some o
      | none => none) = o.filter (fun o => !(o.berth == berth)) := by
  cases o with
  | none => rfl
  | some o => by_cases h : o.berth = berth <;> simp [h, Option.filter]

theorem acceptedSide_false (c : DoorSideContext) : acceptedSide false c =
    if c.state == .requesting then { c with state := .released, confirmed := false } else c := by
  obtain ⟨state, confirmed, flag⟩ := c
  cases state <;> rfl

theorem acceptedSide_true (c : DoorSideContext) : acceptedSide true c =
    if (acceptedSide false c).state == .released then { acceptedSide false c with confirmed := true }
    else acceptedSide false c := by
  obtain ⟨state, confirmed, flag⟩ := c
  cases state <;> rfl

theorem takeRelease_eq (b g : Nat) (s : State) : s.takeRelease b g = s.setDoor (fun d => { d with
    left := acceptedSide false d.left, right := acceptedSide false d.right, repeatDue := none
    grantId := some g, confirmDue := some (s.clock + 1000000)
    opening := d.opening.filter (fun o => !(o.berth == b)) }) := by
  unfold State.takeRelease State.mapSides State.setDoor
  simp only [acceptedSide_false, opening_cleared]
  rfl

/-- A grant taken is confirmed at once where the berth shows it, and otherwise awaits it (R145). -/
theorem takeRelease_confirm {s : State} (h : s.anySide .requesting = true) {b : Nat} (g : Nat)
    (hb : s.door.stopBerth = some b) :
    (s.takeRelease b g).judgeConfirm = s.setDoor (fun d => { d with
      left := acceptedSide (s.grantShown b g) d.left
      right := acceptedSide (s.grantShown b g) d.right
      repeatDue := none, grantId := some g
      confirmDue := if s.grantShown b g = true then none else some (s.clock + 1000000)
      opening := d.opening.filter (fun o => !(o.berth == b)) }) := by
  have held : (s.takeRelease b g).heldGrantShown = s.grantShown b g := by
    unfold State.heldGrantShown
    rw [show (s.takeRelease b g).door.stopBerth = some b from hb]
    rfl
  unfold State.judgeConfirm
  rw [takeRelease_released h, held, takeRelease_eq]
  cases s.grantShown b g
  · rfl
  · simp only [acceptedSide_true]
    rfl

/-! ## A grant not confirmed (R146) -/

/-- A side that loses its release closes (R146). -/
def closedSide (c : DoorSideContext) : DoorSideContext :=
  if c.state = .released then { c with state := .closing } else c

theorem closedSide_of_ne {c : DoorSideContext} (h : c.state ≠ .released) : closedSide c = c := if_neg h

theorem dropRelease_door (s : State) : s.dropRelease.door = { s.door with
    left := closedSide s.door.left, right := closedSide s.door.right, grantId := none
    confirmDue := none } := by
  unfold State.dropRelease State.mapSides closedSide
  simp only [beq_iff_eq]
  rfl

/-- The hold fails for want of a confirmation (R146). -/
theorem holdFailure_notConfirmed {s : State} {b : Nat} (hstill : s.meas.standstill = true)
    (hfresh : (s.fresh (.berth b)).isSome = true) (hb : s.door.stopBerth = some b)
    (hleft : s.door.left.confirmed = false) (hright : s.door.right.state = .locked)
    (hdue : s.due s.door.confirmDue = true) : s.holdFailure = some .notConfirmed := by
  unfold State.holdFailure
  rw [hstill, hleft, hright, hb, hdue]
  simp [hfresh]

/-- Settles O46. -/
theorem confirmationTimer : Obligations.ConfirmationTimer := by
  refine ⟨fun s berth number g side => ?_, fun dt b g s hrun hdue hleft hright hflag hb hg hstill
    hfresh => ?_⟩
  · intro t holds accepted shown
    have accepted_iff : s.grantAccepted berth number side = true ↔ accepted :=
      grantAccepted_iff s berth number side
    have shown_iff : s.grantShown berth g = true ↔ shown := grantShown_iff s berth g
    refine ⟨fun hholds => if_pos hholds, fun hnew hacc => ?_, fun hnew hrej => ?_⟩
    · have taken : t = _ := takeGrant_accepts hnew (accepted_iff.mpr hacc)
      obtain ⟨hstop, -, -, hasks, -⟩ := hacc
      rw [takeRelease_confirm hasks g hstop] at taken
      refine ⟨fun hshown => ?_, fun hhidden => ?_⟩
      · rw [shown_iff.mpr hshown] at taken
        exact taken
      · rw [Bool.eq_false_iff.mpr (fun h => hhidden (shown_iff.mp h))] at taken
        exact taken
    · have rejected : t = (s.carWithdraw berth g .notHeld).bump .rejectedGrants :=
        takeGrant_rejects hnew (Bool.eq_false_iff.mpr fun h => hrej (accepted_iff.mp h))
      rw [rejected, State.bump_door, carWithdraw_door, State.bump_meas, carWithdraw_meas]
      refine ⟨rfl, List.mem_cons_self .., rfl, ?_, carWithdraw_queued berth g .notHeld⟩
      exact enqueue_bump_count (.releaseWithdrawal berth s.conf.car g .notHeld)
        (s.noteWithdrawal g) (by decide)
  · set n := s.advance dt with hn
    have fails : n.holdFailure = some .notConfirmed :=
      holdFailure_notConfirmed (s := n) hstill hfresh hb (by rw [show n.door.left = _ from hleft])
        hright hdue
    have released : n.anySide .released = true := by
      unfold State.anySide
      rw [show n.door.left = _ from hleft]
      rfl
    have dropped : n.judgeHold = n.dropRelease.carWithdraw b g .notConfirmed := by
      unfold State.judgeHold
      rw [released, fails, show n.door.stopBerth = some b from hb,
        show n.door.grantId = some g from hg]
      rfl
    have closes : after (.confirmationTimerExpiry dt) s = n.judgeHold.lockClosing :=
      if_pos (show (n.running && n.due n.door.confirmDue) = true by
        rw [show n.running = true from hrun, show n.due n.door.confirmDue = true from hdue]; rfl)
    obtain ⟨t, hexec, ht⟩ := exec_settledFrom rfl closes
    rw [dropped] at ht
    have door : (n.dropRelease.carWithdraw b g .notConfirmed).door = { s.door with
        left := { s.door.left with state := .closing }, grantId := none, confirmDue := none
        recentWithdraw := (g, s.clock + dt) :: s.door.recentWithdraw.filter (fun e => !(e.1 == g)) } := by
      have right : closedSide s.door.right = s.door.right :=
        closedSide_of_ne (by rw [hright]; decide)
      rw [carWithdraw_door, dropRelease_door, show n.door = s.door from rfl, hleft, right]
      rfl
    have locked (d : Side) : (n.dropRelease.carWithdraw b g .notConfirmed).doorLocked d =
        s.doorLocked d := doorLocked_congr (enqueue_term _ (n.dropRelease.noteWithdrawal g)) d
    have meas : (n.dropRelease.carWithdraw b g .notConfirmed).meas = s.meas :=
      carWithdraw_meas b g .notConfirmed n.dropRelease
    have owes : ¬(n.dropRelease.carWithdraw b g .notConfirmed).owesWithdrawal := by
      unfold State.owesWithdrawal
      rw [door, hleft, hflag]
      simp
    have queued := carWithdraw_queued b g .notConfirmed (s := n.dropRelease)
    rw [lockClosing_of_not_owed owes, lockSides_eq] at ht
    generalize n.dropRelease.carWithdraw b g .notConfirmed = x at ht door locked queued meas
    have settled : t.door = _ := ht.touches.door_eq (by decide)
    rw [State.setDoor_door, door] at settled
    have left : t.door.left = x.lockedSide .left { s.door.left with state := .closing } :=
      congrArg DoorBlock.left settled
    have right : t.door.right = x.lockedSide .right s.door.right := congrArg DoorBlock.right settled
    refine ⟨t, hexec, ?_, ?_, ?_, ?_, ?_, ?_, ?_, fun hphase hlen => ?_⟩
    · rw [left, State.lockedSide, locked]
      cases s.doorLocked .left <;> rfl
    · rw [right]
      exact if_neg (fun h => absurd (hright.symm.trans h.1) (by decide))
    · rw [settled]
    · rw [settled]
    · rw [settled]
      exact List.mem_cons_self ..
    · rw [settled]
      exact hb
    · exact (ht.touches.meas_eq (by decide)).trans meas
    · obtain ⟨f, hf, hpayload⟩ := queued ⟨hrun, hphase, hlen⟩
      exact ⟨f, ht.mem_queue hf (by rw [TxFrame.isState, hpayload]; rfl), hpayload⟩

end Sys2Proof.Machine
end


section
/-! # Frames taken from the receive buffer (O35, O47, O52) -/

namespace Sys2Proof.Machine

open Sys2Proof

/-! ## Entries of the peer view -/

theorem entry_setEntry {s : State} {a : Nat} (h : a < s.peers.length) (f : PeerEntry → PeerEntry) :
    (s.setEntry a f).entry a = f (s.entry a) := by
  unfold State.entry State.setEntry
  simp [List.getD_eq_getElem?_getD, List.getElem?_eq_getElem h]

theorem setEntry_setEntry (s : State) (a : Nat) (f g : PeerEntry → PeerEntry) :
    (s.setEntry a f).setEntry a g = s.setEntry a (g ∘ f) := by
  unfold State.setEntry
  dsimp only
  rw [List.modify_modify_eq]

/-- Two changes that agree on an entry change it alike. -/
theorem setEntry_congr {s : State} {a : Nat} {f g : PeerEntry → PeerEntry}
    (h : f (s.entry a) = g (s.entry a)) : s.setEntry a f = s.setEntry a g := by
  have same : s.peers.modify a f = s.peers.modify a g := by
    refine List.ext_getElem? fun i => ?_
    rw [List.getElem?_modify, List.getElem?_modify]
    cases he : s.peers[i]? with
    | none => rfl
    | some e =>
      by_cases hi : a = i
      · subst hi
        have entry : s.entry a = e := by
          rw [State.entry, List.getD_eq_getElem?_getD, he]
          rfl
        rw [entry] at h
        simp [h]
      · simp [hi]
  exact congrArg (fun l => ({ s with peers := l } : State)) same

theorem setEntry_peers_length (s : State) (a : Nat) (f : PeerEntry → PeerEntry) :
    (s.setEntry a f).peers.length = s.peers.length := List.length_modify _ _ _

/-- Who else holds an announcement does not depend on the entry itself. -/
theorem heldElsewhere_setEntry (s : State) (a : Nat) (f : PeerEntry → PeerEntry) (x : Identity) :
    (s.setEntry a f).heldElsewhere a x = s.heldElsewhere a x := by
  unfold State.heldElsewhere State.setEntry
  dsimp only
  rw [Bool.eq_iff_iff, List.any_eq_true, List.any_eq_true]
  have other {l m : List PeerEntry} (hlm : ∀ i, i ≠ a → l[i]? = m[i]?)
      (h : ∃ p ∈ l.zipIdx, (!(p.2 == a) && p.1.announcement == some x && !(p.1.freshness == .lost)
        && !(p.1.freshness == .unknown)) = true) :
      ∃ p ∈ m.zipIdx, (!(p.2 == a) && p.1.announcement == some x && !(p.1.freshness == .lost)
        && !(p.1.freshness == .unknown)) = true := by
    obtain ⟨⟨e, i⟩, hmem, hp⟩ := h
    refine ⟨(e, i), ?_, hp⟩
    have hne : i ≠ a := by
      rintro rfl
      simp at hp
    rw [List.mem_zipIdx_iff_getElem?] at hmem ⊢
    rw [← hlm i hne]
    exact hmem
  have outside (i : Nat) (hi : i ≠ a) : (s.peers.modify a f)[i]? = s.peers[i]? := by
    rw [List.getElem?_modify]
    cases s.peers[i]? <;> simp [Ne.symm hi]
  exact ⟨other outside, other fun i hi => (outside i hi).symm⟩

/-- The freshness that an entry takes at a frame (R63). -/
def State.freshnessOf (s : State) (a : Nat) (e : PeerEntry) : Freshness :=
  match e.announcement with
  | some x =>
      if s.inConflict a x then .conflict else if s.mismatched e then .mismatched else .fresh
  | none => if s.mismatched e then .mismatched else .unknown

theorem judgeFreshness_eq (s : State) (a : Nat) : s.judgeFreshness a = s.freshnessOf a (s.entry a) :=
  rfl

theorem judgeFreshness_setEntry {s : State} {a : Nat} (h : a < s.peers.length)
    (f : PeerEntry → PeerEntry) : (s.setEntry a f).judgeFreshness a = s.freshnessOf a (f (s.entry a)) := by
  have conflicts (x : Identity) : (s.setEntry a f).inConflict a x = s.inConflict a x := by
    unfold State.inConflict
    rw [heldElsewhere_setEntry]
    rfl
  rw [judgeFreshness_eq, entry_setEntry h]
  unfold State.freshnessOf
  simp only [conflicts]
  all_goals rfl

/-- An entry that no other holds, with the digest of this unit, becomes FRESH (R63). -/
theorem freshnessOf_fresh {s : State} {a : Nat} {e : PeerEntry} {x : Identity}
    (hx : e.announcement = some x) (hown : x ≠ s.conf.identity)
    (hheld : s.heldElsewhere a x = false) (hdigest : e.digest = some s.prof.digest) :
    s.freshnessOf a e = .fresh := by
  unfold State.freshnessOf State.inConflict State.mismatched
  rw [hx, hdigest]
  simp [hown, hheld]

theorem spreadConflict_of_ne {s : State} {a : Nat} (h : (s.entry a).freshness ≠ .conflict) :
    s.spreadConflict a = s := by
  unfold State.spreadConflict
  split
  · next hc _ => exact absurd hc h
  · rfl

theorem become_self (e : PeerEntry) : e.become e.freshness = e := by
  unfold PeerEntry.become
  rw [if_neg (fun h => absurd (h.1.symm.trans h.2) (by decide))]

/-- Entries of the same freshness, each beside its own. -/
theorem freshness_of_zip {before after : List PeerEntry}
    (h : after.map (·.freshness) = before.map (·.freshness)) {a b : PeerEntry}
    (hp : (a, b) ∈ before.zip after) : a.freshness = b.freshness := by
  obtain ⟨i, hi⟩ := List.mem_iff_getElem?.mp hp
  obtain ⟨hb, ha⟩ := List.getElem?_zip_eq_some.mp hi
  have hmap := congrArg (·[i]?) h
  simp only [List.getElem?_map, hb, ha, Option.map_some] at hmap
  exact (Option.some.inj hmap).symm

theorem entered_of_freshness {f : Freshness} {before after : List PeerEntry}
    (h : after.map (·.freshness) = before.map (·.freshness)) : entered f before after = 0 := by
  unfold entered
  rw [List.length_eq_zero_iff, List.filter_eq_nil_iff]
  rintro ⟨a, b⟩ hp
  simp [freshness_of_zip h hp]

theorem countEntered_of_freshness {s : State} {before : List PeerEntry}
    (h : s.peers.map (·.freshness) = before.map (·.freshness)) : s.countEntered before = s := by
  unfold State.countEntered
  rw [entered_of_freshness h]
  show (s.bumps _ (entered .mismatched before s.peers)) = s
  rw [entered_of_freshness h]
  rfl

theorem changedIdentities_of_freshness {before after : List PeerEntry}
    (h : after.map (·.freshness) = before.map (·.freshness)) :
    changedIdentities before after = [] := by
  unfold changedIdentities
  have none : (before.zip after).filter (fun (a, b) => !(a.freshness == b.freshness)) = [] := by
    rw [List.filter_eq_nil_iff]
    rintro ⟨a, b⟩ hp
    simp [freshness_of_zip h hp]
  rw [none]
  rfl

/-! ## An entry renewed by a frame (R62) -/

/-- An entry with the age, and from a STATE frame the announcement and digest, of a frame taken. -/
def renewed (f : Frame) (now : UnitTime) (e : PeerEntry) : PeerEntry :=
  match f.payload.common with
  | some c => { e with age := some now, announcement := some c.identity, digest := some c.digest }
  | none => { e with age := some now }

theorem renewEntry_eq (f : Frame) (s : State) :
    let s1 := s.setEntry f.source (renewed f s.unitTime)
    s.renewEntry f = ((((s1.setEntry f.source (·.become (s1.judgeFreshness f.source))).spreadConflict
      f.source).endConflicts).countEntered s.peers) := rfl

theorem renewed_freshness (f : Frame) (now : UnitTime) (e : PeerEntry) :
    (renewed f now e).freshness = e.freshness := by
  unfold renewed
  split <;> rfl

theorem setEntry_self {s : State} {a : Nat} {f : PeerEntry → PeerEntry}
    (h : f (s.entry a) = s.entry a) : s.setEntry a f = s := by
  refine (setEntry_congr (g := id) h).trans ?_
  exact congrArg (fun l => ({ s with peers := l } : State)) (List.modify_id ..)

/-- A change of an entry that keeps its freshness keeps the freshness of all. -/
theorem setEntry_freshness {s : State} {a : Nat} {f : PeerEntry → PeerEntry}
    (h : ∀ e, (f e).freshness = e.freshness) :
    (s.setEntry a f).peers.map (·.freshness) = s.peers.map (·.freshness) := by
  refine List.ext_getElem? fun i => ?_
  unfold State.setEntry
  rw [List.getElem?_map, List.getElem?_map, List.getElem?_modify]
  cases s.peers[i]? with
  | none => rfl
  | some e => by_cases hi : a = i <;> simp [hi, h]

/-- A frame whose source keeps its freshness, with no entry in CONFLICT, renews its entry alone. -/
theorem renewEntry_steady {s : State} {f : Frame} (hsource : f.source < s.peers.length)
    (hnone : ∀ e ∈ s.peers, e.freshness ≠ .conflict)
    (hsteady : s.freshnessOf f.source (renewed f s.unitTime (s.entry f.source)) =
      (s.entry f.source).freshness) :
    s.renewEntry f = s.setEntry f.source (renewed f s.unitTime) := by
  set s1 := s.setEntry f.source (renewed f s.unitTime) with hs1
  have entry : s1.entry f.source = renewed f s.unitTime (s.entry f.source) :=
    entry_setEntry hsource _
  have keeps : s1.setEntry f.source (·.become (s1.judgeFreshness f.source)) = s1 := by
    refine setEntry_self ?_
    rw [hs1, judgeFreshness_setEntry hsource, hsteady, ← hs1, entry,
      ← renewed_freshness f s.unitTime]
    exact become_self _
  have freshness : s1.peers.map (·.freshness) = s.peers.map (·.freshness) :=
    setEntry_freshness (renewed_freshness f s.unitTime)
  have unconflicted : ∀ e ∈ s1.peers, e.freshness ≠ .conflict := fun e he => by
    have mem : e.freshness ∈ s.peers.map (·.freshness) :=
      freshness ▸ List.mem_map_of_mem he
    obtain ⟨d, hd, heq⟩ := List.mem_map.mp mem
    rw [← heq]
    exact hnone d hd
  have own : (s1.entry f.source).freshness ≠ .conflict := by
    rw [entry, renewed_freshness, State.entry, List.getD_eq_getElem _ _ hsource]
    exact hnone _ (List.getElem_mem hsource)
  have spread : s1.spreadConflict f.source = s1 := spreadConflict_of_ne own
  rw [renewEntry_eq]
  show ((((s1.setEntry f.source _).spreadConflict f.source).endConflicts).countEntered s.peers) = s1
  rw [keeps, spread, endConflicts_of_none unconflicted, countEntered_of_freshness freshness]

/-- The spread of a conflict changes nothing of an entry but its freshness. -/
theorem spreadConflict_entry (s : State) (a b : Nat) :
    ∃ fr, (s.spreadConflict a).entry b = { s.entry b with freshness := fr } := by
  unfold State.spreadConflict
  split
  · unfold State.entry
    dsimp only
    rw [List.getD_eq_getElem?_getD, List.getElem?_map, List.getD_eq_getElem?_getD]
    cases s.peers[b]? with
    | none => exact ⟨_, rfl⟩
    | some e =>
      dsimp only [Option.map_some, Option.getD_some]
      split
      · exact ⟨_, rfl⟩
      · exact ⟨_, rfl⟩
  · exact ⟨_, rfl⟩

/-- The end of conflicts changes nothing of an entry but a freshness of CONFLICT. -/
theorem endConflicts_entry (s : State) (b : Nat) :
    ∃ fr, s.endConflicts.entry b = { s.entry b with freshness := fr } ∧
      ((s.entry b).freshness ≠ .conflict → fr = (s.entry b).freshness) := by
  unfold State.endConflicts State.entry
  dsimp only
  rw [List.getD_eq_getElem?_getD, List.getElem?_map, List.getElem?_zipIdx,
    List.getD_eq_getElem?_getD]
  cases s.peers[b]? with
  | none => exact ⟨_, rfl, fun _ => rfl⟩
  | some e =>
    dsimp only [Option.map_some, Option.getD_some]
    split
    · split
      · exact ⟨_, rfl, fun _ => rfl⟩
      · next hc _ _ => exact ⟨_, rfl, fun h => absurd hc h⟩
    · exact ⟨_, rfl, fun _ => rfl⟩

/-- What a frame taken leaves of the entry of its source. -/
theorem renewEntry_entry {s : State} {f : Frame} (hsource : f.source < s.peers.length) :
    ∃ fr rejoins, (s.renewEntry f).entry f.source =
        { renewed f s.unitTime (s.entry f.source) with freshness := fr, rejoins := rejoins } ∧
      (s.freshnessOf f.source (renewed f s.unitTime (s.entry f.source)) = .fresh → fr = .fresh) := by
  set s1 := s.setEntry f.source (renewed f s.unitTime) with hs1
  set s2 := s1.setEntry f.source (·.become (s1.judgeFreshness f.source)) with hs2
  have length : f.source < s1.peers.length := by
    rw [hs1, setEntry_peers_length]
    exact hsource
  have judged : s1.judgeFreshness f.source =
      s.freshnessOf f.source (renewed f s.unitTime (s.entry f.source)) :=
    judgeFreshness_setEntry hsource _
  have entry : s2.entry f.source = (renewed f s.unitTime (s.entry f.source)).become
      (s.freshnessOf f.source (renewed f s.unitTime (s.entry f.source))) := by
    rw [hs2, entry_setEntry length, judged, hs1, entry_setEntry hsource]
  obtain ⟨fr, spread⟩ := spreadConflict_entry s2 f.source f.source
  obtain ⟨fr', ended, kept⟩ := endConflicts_entry (s2.spreadConflict f.source) f.source
  have counted : (s.renewEntry f).entry f.source =
      (s2.spreadConflict f.source).endConflicts.entry f.source :=
    congrArg (·.getD f.source PeerEntry.reset) (countEntered_touches s.peers _).peers_eq
  refine ⟨fr', ((renewed f s.unitTime (s.entry f.source)).become
    (s.freshnessOf f.source (renewed f s.unitTime (s.entry f.source)))).rejoins, ?_,
    fun hfresh => ?_⟩
  · rw [counted, ended, spread, entry]
    rfl
  · have own : (s2.entry f.source).freshness = .fresh := by
      rw [entry, hfresh]
      rfl
    have unspread : s2.spreadConflict f.source = s2 :=
      spreadConflict_of_ne (by rw [own]; decide)
    rw [unspread, own] at kept
    exact kept (by decide)

/-! ## TAKE_FRAME (R53, R56, R62) -/

/-- The state whose receive buffer no longer holds the frame taken. -/
def State.taken (rest : List Frame) (s : State) : State := s.setBus ({ · with rx := rest })

/-- The oldest frame is taken; with no ticket held nothing is decided anew (R163). -/
theorem exec_takeFrame {dt : Nat} {s : State} {f : Frame} {rest : List Frame}
    (hrun : s.running = true) (hrx : s.bus.rx = f :: rest)
    (hticket : s.role = .gate → ∀ x due, s.gate.ticket ≠ .held x due) :
    ∃ t, exec (.takeFrame dt) s = .next t ∧
      SettledFrom (((s.advance dt).taken rest).takeChecked f) t := by
  set n := s.advance dt with hn
  have rx : n.bus.rx = f :: rest := hrx
  have taken : n.takeOne = (n.taken rest).takeChecked f := by
    unfold State.takeOne
    rw [rx]
    rfl
  have ticket : n.takeOne.gate.ticket = s.gate.ticket :=
    (takeOne_touches n).ticket_eq.trans rfl
  have role : n.takeOne.role = s.role := (takeOne_touches n).role_eq.trans rfl
  have decided : n.takeOne.redecide = n.takeOne := by
    by_cases hrole : s.role = .gate
    · exact redecide_of_not_held (by rw [ticket]; exact hticket hrole)
    · exact if_neg (fun h => hrole (role ▸ beq_iff_eq.mp h))
  refine exec_settledFrom rfl (Eq.trans (b := n.takeOne.redecide) ?_ ?_)
  · refine if_pos ?_
    show (n.running && !n.bus.rx.isEmpty) = true
    rw [show n.running = true from hrun, rx]
    rfl
  · rw [decided, taken]

/-- A STATE frame or a CONTROL frame that passes its sequence check, its source's freshness as before and
no entry in CONFLICT: what it does before any block is notified. -/
theorem applyFrame_steady {s : State} {f : Frame} (hsource : f.source < s.peers.length)
    (hnone : ∀ e ∈ s.peers, e.freshness ≠ .conflict)
    (hsteady : s.freshnessOf f.source (renewed f s.unitTime (s.entry f.source)) =
      (s.entry f.source).freshness) :
    s.applyFrame f = ((((s.setEntry f.source (fun e => (renewed f s.unitTime e).store f.payload)).passBrake
      f).takeRecord f).deliver f).noticeChanges s.peers (storedIdentities f (s.entry f.source)) := by
  unfold State.applyFrame
  rw [renewEntry_steady hsource hnone hsteady, setEntry_setEntry]
  rfl

theorem noticeChanges_of_freshness {s : State} {before : List PeerEntry} {stored : List Identity}
    (h : s.peers.map (·.freshness) = before.map (·.freshness)) :
    s.noticeChanges before stored = stored.eraseDups.foldl (fun t id => t.notice id) s := by
  unfold State.noticeChanges
  rw [changedIdentities_of_freshness h, List.append_nil]

theorem heldElsewhere_congr {s t : State} (h : t.peers = s.peers) (a : Nat) (x : Identity) :
    t.heldElsewhere a x = s.heldElsewhere a x := by
  unfold State.heldElsewhere
  rw [h]

/-- The sequence check of a STATE frame changes only the sequence number held of its source (R56). -/
theorem passState_peers (f : Frame) (s : State) : (s.passState f).peers =
    (s.setEntry f.source (fun e => { e with
      stateSeq := e.stateSeq.set (f.payload.kind.code - 9) (some f.seq) })).peers := by
  unfold State.passState
  dsimp only
  split <;> rfl

theorem store_freshness (e : PeerEntry) (p : Payload) : (e.store p).freshness = e.freshness := by
  cases p <;> rfl

/-- A STATE frame of a FRESH source that keeps its announcement, with no entry in CONFLICT: its record is
stored, the level it announces and its record are taken, and the blocks that read its source are notified
(R62, R70, R71, R73). -/
theorem takeChecked_state {s : State} {f : Frame} {c : Common} {id : Identity}
    (hcls : f.payload.cls = .state) (hcommon : f.payload.common = some c)
    (hsource : f.source < s.peers.length) (hid : c.identity = id) (hdigest : c.digest = s.prof.digest)
    (hfresh : (s.entry f.source).freshness = .fresh)
    (hann : (s.entry f.source).announcement = some id) (hown : id ≠ s.conf.identity)
    (hheld : s.heldElsewhere f.source id = false) (hnone : ∀ p ∈ s.peers, p.freshness ≠ .conflict) :
    s.takeChecked f = (((((s.passState f).setEntry f.source
      (fun e => (renewed f s.unitTime e).store f.payload)).takeAnnounced f.source c.level).takeRecord
        f).deliver f).noticeChanges (s.passState f).peers [id, id] := by
  set x := s.passState f with hx
  have peers : x.peers = _ := passState_peers f s
  have length : f.source < x.peers.length := by
    rw [peers, setEntry_peers_length]
    exact hsource
  have entry : x.entry f.source = { s.entry f.source with
      stateSeq := (s.entry f.source).stateSeq.set (f.payload.kind.code - 9) (some f.seq) } :=
    (congrArg (·.getD f.source PeerEntry.reset) peers).trans (entry_setEntry hsource _)
  have unchanged := passState_touches f s
  have unconflicted : ∀ p ∈ x.peers, p.freshness ≠ .conflict := fun p hp => by
    rw [peers] at hp
    rcases mem_modify hp with hp | ⟨q, hq, rfl⟩
    · exact hnone p hp
    · exact hnone q hq
  have held : x.heldElsewhere f.source id = false := by
    rw [heldElsewhere_congr peers, heldElsewhere_setEntry]
    exact hheld
  have announced : (renewed f x.unitTime (x.entry f.source)).announcement = some id ∧
      (renewed f x.unitTime (x.entry f.source)).digest = some x.prof.digest := by
    unfold renewed
    rw [hcommon, unchanged.prof_eq (by decide), ← hdigest, ← hid]
    exact ⟨rfl, rfl⟩
  have steady : x.freshnessOf f.source (renewed f x.unitTime (x.entry f.source)) =
      (x.entry f.source).freshness := by
    rw [freshnessOf_fresh announced.1 (by rw [unchanged.conf_eq]; exact hown) held announced.2, entry]
    exact hfresh.symm
  have stored : storedIdentities f (x.entry f.source) = [id, id] := by
    unfold storedIdentities
    rw [hcommon, entry]
    dsimp only
    rw [hann, hid]
    rfl
  have time : x.unitTime = s.unitTime := by rw [State.unitTime, unchanged.clock_eq]; rfl
  have brake (y : State) : y.passBrake f = y.takeAnnounced f.source c.level := by
    unfold State.passBrake
    cases hp : f.payload <;> simp_all [Payload.common]
  have checked : s.takeChecked f = x.applyFrame f := by
    unfold State.takeChecked
    rw [hcls]
  rw [checked, applyFrame_steady length unconflicted steady, stored, brake, time]

theorem deliver_of_state {f : Frame} (h : f.payload.cls = .state) (s : State) : s.deliver f = s := by
  unfold State.deliver
  dsimp only
  split <;> first
    | rfl
    | next hp =>
      rw [hp] at h
      exact nomatch h

/-- The blocks that read a source are notified once of its record, where no freshness has changed (R73). -/
theorem noticeChanges_stored {s : State} {before : List PeerEntry} (id : Identity)
    (h : s.peers.map (·.freshness) = before.map (·.freshness)) :
    s.noticeChanges before [id, id] = s.notice id := by
  rw [noticeChanges_of_freshness h]
  have once : [id, id].eraseDups = [id] := by
    simp [List.eraseDups_cons]
  rw [once]
  rfl

theorem entry_congr {s t : State} (h : t.peers = s.peers) (a : Nat) : t.entry a = s.entry a :=
  congrArg (·.getD a PeerEntry.reset) h

theorem passState_entry {f : Frame} {s : State} (h : f.source < s.peers.length) :
    (s.passState f).entry f.source = { s.entry f.source with
      stateSeq := (s.entry f.source).stateSeq.set (f.payload.kind.code - 9) (some f.seq) } :=
  (entry_congr (passState_peers f s) _).trans (entry_setEntry h _)

/-- The state in which a STATE frame has renewed the entry of its source and its level is taken. -/
def State.heard (f : Frame) (c : Common) (s : State) : State :=
  ((s.passState f).setEntry f.source
    (fun e => (renewed f s.unitTime e).store f.payload)).takeAnnounced f.source c.level

theorem heard_peers (f : Frame) (c : Common) (s : State) : (s.heard f c).peers =
    ((s.passState f).setEntry f.source (fun e => (renewed f s.unitTime e).store f.payload)).peers :=
  (takeAnnounced_touches _ _ _).peers_eq

theorem heard_entry {s : State} {f : Frame} {c : Common} (hcommon : f.payload.common = some c)
    (hsource : f.source < s.peers.length) :
    ((s.heard f c).entry f.source).freshness = (s.entry f.source).freshness ∧
      ((s.heard f c).entry f.source).announcement = some c.identity := by
  have source : f.source < (s.passState f).peers.length := by
    rw [passState_peers, setEntry_peers_length]
    exact hsource
  have entry := (entry_congr (heard_peers f c s) f.source).trans (entry_setEntry source _)
  rw [entry, store_freshness, renewed_freshness, passState_entry hsource]
  refine ⟨rfl, ?_⟩
  have announced (e : PeerEntry) (p : Payload) : (e.store p).announcement = e.announcement := by
    cases p <;> rfl
  rw [announced, renewed, hcommon]

/-- A STATE frame of a FRESH source, once its record has been taken, notifies the blocks that read its
source (R73). -/
theorem takeChecked_notice {s z : State} {f : Frame} {c : Common} {id : Identity}
    (hcls : f.payload.cls = .state) (hcommon : f.payload.common = some c)
    (hsource : f.source < s.peers.length) (hid : c.identity = id) (hdigest : c.digest = s.prof.digest)
    (hfresh : (s.entry f.source).freshness = .fresh)
    (hann : (s.entry f.source).announcement = some id) (hown : id ≠ s.conf.identity)
    (hheld : s.heldElsewhere f.source id = false) (hnone : ∀ p ∈ s.peers, p.freshness ≠ .conflict)
    (hrecord : (s.heard f c).takeRecord f = z) (hpeers : z.peers = (s.heard f c).peers) :
    s.takeChecked f = z.notice id := by
  have checked := takeChecked_state hcls hcommon hsource hid hdigest hfresh hann hown hheld hnone
  rw [checked]
  show (((s.heard f c).takeRecord f).deliver f).noticeChanges _ _ = _
  rw [deliver_of_state hcls, hrecord]
  refine noticeChanges_stored id ?_
  rw [hpeers, heard_peers]
  exact setEntry_freshness fun e => (store_freshness _ _).trans (renewed_freshness _ _ _)

theorem takeRecord_motion {s : State} {f : Frame} {c : Common} {m : Motion} (hrole : s.role = .car)
    (hann : (s.entry f.source).announcement = some .drive)
    (hfresh : (s.entry f.source).freshness = .fresh) (hp : f.payload = .motion c m) :
    s.takeRecord f = s.takeDriveMotion m := by
  unfold State.takeRecord
  dsimp only
  rw [hrole, hann, hp, hfresh]
  rfl

/-! ## The DRIVE's MOTION and the lock at a car (O47) -/

theorem identity_of_car {s : State} (h : s.role = .car) : Identity.drive ≠ s.conf.identity := by
  intro e
  unfold State.role UnitConfig.role at h
  rw [← e] at h
  exact absurd h (by decide)

theorem isDeparture_iff (st : Haulage) : isDeparture st = true ↔
    st ∈ [Haulage.doorClosing, .readyCheck, .releasing, .running, .recovery, .parked] := by
  cases st <;> decide

theorem takeEvacuation_accepted {s : State} {side : DoorSide}
    (h : s.evacuationResult side = .accepted) :
    s.takeEvacuation side = (s.mapSides (fun d c =>
      if namesSide side d && !(c.state == .released) then { c with state := .evacuation }
      else c)).enqueue (.evacuationReply s.conf.car side .accepted) := by
  unfold State.takeEvacuation
  rw [h]

theorem takeEvacuation_refused {s : State} {side : DoorSide}
    (h : s.evacuationResult side ≠ .accepted) :
    s.takeEvacuation side = (s.enqueue (.evacuationReply s.conf.car side
      (s.evacuationResult side))).bump .evacuationRefusals := by
  unfold State.takeEvacuation
  split
  · next ha => exact absurd ha h
  · rfl

/-- The DRIVE or CAR has stood for 5,000 ms (R151). -/
def State.hasStood (s : State) : Prop :=
  s.meas.standstill = true ∧ ∃ x, s.door.standstillTime = some x ∧ 5000 ≤ s.elapsed x

/-- The four tests of Table 8-6 all pass. -/
theorem evacuationResult_accepted_iff (s : State) (side : DoorSide) :
    s.evacuationResult side = .accepted ↔ 2 ≤ s.brake.effective ∧ s.hasStood ∧
      s.meas.known = true ∧
      s.conf.evacuationPermitted (s.ownTrack - ((s.k .halfLength : Int) + s.meas.u))
        (s.ownTrack + ((s.k .halfLength : Int) + s.meas.u)) side = true := by
  have stood : (s.meas.standstill && (match s.door.standstillTime with
      | some t => decide (5000 ≤ s.elapsed t)
      | none => false)) = true ↔ s.hasStood := by
    unfold State.hasStood
    cases s.door.standstillTime <;> simp
  unfold State.evacuationResult
  dsimp only
  rw [← stood]
  by_cases hlevel : s.brake.effective < 2
  · rw [if_pos hlevel]
    exact ⟨nofun, fun h => absurd h.1 (by omega)⟩
  rw [if_neg hlevel]
  have braked : 2 ≤ s.brake.effective := by omega
  generalize (s.meas.standstill && _) = stands
  generalize s.conf.evacuationPermitted _ _ side = permitted
  cases stands <;> cases s.meas.known <;> cases permitted <;> simp [braked]

/-- A change of a door locked input at a car at standstill judges the locks alone (R148, R150). -/
theorem doorLockedChange_still {s : State} (hlaw : BrakeLaw s) (hstill : s.meas.standstill = true) :
    s.doorLockedChange = s.lockClosing.setDoor ({ · with openMoving := false }) := by
  have still : s.lockClosing.meas.standstill = true :=
    (lockClosing_touches s).standstill_eq.trans hstill
  have judged : s.lockClosing.judgeOpenMoving = s.lockClosing.setDoor ({ · with openMoving := false }) := by
    unfold State.judgeOpenMoving
    rw [still]
    rfl
  have law : BrakeLaw (s.lockClosing.setDoor ({ · with openMoving := false })) :=
    hlaw.of_touches ((lockClosing_touches s).comp (setDoor_touches _ _)) (by decide)
  unfold State.doorLockedChange
  rw [judged, judgeRise_of_law law]

theorem inputChanged_doorLocked {s : State} {i : Nat} (hrole : s.role = .car) (hi : i = 0 ∨ i = 1)
    (active : Bool) : s.inputChanged i active = s.doorLockedChange := by
  unfold State.inputChanged
  rw [hrole]
  rcases hi with rfl | rfl <;> rfl

theorem evacuated_state (side : DoorSide) (d : Side) (c : DoorSideContext) :
    (if namesSide side d && !(c.state == .released) then { c with state := .evacuation }
      else c : DoorSideContext).state =
      if namesSide side d = true ∧ c.state ≠ .released then .evacuation else c.state := by
  cases namesSide side d <;> by_cases h : c.state = .released <;> simp [h]

/-! What keeps the last state that the DRIVE has shown. -/

theorem lockClosing_lastDriveState (s : State) :
    s.lockClosing.door.lastDriveState = s.door.lastDriveState := by
  unfold State.lockClosing State.withdrawLocked
  dsimp only
  split
  · rfl
  · split
    · simp only [State.setDoor_door, State.mapSides, carWithdraw_door]
      rfl
    · rfl

theorem judgeRequest_lastDriveState (s : State) :
    s.judgeRequest.door.lastDriveState = s.door.lastDriveState := by
  unfold State.judgeRequest
  split
  · rfl
  · split
    · split
      · rw [startRequest_eq, enqueue_door]
        rfl
      · rfl
    · rfl

theorem doorDriveMotion_lastDriveState (st : Haulage) (s : State) :
    (s.doorDriveMotion st).door.lastDriveState = some st := by
  unfold State.doorDriveMotion
  dsimp only
  split
  · exact lockClosing_lastDriveState _
  · rfl

/-- Settles O47. -/
theorem evacuationJudged : Obligations.EvacuationJudged := by
  refine ⟨fun s st => ?_, fun s => ?_, fun dt i s hrun hrole hi hlaw hstill hdue => ?_,
    fun dt s f rest c m hrun hrole hrx hpayload hsource hid hdigest hfresh hann hheld hnone => ?_,
    fun s side => ?_⟩
  · intro t departs armed closed
    refine ⟨fun hstays => if_neg (fun h => hstays ((isDeparture_iff st).mp h)), fun hdeparts => ?_⟩
    exact if_pos ((isDeparture_iff st).mpr hdeparts)
  · intro t locked left right owed waits
    have sides : t = (s.setDoor (fun d => { d with
        left := s.lockedSide .left d.left, right := s.lockedSide .right d.right })).withdrawLocked :=
      congrArg State.withdrawLocked (lockSides_eq s)
    refine ⟨fun hrests => sides.trans (withdrawLocked_waits hrests), fun howed hwaits => ?_⟩
    have withdraws := sides.trans (withdrawLocked_withdraws howed hwaits)
    set x := s.setDoor (fun d => { d with
      left := s.lockedSide .left d.left, right := s.lockedSide .right d.right }) with hx
    by_cases hboth : ∃ b g, s.door.stopBerth = some b ∧ s.door.grantId = some g
    · obtain ⟨b, g, hb, hg⟩ := hboth
      rw [show x.door.stopBerth = some b from hb, show x.door.grantId = some g from hg] at withdraws
      dsimp only at withdraws
      have door := carWithdraw_door b g .departure x
      have meas := carWithdraw_meas b g .departure x
      have queued := carWithdraw_queued b g .departure (s := x)
      have ht : t = _ := withdraws
      rw [ht]
      generalize x.carWithdraw b g .departure = y at door meas queued
      refine ⟨?_, meas, fun b' g' hb' hg' => ?_⟩
      · show ({ y.door with
          left := { y.door.left with withdrawAtLock := false }
          right := { y.door.right with withdrawAtLock := false }, grantId := none } : DoorBlock) =
            { s.door with
              left := { left with withdrawAtLock := false }
              right := { right with withdrawAtLock := false }, grantId := none
              recentWithdraw := y.door.recentWithdraw }
        rw [door]
        rfl
      · cases hb.symm.trans hb'
        cases hg.symm.trans hg'
        refine ⟨?_, queued⟩
        show _ ∈ y.door.recentWithdraw
        rw [door]
        exact List.mem_cons_self ..
    · have ht : t = (x.mapSides (fun _ c => { c with withdrawAtLock := false })).setDoor
          ({ · with grantId := none }) := by
        rw [withdraws]
        split
        · next b g hb hg => exact absurd ⟨b, g, hb, hg⟩ hboth
        · rfl
      rw [ht]
      exact ⟨rfl, rfl, fun b g hb hg => absurd ⟨b, g, hb, hg⟩ hboth⟩
  · intro n
    have runs : after (.debounceTimerExpiry dt i) s = (s.advance dt).debounce i :=
      if_pos (Bool.and_eq_true_iff.mpr ⟨hrun, hdue⟩)
    refine exec_settledFrom rfl (runs.trans ?_)
    rw [debounce_eq, inputChanged_doorLocked (s := (s.advance dt).takeLevel i) hrole hi]
    exact doorLockedChange_still (s := n) (hlaw.of_brake rfl) hstill
  · intro n heard
    obtain ⟨t, hexec, ht⟩ := exec_takeFrame (dt := dt) hrun hrx
      (fun h => absurd (hrole.symm.trans h) (by decide))
    have entry := heard_entry (s := n.taken rest) (f := f) (c := c) (by rw [hpayload]; rfl) hsource
    have level := takeAnnounced_touches f.source c.level
      (((n.taken rest).passState f).setEntry f.source
        (fun e => (renewed f (n.taken rest).unitTime e).store f.payload))
    have role : ((n.taken rest).heard f c).role = .car :=
      level.role_eq.trans ((passState_touches f (n.taken rest)).role_eq.trans hrole)
    have checked := takeChecked_notice (s := n.taken rest) (f := f) (id := .drive)
      (by rw [hpayload]; rfl) (by rw [hpayload]; rfl) hsource hid hdigest hfresh hann
      (identity_of_car hrole) hheld hnone
      (takeRecord_motion role (by rw [entry.2, hid]) (by rw [entry.1]; exact hfresh) hpayload)
      (takeDriveMotion_touches m _).peers_eq
    have stored : (n.taken rest).heard f c = heard.takeAnnounced f.source c.level := by
      refine congrArg (State.takeAnnounced f.source c.level) (setEntry_congr ?_)
      rw [passState_entry (s := n.taken rest) hsource, hpayload]
      unfold renewed
      rw [hpayload]
      dsimp only [Payload.common, PeerEntry.store]
      rw [hid, ← show ((n.taken rest).entry f.source).announcement = some .drive from hann]
      rfl
    have noticed : ((heard.takeAnnounced f.source c.level).takeDriveMotion m).notice .drive =
        ((heard.takeAnnounced f.source c.level).takeDriveMotion m).judgeRequest.lockClosing := by
      rw [stored] at role
      unfold State.notice
      rw [(takeDriveMotion_touches m _).role_eq, role]
      rfl
    rw [checked, stored, noticed] at ht
    refine ⟨t, hexec, ht, fun st hst => ?_⟩
    have door := ht.touches.door_eq (by decide)
    rw [door, lockClosing_lastDriveState, judgeRequest_lastDriveState]
    unfold State.takeDriveMotion
    rw [hst]
    exact doorDriveMotion_lastDriveState st _
  · intro t reach permitted stood
    have accepted_iff := evacuationResult_accepted_iff s side
    refine ⟨fun hlevel hstood hknown hpermitted => ?_, fun hfails => ?_, fun hop hlen => ?_⟩
    · have ht : t = _ := takeEvacuation_accepted
        (accepted_iff.mpr ⟨hlevel, hstood, hknown, hpermitted⟩)
      rw [ht, enqueue_door]
      exact ⟨evacuated_state side .left s.door.left, evacuated_state side .right s.door.right⟩
    · have ht : t = _ := takeEvacuation_refused (mt accepted_iff.mp hfails)
      rw [ht, State.bump_door, enqueue_door]
      exact ⟨rfl, enqueue_bump_count _ s (by decide)⟩
    · have takes := takesControl_of_operating hop hlen
      by_cases h : s.evacuationResult side = .accepted
      · rw [show t = _ from takeEvacuation_accepted h, h]
        exact enqueue_takes (s := s.mapSides _) takes rfl
      · rw [show t = _ from takeEvacuation_refused h]
        exact enqueue_takes takes rfl

end Sys2Proof.Machine
end


section
/-! # Boarding cycles and tickets of a gate (O51, O52) -/

namespace Sys2Proof.Machine

open Sys2Proof

/-! ## A cycle opens (R158) -/

theorem takeRecord_loadReport {s : State} {f : Frame} {k : Common} {c : CarId} {l : LoadReport}
    (hrole : s.role = .gate) (hann : (s.entry f.source).announcement = some (.car c))
    (hfresh : (s.entry f.source).freshness = .fresh) (hp : f.payload = .loadReport k l) :
    s.takeRecord f = s.judgeLoadReport c l := by
  unfold State.takeRecord
  dsimp only
  rw [hrole, hann, hp, hfresh]
  rfl

theorem notice_gate_role {s : State} (h : s.role = .gate) (id : Identity) : s.notice id = s := by
  unfold State.notice
  rw [h]

theorem identity_of_gate {s : State} (h : s.role = .gate) (c : CarId) :
    Identity.car c ≠ s.conf.identity := by
  intro e
  unfold State.role UnitConfig.role at h
  rw [← e] at h
  exact absurd h (by cases c <;> decide)

/-- A LOAD REPORT that names a cycle of this berth not held is judged by what has been seen of the car. -/
theorem judgeLoadReport_of_opening {s : State} {c : CarId} {l : LoadReport} {o : Opening}
    (ho : l.opening = some o) (hberth : o.berth = s.conf.ownBerth)
    (hnew : s.gate.cycle.ref ≠ some { car := c, id := o.cycleId }) :
    s.judgeLoadReport c l = (if (s.carFlags c).seenClear = true then s.openCycle c o
      else s.bump .unopenedCycles).setCarFlags c (fun f => { f with doubt := false }) := by
  unfold State.judgeLoadReport
  rw [ho]
  dsimp only
  rw [if_pos hberth, if_neg hnew]

theorem setCarFlags_cycle (c : CarId) (f : CarFlags → CarFlags) (s : State) :
    (s.setCarFlags c f).gate.cycle = s.gate.cycle := by
  cases c <;> rfl

/-- A cycle that opens is held (R158). -/
theorem openCycle_ref (c : CarId) (o : Opening) (s : State) :
    (s.openCycle c o).gate.cycle.ref = some { car := c, id := o.cycleId } := by
  have state : (s.openCycle c o).gate.cycle.state =
      if 2 ≤ s.brake.effective then .suspended else .open_ := rfl
  unfold BoardingCycle.ref
  rw [state]
  split <;> rfl

theorem openCycle_counts (c : CarId) (o : Opening) (s : State) :
    ((s.openCycle c o).setCarFlags c (fun f => { f with doubt := false })).counts =
      (s.bump .openings).counts := by
  cases c <;> rfl

/-- Settles O52. -/
theorem cycleOpens : Obligations.CycleOpens := by
  refine ⟨fun dt s f rest k l c hrun hrole hticket hrx hpayload hsource hid hdigest hfresh hann hheld
    hnone => ?_, fun s c l o ho hberth hnew => ?_⟩
  · intro n heard
    obtain ⟨t, hexec, ht⟩ := exec_takeFrame (dt := dt) hrun hrx (fun _ => hticket)
    have entry := heard_entry (s := n.taken rest) (f := f) (c := k) (by rw [hpayload]; rfl) hsource
    have role : ((n.taken rest).heard f k).role = .gate :=
      (takeAnnounced_touches _ _ _).role_eq.trans
        ((passState_touches f (n.taken rest)).role_eq.trans hrole)
    have judged := judgeLoadReport_touches c l ((n.taken rest).heard f k)
    have checked := takeChecked_notice (s := n.taken rest) (f := f) (id := .car c)
      (by rw [hpayload]; rfl) (by rw [hpayload]; rfl) hsource hid hdigest hfresh hann
      (identity_of_gate hrole c) hheld hnone
      (takeRecord_loadReport role (by rw [entry.2, hid]) (by rw [entry.1]; exact hfresh) hpayload)
      judged.peers_eq
    have stored : (n.taken rest).heard f k = heard.takeAnnounced f.source k.level := by
      refine congrArg (State.takeAnnounced f.source k.level) (setEntry_congr ?_)
      rw [passState_entry (s := n.taken rest) hsource, hpayload]
      unfold renewed
      rw [hpayload]
      dsimp only [Payload.common, PeerEntry.store]
      rw [hid, ← show ((n.taken rest).entry f.source).announcement = some (.car c) from hann]
      rfl
    rw [checked, notice_gate_role (judged.role_eq.trans role), stored] at ht
    exact ⟨t, hexec, ht⟩
  · intro t
    have judged : t = _ := judgeLoadReport_of_opening ho hberth hnew
    refine ⟨fun hclear => ?_, fun hunclear => ?_⟩
    · rw [if_pos hclear] at judged
      rw [judged]
      have certain : ∀ g ∈ List.replicate 8 (OtherGate.mk 0 !(s.carFlags c).doubt),
          g.heard = 0 ∧ g.certain = !(s.carFlags c).doubt := fun g hg => by
        rw [(List.mem_replicate.mp hg).2]
        exact ⟨rfl, rfl⟩
      refine ⟨?_, ?_, ?_, ?_, ?_, ?_, ?_, ?_, ?_, ?_, ?_, ?_⟩
      case refine_2 =>
        rw [setCarFlags_cycle]
        exact openCycle_ref c o s
      case refine_8 =>
        rw [setCarFlags_cycle]
        exact certain
      case refine_12 => exact count_congr (openCycle_counts c o s) _
      all_goals cases c <;> rfl
    · rw [if_neg (ne_true_of_eq_false hunclear)] at judged
      rw [judged]
      cases c <;> exact ⟨rfl, rfl⟩

/-! ## A ticket presented (R155, R161 to R165, R179) -/

theorem readTicket_mark {l : List Byte} {x : Ticket} (h : readTicket l = some x) :
    l.head? = some readerMark := by
  unfold readTicket at h
  split at h
  · split at h
    · next hmark => exact congrArg some hmark.1
    · exact nomatch h
  · exact nomatch h

/-- The characters that complete a record deliver it. -/
theorem foldl_readerChar {cs : List ReaderChar} {s : State} {pre : List Byte}
    (hpre : s.term.assembling = pre) (hne : pre ≠ []) (hcs : cs ≠ [])
    (hlen : pre.length + cs.length = 10) (hclock : s.term.lastChar = s.clock)
    (hstop : ∀ c ∈ cs, c.stopOk = true) :
    cs.foldl (fun t c => t.readerChar c) s =
      (s.setAssembling []).deliverRecord (pre ++ cs.map (·.value)) := by
  induction cs generalizing s pre with
  | nil => exact absurd rfl hcs
  | cons c cs ih =>
    have joins : s.readerChar c = s.joinChar c := by
      unfold State.readerChar State.gapExceeded readerGap
      rw [hpre, hstop c (List.mem_cons_self ..), hclock]
      simp [hne]
    rw [List.length_cons] at hlen
    rw [List.foldl_cons, joins, State.joinChar, hpre, List.length_append, List.length_singleton]
    cases hrest : cs with
    | nil =>
      rw [hrest] at hlen
      rw [if_neg (by simp at hlen; omega)]
      rfl
    | cons d ds =>
      rw [← hrest]
      have more : 0 < cs.length := by rw [hrest]; exact Nat.succ_pos _
      rw [if_pos (by omega), ih (s := s.setAssembling (pre ++ [c.value])) (pre := pre ++ [c.value]) rfl
        (by simp) (by rw [hrest]; simp) (by simp; omega) rfl
        (fun e he => hstop e (List.mem_cons_of_mem _ he))]
      rw [List.map_cons, List.append_assoc]
      rfl

/-- A whole sound record of a well-formed ticket, none being in process and no frame held, is decided. -/
theorem ticketRecord_decides {dt : Nat} {chars : List ReaderChar} {s : State} {x : Ticket}
    (hreads : s.readsReader = true) (hidle : s.term.assembling = []) (hrx : s.bus.rx = [])
    (hticket : s.gate.ticket = .none) (hlen : chars.length = 10)
    (hstop : ∀ c ∈ chars, c.stopOk = true) (hread : readTicket (chars.map (·.value)) = some x) :
    after (.ticketRecord dt chars) s = ((s.advance dt).setAssembling []).firstDecision x := by
  set n := s.advance dt with hn
  obtain ⟨c, cs, rfl⟩ : ∃ c cs, chars = c :: cs := by
    cases chars with
    | nil => exact nomatch hlen
    | cons c cs => exact ⟨c, cs, rfl⟩
  have mark : c.value = readerMark := Option.some.inj (readTicket_mark hread)
  have first : n.readerChar c = n.setAssembling [c.value] :=
    (readerChar_of_idle (s := n) hidle c).trans (if_pos mark)
  have delivered : after (.ticketRecord dt (c :: cs)) s =
      (n.setAssembling []).deliverRecord ((c :: cs).map (·.value)) := by
    refine Eq.trans (if_pos hreads) ?_
    show (c :: cs).foldl (fun t c => t.readerChar c) n = _
    rw [List.foldl_cons, first, foldl_readerChar (s := n.setAssembling [c.value])
      (pre := [c.value]) rfl (by simp) (by rintro rfl; simp at hlen) (by simpa [Nat.add_comm] using hlen)
      rfl (fun e he => hstop e (List.mem_cons_of_mem _ he))]
    rfl
  have empty : (n.setAssembling []).takeAll = n.setAssembling [] := by
    unfold State.takeAll
    rw [show (n.setAssembling []).bus.rx = [] from hrx]
    rfl
  rw [delivered, State.deliverRecord, hread]
  show State.present x _ = _
  unfold State.present
  rw [show (n.setAssembling []).gate.ticket = .none from hticket]
  show State.firstDecision x (n.setAssembling []).takeAll = _
  rw [empty]

theorem ownRefusal_ne_accept {s : State} {x : Ticket} {r : Reply} (h : s.ownRefusal x = some r) :
    r ≠ .accept := by
  rintro rfl
  unfold State.ownRefusal at h
  dsimp only at h
  split at h
  · exact nomatch h
  · exact nomatch h
  · exact nomatch h
  · split at h
    · exact nomatch h
    · split at h
      · exact nomatch h
      · split at h <;> exact nomatch h

/-- A reply other than ACCEPT is sent, and lights the red indicator (R156). -/
theorem reply_gate {r : Reply} (h : r ≠ .accept) (s : State) :
    (s.reply r).gate = { s.gate with redDue := some (s.after (s.k .holdTime)) } ∧
      (s.reply r).term = { s.term with replies := s.term.replies ++ [r] } := by
  cases r <;> first | exact absurd rfl h | exact ⟨rfl, rfl⟩

theorem setTicket_self {s : State} {x : TicketState} (h : s.gate.ticket = x) :
    s.setTicket x = s := by
  rw [← h]
  rfl

/-- Settles O51, by the branch of the first decision that each clause names. -/
theorem ticketPresented : Obligations.TicketPresented := by
  intro dt chars s x hreads hidle hrx hticket hlen hstop hread n red answered
  have decides : after (.ticketRecord dt chars) s = n.firstDecision x :=
    ticketRecord_decides hreads hidle hrx hticket hlen hstop hread
  have decision : n.firstDecision x = match s.ownRefusal x with
      | some r => n.settleTicket r
      | none =>
          if s.mustHold x then n.setTicket (.held x (n.after (n.k .holdTime)))
          else if s.fitsBudget x then n.admitTicket x
          else n.settleTicket .full := rfl
  have settles : ∀ r, n.settleTicket r = n.reply r := fun r =>
    congrArg (State.reply r) (setTicket_self (s := n) hticket)
  refine ⟨fun r hr => ?_, fun hnone hmust => ?_, fun hnone hneed hfits => ?_,
    fun hnone hneed hfull => ?_⟩
  · rw [hr] at decision
    obtain ⟨t, hexec, ht⟩ := exec_settledFrom rfl (decides.trans (decision.trans (settles r)))
    obtain ⟨gate, term⟩ := reply_gate (ownRefusal_ne_accept hr) n
    refine ⟨t, hexec, ht.gate_eq.trans gate, ?_, ht.meas_eq.trans ?_, ht.effective_eq.trans ?_⟩
    · rw [ht.replies_eq, term]
      rfl
    · cases r <;> rfl
    · cases r <;> rfl
  · rw [hnone, hmust] at decision
    exact exec_settledFrom rfl (decides.trans (decision.trans rfl))
  · have fits : s.fitsBudget x = true := decide_eq_true hfits
    rw [hnone, hneed, fits] at decision
    exact exec_settledFrom rfl (decides.trans (decision.trans rfl))
  · have full : s.fitsBudget x = false := decide_eq_false (Nat.not_le.mpr hfull)
    rw [hnone, hneed, full] at decision
    exact exec_settledFrom rfl (decides.trans (decision.trans ((settles .full).trans rfl)))

end Sys2Proof.Machine
end


section
/-! # What TAKE_FRAME applies (O35) -/

namespace Sys2Proof.Machine

open Sys2Proof

/-! ## The entries through the parts of a frame taken -/

theorem route_peers {source : Nat} {id : Identity} {effect : State → State} {s : State}
    (h : (effect s).peers = s.peers) : (s.route source id effect).peers = s.peers := by
  unfold State.route
  split
  · exact h
  · rfl

theorem routeWithdrawal_peers (source b : Nat) (c : CarId) (g : Nat) (r : WithdrawReason) (s : State) :
    (s.routeWithdrawal source b c g r).peers = s.peers := by
  unfold State.routeWithdrawal
  dsimp only
  split
  · split
    · exact route_peers (takeCarWithdrawal_touches _ _ _ s).peers_eq
    · rfl
  · split
    · exact route_peers (takeBerthWithdrawal_touches _ _ s).peers_eq
    · rfl
  · split <;> rfl

theorem deliver_peers (f : Frame) (s : State) : (s.deliver f).peers = s.peers := by
  have addressed (c : Bool) (id : Identity) {effect : State → State} (h : (effect s).peers = s.peers) :
      (if c then s.route f.source id effect else s).peers = s.peers := by
    split
    · exact route_peers h
    · rfl
  unfold State.deliver
  dsimp only
  split
  · exact route_peers (judgeReset_touches _ s).peers_eq
  · exact addressed _ _ (takeNotice_touches _ s).peers_eq
  · exact addressed _ _ (takeEvacuation_touches _ s).peers_eq
  · exact addressed _ _ (recordReply_touches _ _ _ s).peers_eq
  · exact addressed _ _ (takeRequest_touches _ _ _ s).peers_eq
  · exact addressed _ _ (takeGrant_touches _ _ _ _ s).peers_eq
  · exact addressed _ _ (takeRefusal_touches _ _ _ s).peers_eq
  · exact routeWithdrawal_peers _ _ _ _ _ s
  · rfl

theorem takeRecord_peers (f : Frame) (s : State) : (s.takeRecord f).peers = s.peers := by
  unfold State.takeRecord
  dsimp only
  split
  · split
    · exact (takeDriveMotion_touches _ s).peers_eq
    · rfl
  · split
    · exact (judgeLoadReport_touches _ _ s).peers_eq
    · rfl
  · exact (judgeDoorState_touches _ _ _ s).peers_eq
  · split
    · exact (takeAdmission_touches _ _ s).peers_eq
    · rfl
  · rfl

/-- The state in which the record of a frame is stored, before any block has acted on it. -/
def State.recorded (f : Frame) (s : State) : State :=
  (s.renewEntry f).setEntry f.source (·.store f.payload)

theorem recorded_touches (f : Frame) (s : State) : Touches [.peers, .counts] s (s.recorded f) :=
  ((renewEntry_touches f s).comp (setEntry_touches _ _ _)).mono (by decide)

theorem applyFrame_eq (f : Frame) (s : State) : s.applyFrame f =
    ((((s.recorded f).passBrake f).takeRecord f).deliver f).noticeChanges s.peers
      (storedIdentities f (s.entry f.source)) := rfl

theorem applyFrame_peers (f : Frame) (s : State) : (s.applyFrame f).peers = (s.recorded f).peers :=
  (noticeChanges_touches _ _ _).peers_eq.trans ((deliver_peers f _).trans ((takeRecord_peers f _).trans
    (passBrake_touches f _).peers_eq))

theorem spreadConflict_peers_length (a : Nat) (s : State) :
    (s.spreadConflict a).peers.length = s.peers.length := by
  unfold State.spreadConflict
  split
  · exact List.length_map _
  · rfl

theorem endConflicts_peers_length (s : State) : s.endConflicts.peers.length = s.peers.length :=
  (List.length_map _).trans List.length_zipIdx

theorem renewEntry_peers_length (f : Frame) (s : State) :
    (s.renewEntry f).peers.length = s.peers.length := by
  rw [renewEntry_eq, (countEntered_touches s.peers _).peers_eq, endConflicts_peers_length,
    spreadConflict_peers_length, setEntry_peers_length, setEntry_peers_length]

/-- The entry of the source of a frame that is recorded. -/
theorem recorded_entry {s : State} {f : Frame} (h : f.source < s.peers.length) :
    ∃ fr rejoins, (s.recorded f).entry f.source =
        ({ renewed f s.unitTime (s.entry f.source) with
          freshness := fr, rejoins := rejoins } : PeerEntry).store f.payload ∧
      (s.freshnessOf f.source (renewed f s.unitTime (s.entry f.source)) = .fresh → fr = .fresh) := by
  obtain ⟨fr, rejoins, entry, fresh⟩ := renewEntry_entry h
  have length : f.source < (s.renewEntry f).peers.length := by
    rw [renewEntry_peers_length]
    exact h
  exact ⟨fr, rejoins, by rw [State.recorded, entry_setEntry length, entry], fresh⟩

theorem store_announced (e : PeerEntry) (p : Payload) :
    (e.store p).announcement = e.announcement ∧ (e.store p).digest = e.digest ∧
      (e.store p).age = e.age ∧ (e.store p).rejoins = e.rejoins := by
  cases p <;> exact ⟨rfl, rfl, rfl, rfl⟩

theorem store_level (e : PeerEntry) {p : Payload} {c : Common} (h : p.common = some c) :
    (e.store p).level = some c.level := by
  cases p <;> first
    | exact congrArg (fun x => some x.level) (Option.some.inj h)
    | exact nomatch h

theorem cls_of_common {p : Payload} {c : Common} (h : p.common = some c) : p.cls = .state := by
  cases p <;> first
    | rfl
    | exact nomatch h

/-! ## Counts through the notices at a CAR -/

namespace KeepsCounts

variable {s : State}

theorem judgeRequest (s : State) : KeepsCounts s s.judgeRequest := by
  unfold State.judgeRequest
  split
  · exact of_counts rfl
  · split
    · split
      · rw [startRequest_eq]
        exact (of_counts rfl : KeepsCounts s (s.requestSides _)).trans (enqueue _ _)
      · exact of_counts rfl
    · exact of_counts rfl

theorem judgeConfirm (s : State) : KeepsCounts s s.judgeConfirm := by
  unfold State.judgeConfirm
  split <;> exact of_counts rfl

theorem judgeHold (s : State) : KeepsCounts s s.judgeHold := by
  unfold State.judgeHold
  split
  · split
    · split
      · exact (of_counts rfl : KeepsCounts s s.dropRelease).trans (carWithdraw _ _ _ _)
      · exact of_counts rfl
    · exact of_counts rfl
  · exact of_counts rfl

theorem judgeStanding (s : State) : KeepsCounts s s.judgeStanding := by
  unfold State.judgeStanding
  split
  · split
    · split
      · exact carWithdraw _ _ _ _
      · exact of_counts rfl
    · exact of_counts rfl
  · exact of_counts rfl

/-- A notice of a change of the peer view at a CAR (R73). -/
theorem notice_car (h : s.role = .car) (id : Identity) : KeepsCounts s (s.notice id) := by
  unfold State.notice
  rw [h]
  cases id with
  | drive => exact (judgeRequest s).trans (lockClosing _)
  | berth n =>
    dsimp only
    split
    · exact (((judgeConfirm s).trans (judgeHold _)).trans (judgeStanding _)).trans (lockClosing _)
    · exact of_counts rfl
  | car c => exact of_counts rfl
  | gate b i => exact of_counts rfl

theorem noticeChanges_car (h : s.role = .car) (before : List PeerEntry) (stored : List Identity) :
    KeepsCounts s (s.noticeChanges before stored) := by
  have fold (l : List Identity) (t : State) (ht : t.role = .car) :
      KeepsCounts t (l.foldl (fun t id => t.notice id) t) := by
    induction l generalizing t with
    | nil => exact of_counts rfl
    | cons id l ih =>
      exact (notice_car ht id).trans (ih _ ((notice_touches id t).role_eq.trans ht))
  exact fold _ s h

end KeepsCounts

theorem bumps_count_ne {c d : Count} (h : d ≠ c) (n : Nat) (s : State) :
    (s.bumps c n).count d = s.count d := by
  unfold State.bumps
  induction n generalizing s with
  | zero => rfl
  | succ n ih => exact (ih (s.bump c)).trans (count_bump_ne s h)

theorem recorded_counts_length (f : Frame) (s : State) :
    (s.recorded f).counts.length = s.counts.length := by
  have bumped (c : Count) (n : Nat) (x : State) : (x.bumps c n).counts.length = x.counts.length := by
    unfold State.bumps
    induction n generalizing x with
    | zero => rfl
    | succ n ih => exact (ih (x.bump c)).trans (List.length_modify _ _ _)
  show (s.renewEntry f).counts.length = _
  rw [renewEntry_eq]
  refine (bumped _ _ _).trans ((bumped _ _ _).trans (congrArg List.length ?_))
  exact (((setEntry_touches _ _ s).trans (setEntry_touches _ _ _)).trans
    ((spreadConflict_touches _ _).trans (endConflicts_touches _))).counts_eq

theorem recorded_count {s : State} {f : Frame} {d : Count} (hm : d ≠ .digestMismatches)
    (hr : d ≠ .roleConflicts) : (s.recorded f).count d = s.count d := by
  show (s.renewEntry f).count d = _
  rw [renewEntry_eq]
  refine (bumps_count_ne hr _ _).trans ((bumps_count_ne hm _ _).trans (count_congr ?_ d))
  exact (((setEntry_touches _ _ s).trans (setEntry_touches _ _ _)).trans
    ((spreadConflict_touches _ _).trans (endConflicts_touches _))).counts_eq

/-! ## CONTROL frames (R56, R71, R72) -/

theorem common_of_control {p : Payload} (h : p.cls = .control) : p.common = none := by
  cases p <;> first
    | rfl
    | exact nomatch h

theorem store_of_control {p : Payload} (h : p.cls = .control) (e : PeerEntry) : e.store p = e := by
  cases p <;> first
    | rfl
    | exact nomatch h

theorem renewed_of_control {f : Frame} (h : f.payload.cls = .control) (now : UnitTime) (e : PeerEntry) :
    renewed f now e = { e with age := some now } := by
  unfold renewed
  rw [common_of_control h]

theorem passBrake_of_control {f : Frame} (h : f.payload.cls = .control) (s : State) :
    s.passBrake f = s := by
  unfold State.passBrake
  split
  · next hp =>
    rw [hp] at h
    exact nomatch h
  · rw [common_of_control h]

theorem takeRecord_of_control {f : Frame} (h : f.payload.cls = .control) (s : State) :
    s.takeRecord f = s := by
  unfold State.takeRecord
  dsimp only
  split <;> first
    | rfl
    | next hp =>
      rw [hp] at h
      exact nomatch h

theorem storedIdentities_of_control {f : Frame} (h : f.payload.cls = .control) (e : PeerEntry) :
    storedIdentities f e = [] := by
  unfold storedIdentities
  rw [common_of_control h]

/-- The state in which a CONTROL frame has renewed the age of its source. -/
def State.overheard (f : Frame) (s : State) : State :=
  (s.passControl f).setEntry f.source ({ · with age := some s.unitTime })

theorem overheard_entry {s : State} {f : Frame} (h : f.source < s.peers.length) :
    ((s.overheard f).entry f.source).freshness = (s.entry f.source).freshness ∧
      ((s.overheard f).entry f.source).announcement = (s.entry f.source).announcement := by
  have length : f.source < (s.passControl f).peers.length := by
    rw [State.passControl, setEntry_peers_length]
    exact h
  rw [State.overheard, entry_setEntry length, State.passControl, entry_setEntry h]
  exact ⟨rfl, rfl⟩

/-- The freshness of an entry turns on what it announces and on who else announces it. -/
theorem freshnessOf_setEntry (s : State) (a : Nat) (f : PeerEntry → PeerEntry) {d e : PeerEntry}
    (ha : d.announcement = e.announcement) (hd : d.digest = e.digest) :
    (s.setEntry a f).freshnessOf a d = s.freshnessOf a e := by
  unfold State.freshnessOf State.inConflict State.mismatched
  rw [ha, hd]
  simp only [heldElsewhere_setEntry]
  all_goals rfl

/-- A CONTROL frame that is no duplicate, its source's freshness as before and no entry in CONFLICT, is
delivered and does nothing else (R62, R71). -/
theorem takeChecked_control {s : State} {f : Frame} (hcls : f.payload.cls = .control)
    (hnew : s.duplicate f = false) (hsource : f.source < s.peers.length)
    (hsteady : s.judgeFreshness f.source = (s.entry f.source).freshness)
    (hnone : ∀ p ∈ s.peers, p.freshness ≠ .conflict) :
    s.takeChecked f = (s.overheard f).deliver f := by
  set x := s.passControl f with hx
  have entry : x.entry f.source = _ := entry_setEntry hsource _
  have length : f.source < x.peers.length := by
    rw [hx, State.passControl, setEntry_peers_length]
    exact hsource
  have unconflicted : ∀ p ∈ x.peers, p.freshness ≠ .conflict := fun p hp => by
    rcases mem_modify hp with hp | ⟨q, hq, rfl⟩
    · exact hnone p hp
    · exact hnone q hq
  have steady : x.freshnessOf f.source (renewed f x.unitTime (x.entry f.source)) =
      (x.entry f.source).freshness := by
    rw [renewed_of_control hcls, entry]
    exact (freshnessOf_setEntry s f.source _ rfl rfl).trans hsteady
  have heard : x.setEntry f.source (fun e => (renewed f x.unitTime e).store f.payload) =
      s.overheard f :=
    setEntry_congr ((store_of_control hcls _).trans (renewed_of_control hcls _ _))
  have checked : s.takeChecked f = x.applyFrame f := by
    unfold State.takeChecked
    rw [hcls, hnew]
    rfl
  have freshness : ((s.overheard f).deliver f).peers.map (·.freshness) = x.peers.map (·.freshness) := by
    rw [deliver_peers]
    exact setEntry_freshness fun _ => rfl
  rw [checked, applyFrame_steady length unconflicted steady, heard, passBrake_of_control hcls,
    takeRecord_of_control hcls, storedIdentities_of_control hcls,
    noticeChanges_of_freshness freshness]
  rfl

/-! ## Delivery by the kind of the frame (R72) -/

/-- A frame routed has its effect where its source is FRESH with the identity required, and is else
counted. -/
theorem route_settled {y t : State} {e : PeerEntry} {source : Nat} {required : Identity}
    {effect : State → State} (hf : (y.entry source).freshness = e.freshness)
    (ha : (y.entry source).announcement = e.announcement)
    (ht : SettledFrom (y.route source required effect) t) :
    (e.freshness = .fresh ∧ e.announcement = some required → SettledFrom (effect y) t) ∧
      (¬(e.freshness = .fresh ∧ e.announcement = some required) →
        SettledFrom (y.bump .unroutedFrames) t) := by
  have believed : (y.entry source).believed required = true ↔
      e.freshness = .fresh ∧ e.announcement = some required := by
    unfold PeerEntry.believed
    rw [hf, ha]
    simp
  unfold State.route at ht
  refine ⟨fun h => ?_, fun h => ?_⟩
  · rwa [if_pos (believed.mpr h)] at ht
  · rwa [if_neg (mt believed.mp h)] at ht

/-- A frame that names its unit by a condition is dealt with there, and elsewhere does nothing. -/
theorem addressed_settled {x y t : State} {c : Bool} (ht : SettledFrom (if c then x else y) t) :
    (c = true → SettledFrom x t) ∧ (c = false → SettledFrom y t) := by
  cases c
  · exact ⟨nofun, fun _ => ht⟩
  · exact ⟨fun _ => ht, nofun⟩

theorem addressed_to {a b : Identity} {p q : Prop}
    (h : ((a == b) = true → p) ∧ ((a == b) = false → q)) : (a = b → p) ∧ (a ≠ b → q) :=
  ⟨fun e => h.1 (beq_iff_eq.mpr e), fun e => h.2 (beq_eq_false_iff_ne.mpr e)⟩

/-- A withdrawal from a source that announces a CAR, a BERTH, or neither (R72). -/
theorem withdrawal_settled {y t : State} {e : PeerEntry} {source b g : Nat} {c : CarId}
    {r : WithdrawReason} (hf : (y.entry source).freshness = e.freshness)
    (ha : (y.entry source).announcement = e.announcement)
    (ht : SettledFrom (y.routeWithdrawal source b c g r) t) :
    let own := y.conf.identity
    let routed := fun (required : Identity) (effect : State) =>
      (e.freshness = .fresh ∧ e.announcement = some required → SettledFrom effect t) ∧
      (¬(e.freshness = .fresh ∧ e.announcement = some required) →
        SettledFrom (y.bump .unroutedFrames) t)
    (∀ d, e.announcement = some (.car d) →
      (own = .berth b → routed (.car c) (y.takeCarWithdrawal c g r)) ∧
      (own ≠ .berth b → SettledFrom y t)) ∧
    (∀ d, e.announcement = some (.berth d) →
      (own = .car c → routed (.berth b) (y.takeBerthWithdrawal b g)) ∧
      (own ≠ .car c → SettledFrom y t)) ∧
    ((∀ d, e.announcement ≠ some (.car d)) → (∀ d, e.announcement ≠ some (.berth d)) →
      (own = .berth b ∨ own = .car c → SettledFrom (y.bump .unroutedFrames) t) ∧
      (¬(own = .berth b ∨ own = .car c) → SettledFrom y t)) := by
  intro own routed
  unfold State.routeWithdrawal at ht
  rw [ha] at ht
  refine ⟨fun d hd => ?_, fun d hd => ?_, fun hcar hberth => ?_⟩
  · rw [hd] at ht
    obtain ⟨here, elsewhere⟩ := addressed_to (addressed_settled ht)
    exact ⟨fun h => route_settled hf ha (here h), elsewhere⟩
  · rw [hd] at ht
    obtain ⟨here, elsewhere⟩ := addressed_to (addressed_settled ht)
    exact ⟨fun h => route_settled hf ha (here h), elsewhere⟩
  · have named : (own == .berth b || own == .car c) = true ↔ own = .berth b ∨ own = .car c := by
      simp
    have neither : SettledFrom (if own == .berth b || own == .car c then y.bump .unroutedFrames
        else y) t := by
      split at ht
      · next d hd => exact absurd hd (hcar d)
      · next d hd => exact absurd hd (hberth d)
      · exact ht
    obtain ⟨here, elsewhere⟩ := addressed_settled neither
    exact ⟨fun h => here (named.mpr h), fun h => elsewhere (Bool.eq_false_iff.mpr (mt named.mp h))⟩

/-! ## The rows of the brake block (R70, R104) -/

theorem levelRow_takeOrder {s : State} {addr : Nat} (h : addr < s.brake.rows.length) (level : Nat)
    (c : Cause) (p : Option Nat) (n : Nat) :
    ((s.takeOrder addr level c p n).levelRow addr).order = max (s.levelRow addr).order level := by
  set raised : LevelRow → LevelRow := fun r =>
    if r.order < level then { r with order := level, cause := some c, h := p, number := n } else r
    with hraised
  have rows : (s.takeOrder addr level c p n).brake.rows = s.brake.rows.modify addr raised := by
    unfold State.takeOrder
    refine ((reform_touches _) .rows (by decide)).trans ?_
    have late (x : State) (hx : x.brake.rows = s.brake.rows) :
        (x.setBrake (fun b => { b with rows := b.rows.modify addr raised })).brake.rows =
          s.brake.rows.modify addr raised := congrArg (·.modify addr raised) hx
    refine late _ ?_
    split
    · split <;> rfl
    · rfl
  unfold State.levelRow
  rw [rows, List.getD_eq_getElem?_getD, List.getD_eq_getElem?_getD, List.getElem?_modify,
    List.getElem?_eq_getElem h]
  simp only [if_true, Option.map_some, Option.getD_some, Option.map_eq_map, hraised]
  split
  · simp_all
    omega
  · simp_all

theorem levelRow_congr {s t : State} (h : t.brake.rows = s.brake.rows) (addr : Nat) :
    t.levelRow addr = s.levelRow addr := congrArg (·.getD addr LevelRow.zero) h

/-- The effective level is at least each level received. -/
theorem order_le_effective {s : State} (hlaw : BrakeLaw s) {addr : Nat} (h : addr < 32) :
    (s.levelRow addr).order ≤ s.brake.effective := by
  obtain ⟨-, rows, -, -, formed⟩ := hlaw
  have mem : s.levelRow addr ∈ s.brake.rows := by
    rw [State.levelRow, List.getD_eq_getElem _ _ (rows ▸ h)]
    exact List.getElem_mem _
  have heard := (highestHeard_le_iff s s.highestHeard).mp (Nat.le_refl _) _ mem
  rw [formed, State.formedLevel]
  exact (le_max_left _ _).trans (heard.trans (le_max_right _ _))

/-! ## SAFETY frames, notices and MOTIONs taken -/

theorem takeChecked_safety {f : Frame} (h : f.payload.cls = .safety) (s : State) :
    s.takeChecked f = s.applyFrame f := by
  unfold State.takeChecked
  rw [h]

theorem takeRecord_of_order {f : Frame} {level number : Nat} {c : Cause} {p : Option Nat}
    (hp : f.payload = .brakeOrder level c p number) (s : State) : s.takeRecord f = s := by
  unfold State.takeRecord
  dsimp only
  split <;> first
    | rfl
    | next h => exact nomatch hp.symm.trans h

theorem deliver_of_order {f : Frame} {level number : Nat} {c : Cause} {p : Option Nat}
    (hp : f.payload = .brakeOrder level c p number) (s : State) : s.deliver f = s := by
  unfold State.deliver
  rw [hp]

/-- A BRAKE ORDER raises the row of its source to its level (R70, R104). -/
theorem levelRow_applyFrame {s : State} {f : Frame} {level number : Nat} {c : Cause} {p : Option Nat}
    (hp : f.payload = .brakeOrder level c p number) (h : f.source < s.brake.rows.length) :
    ((s.applyFrame f).levelRow f.source).order = max (s.levelRow f.source).order level := by
  have rows : (s.recorded f).brake.rows = s.brake.rows := recorded_touches f s .rows (by decide)
  have ordered : (((s.recorded f).passBrake f).levelRow f.source).order =
      max ((s.recorded f).levelRow f.source).order level := by
    unfold State.passBrake
    rw [hp]
    dsimp only
    split
    · exact levelRow_takeOrder (by rw [rows]; exact h) level c p number
    · exact levelRow_takeOrder (by rw [rows]; exact h) level c p number
  rw [applyFrame_eq, takeRecord_of_order hp, deliver_of_order hp,
    levelRow_congr (noticeChanges_touches _ _ _ .rows (by decide)), ordered, levelRow_congr rows]

/-- The stops and direction of a notice, as R15 judges them. -/
theorem noticeConsistent_iff (s : State) (n : TripNotice) : s.noticeConsistent n = true ↔
    n.recovery = true ∨ ∃ a b, n.fromStop = some a ∧ n.toStop = some b ∧
      a < s.conf.stops.length ∧ b < s.conf.stops.length ∧ a ≠ b ∧
      n.direction = if s.hStop a < s.hStop b then .up else .down := by
  unfold State.noticeConsistent
  rw [Bool.or_eq_true]
  refine or_congr Iff.rfl ?_
  cases n.fromStop <;> cases n.toStop <;> simp [and_assoc]

theorem takeNotice_consistent {s : State} {n : TripNotice} (h : s.noticeConsistent n = true) :
    (s.takeNotice n).prof.notice = some n ∧ (s.takeNotice n).counts = s.counts := by
  unfold State.takeNotice
  rw [if_pos h]
  dsimp only
  split
  · split
    · exact ⟨judgeOpening_touches _ _ _ .notice (by decide), (judgeOpening_touches _ _ _).counts_eq⟩
    · exact ⟨rfl, rfl⟩
  · exact ⟨rfl, rfl⟩

theorem takeDriveMotion_notice (s : State) (m : Motion) : (s.takeDriveMotion m).prof.notice =
    if emptiesNotice m s.prof.notice = true then none else s.prof.notice := by
  have judged : (if emptiesNotice m s.prof.notice = true then s.emptyNotice else s).prof.notice =
      if emptiesNotice m s.prof.notice = true then none else s.prof.notice := by
    split <;> rfl
  unfold State.takeDriveMotion
  dsimp only
  split
  · exact (doorDriveMotion_touches _ _ .notice (by decide)).trans judged
  · exact judged

theorem emptiesNotice_iff (m : Motion) (stored : Option TripNotice) : emptiesNotice m stored = true ↔
    m.status = .haulage .unsynced ∨ ∃ x n, m.trip = some x ∧ stored = some n ∧
      x.number ≠ n.number ∧ (x.number + 1) % 256 ≠ n.number := by
  unfold emptiesNotice
  rw [Bool.or_eq_true, beq_iff_eq]
  refine or_congr Iff.rfl ?_
  cases m.trip <;> cases stored <;> simp

/-- What a frame applied leaves of the entry of its source, as the commands that follow read it. -/
theorem applyFrame_entry {s : State} {f : Frame} (h : f.source < s.peers.length) :
    ∃ fr rejoins, (s.applyFrame f).entry f.source =
      ({ renewed f s.unitTime (s.entry f.source) with
        freshness := fr, rejoins := rejoins } : PeerEntry).store f.payload := by
  obtain ⟨fr, rejoins, entry, -⟩ := recorded_entry h
  exact ⟨fr, rejoins, (entry_congr (applyFrame_peers f s) _).trans entry⟩

/-- A TRIP NOTICE at a CAR, from a source that is then FRESH and the DRIVE's, is judged (R15). -/
theorem takeChecked_tripNotice {s : State} {f : Frame} {n : TripNotice} (hrole : s.role = .car)
    (hp : f.payload = .tripNotice n) (hnew : s.duplicate f = false) (hsource : f.source < s.peers.length)
    (hann : (s.entry f.source).announcement = some .drive)
    (hdigest : (s.entry f.source).digest = some s.prof.digest)
    (hheld : s.heldElsewhere f.source .drive = false) :
    ∃ y, Touches [.peers, .counts] s y ∧
      y.count .rejectedNotices = s.count .rejectedNotices ∧ y.counts.length = s.counts.length ∧
      ∃ before, s.takeChecked f = (y.takeNotice n).noticeChanges before [] := by
  have hcls : f.payload.cls = .control := by rw [hp]; rfl
  set x := s.passControl f with hx
  have length : f.source < x.peers.length := by
    rw [hx, State.passControl, setEntry_peers_length]
    exact hsource
  have entry : x.entry f.source = _ := entry_setEntry hsource _
  have announced : (renewed f x.unitTime (x.entry f.source)).announcement = some .drive ∧
      (renewed f x.unitTime (x.entry f.source)).digest = some x.prof.digest := by
    rw [renewed_of_control hcls, entry]
    exact ⟨hann, hdigest⟩
  obtain ⟨fr, rejoins, recorded, fresh⟩ := recorded_entry length
  have isFresh : fr = .fresh := fresh (freshnessOf_fresh announced.1 (identity_of_car (s := x) hrole)
    ((heldElsewhere_setEntry s _ _ _).trans hheld) announced.2)
  have touched := (passControl_touches f s).comp (recorded_touches f x)
  have believed : ((x.recorded f).entry f.source).believed .drive = true := by
    rw [recorded, store_of_control hcls, isFresh]
    unfold PeerEntry.believed
    dsimp only
    rw [announced.1]
    rfl
  have role : (x.recorded f).role = .car := touched.role_eq.trans hrole
  have delivered : (x.recorded f).deliver f = (x.recorded f).takeNotice n := by
    unfold State.deliver State.route
    rw [hp]
    dsimp only
    rw [role, believed]
    rfl
  refine ⟨x.recorded f, touched.mono (by decide), recorded_count (by decide) (by decide),
    recorded_counts_length f x, x.peers, ?_⟩
  have checked : s.takeChecked f = x.applyFrame f := by
    unfold State.takeChecked
    rw [hcls, hnew]
    rfl
  rw [checked, applyFrame_eq, passBrake_of_control hcls, takeRecord_of_control hcls, delivered,
    storedIdentities_of_control hcls]

/-- A MOTION at a CAR, whose source is then FRESH and the DRIVE's, judges the notice store (R17). -/
theorem takeChecked_driveMotion {s : State} {f : Frame} {c : Common} {m : Motion}
    (hrole : s.role = .car) (hp : f.payload = .motion c m) (hid : c.identity = .drive)
    (hdigest : c.digest = s.prof.digest) (hsource : f.source < s.peers.length)
    (hheld : s.heldElsewhere f.source .drive = false) :
    (s.takeChecked f).prof.notice =
      if emptiesNotice m s.prof.notice = true then none else s.prof.notice := by
  set x := s.passState f with hx
  have unchanged := passState_touches f s
  have length : f.source < x.peers.length := by
    rw [hx, passState_peers, setEntry_peers_length]
    exact hsource
  have announced : (renewed f x.unitTime (x.entry f.source)).announcement = some .drive ∧
      (renewed f x.unitTime (x.entry f.source)).digest = some x.prof.digest := by
    unfold renewed
    rw [hp, unchanged.prof_eq (by decide), ← hdigest]
    exact ⟨congrArg some hid, rfl⟩
  have held : x.heldElsewhere f.source .drive = false := by
    rw [heldElsewhere_congr (passState_peers f s), heldElsewhere_setEntry]
    exact hheld
  obtain ⟨fr, rejoins, recorded, fresh⟩ := recorded_entry length
  have isFresh : fr = .fresh := fresh (freshnessOf_fresh announced.1
    (identity_of_car (unchanged.role_eq.trans hrole)) held announced.2)
  set z := (x.recorded f).passBrake f with hz
  have touched := (unchanged.comp (recorded_touches f x)).comp (passBrake_touches f _)
  have entry : z.entry f.source = (x.recorded f).entry f.source :=
    entry_congr (passBrake_touches f _).peers_eq _
  have taken : z.takeRecord f = z.takeDriveMotion m := by
    refine takeRecord_motion (c := c) (touched.role_eq.trans hrole) ?_ ?_ hp
    · rw [entry, recorded, (store_announced _ _).1]
      exact announced.1
    · rw [entry, recorded, store_freshness]
      exact isFresh
  have checked : s.takeChecked f = x.applyFrame f := by
    unfold State.takeChecked
    rw [hp]
    rfl
  have notice : z.prof.notice = s.prof.notice := touched .notice (by decide)
  have kept : (x.applyFrame f).prof.notice = (z.takeDriveMotion m).prof.notice := by
    rw [applyFrame_eq, ← hz, taken, deliver_of_state (by rw [hp]; rfl)]
    exact noticeChanges_touches _ _ _ .notice (by decide)
  rw [checked, kept, takeDriveMotion_notice, notice]

/-- Settles O35: a CONTROL frame by the kind of its payload, then each effect of a frame taken from what
it leaves of the entry, the row and the notice store that it is about. -/
theorem frameTaken : Obligations.FrameTaken := by
  refine ⟨fun dt s f rest hrun hrx hticket hcls hnew hsource hsteady hnone => ?_,
    fun dt s f rest hrun hrx hticket => ?_⟩
  · intro e own n heard routed
    obtain ⟨t, hexec, ht⟩ := exec_takeFrame (dt := dt) hrun hrx (fun _ => hticket)
    rw [takeChecked_control (s := (s.advance dt).taken rest) hcls hnew hsource hsteady hnone] at ht
    obtain ⟨hf, ha⟩ := overheard_entry (s := (s.advance dt).taken rest) (f := f) hsource
    have ht : SettledFrom (heard.deliver f) t := ht
    have hf : (heard.entry f.source).freshness = e.freshness := hf
    have ha : (heard.entry f.source).announcement = e.announcement := ha
    unfold State.deliver at ht
    refine ⟨t, hexec, fun number hp => ?_, fun m hp => ?_, fun car side hp => ?_,
      fun car side result hp => ?_, fun berth car side number hp => ?_,
      fun berth car side number grantId hp => ?_, fun berth car number reason hp => ?_,
      fun berth car grantId reason hp => ?_⟩ <;> rw [hp] at ht
    · exact route_settled hf ha ht
    · obtain ⟨here, elsewhere⟩ := addressed_settled ht
      exact ⟨fun h => route_settled hf ha (here (beq_iff_eq.mpr h)),
        fun h => elsewhere (beq_eq_false_iff_ne.mpr h)⟩
    · obtain ⟨here, elsewhere⟩ := addressed_to (addressed_settled ht)
      exact ⟨fun h => route_settled hf ha (here h), elsewhere⟩
    · obtain ⟨here, elsewhere⟩ := addressed_to (addressed_settled ht)
      exact ⟨fun h => route_settled hf ha (here h), elsewhere⟩
    · obtain ⟨here, elsewhere⟩ := addressed_to (addressed_settled ht)
      exact ⟨fun h => route_settled hf ha (here h), elsewhere⟩
    · obtain ⟨here, elsewhere⟩ := addressed_to (addressed_settled ht)
      exact ⟨fun h => route_settled hf ha (here h), elsewhere⟩
    · obtain ⟨here, elsewhere⟩ := addressed_to (addressed_settled ht)
      exact ⟨fun h => route_settled hf ha (here h), elsewhere⟩
    · exact withdrawal_settled hf ha ht
  · obtain ⟨t, hexec, ht⟩ := exec_takeFrame (dt := dt) hrun hrx (fun _ => hticket)
    set x := (s.advance dt).taken rest with hx
    refine ⟨⟨t, hexec, ?_⟩, fun hcls hdup => ⟨t, hexec, ?_⟩,
      fun level number cause h hlaw hsource hp => ⟨t, hexec, ?_, ?_, fun hlen => ?_⟩,
      fun c hc hlen => ⟨t, hexec, ?_⟩, ?_, ?_⟩
    · exact ht.rx_eq.trans (takeChecked_touches f x).rx_eq
    · have dup : x.duplicate f = true := hdup
      unfold State.takeChecked at ht
      rw [hcls, dup] at ht
      exact ht
    · rw [levelRow_congr ht.rows_eq, takeChecked_safety (by rw [hp]; rfl)]
      exact levelRow_applyFrame hp (hlaw.2.1 ▸ hsource)
    · have row : (t.levelRow f.source).order = max (x.levelRow f.source).order level := by
        rw [levelRow_congr ht.rows_eq, takeChecked_safety (by rw [hp]; rfl)]
        exact levelRow_applyFrame hp (hlaw.2.1 ▸ hsource)
      have least := order_le_effective (exec_keepsBrakeLaw hlaw hexec) hsource
      rw [row] at least
      exact (Nat.le_max_right _ _).trans least
    · obtain ⟨fr, rejoins, entry⟩ := applyFrame_entry (s := x) hlen
      rw [entry_congr ht.peers_eq, takeChecked_safety (by rw [hp]; rfl), entry, hp]
      rfl
    · have checked : x.takeChecked f = (x.passState f).applyFrame f := by
        unfold State.takeChecked
        rw [cls_of_common hc]
      obtain ⟨fr, rejoins, entry⟩ := applyFrame_entry (s := x.passState f) (f := f)
        (by rw [passState_peers, setEntry_peers_length]; exact hlen)
      have time : (x.passState f).unitTime = (s.advance dt).unitTime := by
        rw [State.unitTime, (passState_touches f x).clock_eq]
        rfl
      rw [entry_congr ht.peers_eq, checked, entry, store_level _ hc]
      obtain ⟨ann, digest, age, -⟩ := store_announced ({ renewed f (x.passState f).unitTime
        ((x.passState f).entry f.source) with freshness := fr, rejoins := rejoins }) f.payload
      rw [ann, digest, age, ← time]
      unfold renewed
      rw [hc]
      exact ⟨rfl, rfl, rfl, rfl⟩
    · intro m hrole hp hnew hlen hann hdigest hheld consistent
      obtain ⟨y, touched, rejected, length, before, checked⟩ :=
        takeChecked_tripNotice (s := x) hrole hp hnew hlen hann hdigest hheld
      have judged : y.noticeConsistent m = true ↔ consistent := by
        rw [noticeConsistent_iff]
        unfold State.hStop
        rw [touched.conf_eq]
        rfl
      rw [checked] at ht
      have role : (y.takeNotice m).role = .car :=
        (takeNotice_touches m y).role_eq.trans (touched.role_eq.trans hrole)
      have notice : t.prof.notice = (y.takeNotice m).prof.notice :=
        (congrArg (ProfileStore.notice) ht.prof_eq).trans (noticeChanges_touches _ _ _ .notice (by decide))
      have count : t.count .rejectedNotices = (y.takeNotice m).count .rejectedNotices :=
        ht.count_eq.trans ((KeepsCounts.noticeChanges_car role _ _).count _ (by decide))
      refine ⟨t, hexec, fun h => ?_, fun h => ?_⟩
      · obtain ⟨stored, counts⟩ := takeNotice_consistent (judged.mpr h)
        exact ⟨notice.trans stored, count.trans ((count_congr counts _).trans rejected)⟩
      · have refused : y.takeNotice m = y.bump .rejectedNotices := if_neg (mt judged.mp h)
        rw [refused] at notice count
        exact ⟨notice.trans (touched .notice (by decide)),
          count.trans (bump_count_of_eq (s := s) rejected length)⟩
    · intro c m hrole hp hid hdigest hlen hheld empties
      have notice := (congrArg (ProfileStore.notice) ht.prof_eq).trans
        (takeChecked_driveMotion (s := x) hrole hp hid hdigest hlen hheld)
      have judged := emptiesNotice_iff m x.prof.notice
      exact ⟨t, hexec, fun h => notice.trans (if_pos (judged.mpr h)),
        fun h => notice.trans (if_neg (mt judged.mp h))⟩

end Sys2Proof.Machine
end


section
/-! # The third bit error in a row (O31) -/

namespace Sys2Proof.Machine

open Sys2Proof

/-- A unit in ADDRESS_CONFLICT with the cause latched, no CONTROL frame in its queue, and `errors` bit
errors counted (R58). -/
structure InConflict (errors : Nat) (s : State) : Prop where
  phase : s.phase = .configured .addressConflict
  queue : ∀ f ∈ s.bus.queue, f.isControl = false
  demands : s.brake.demands.length = 20
  latched : 2 ≤ s.latched .addressConflict
  count : s.count .bitErrors = errors

namespace InConflict

variable {n : Nat} {s t : State}

theorem present (h : InConflict n s) : s.causePresent .addressConflict = true :=
  beq_iff_eq.mpr h.phase

theorem of_touches {X : List Part} (h : InConflict n s) (ht : Touches X s t)
    (hc : t.count .bitErrors = s.count .bitErrors)
    (hX : ∀ p ∈ [Part.phase, .queue, .demands], p ∉ X := by decide) : InConflict n t := by
  have demands : t.brake.demands = s.brake.demands := ht .demands (hX _ (by decide))
  refine ⟨(ht.phase_eq (hX _ (by decide))).trans h.phase, ?_, ?_, ?_, hc.trans h.count⟩
  · rw [ht.queue_eq (hX _ (by decide))]
    exact h.queue
  · rw [demands]
    exact h.demands
  · rw [latched_congr demands]
    exact h.latched

theorem bump (h : InConflict n s) {c : Count} (hc : c ≠ .bitErrors := by decide) :
    InConflict n (s.bump c) := h.of_touches (bump_touches c s) (count_bump_ne s hc.symm)

/-- A part that moves no count. -/
theorem quiet {X : List Part} (h : InConflict n s) (ht : Touches X s t)
    (hX : ∀ p ∈ [Part.phase, .queue, .demands, .counts], p ∉ X := by decide) : InConflict n t :=
  h.of_touches ht (count_congr (ht.counts_eq (hX _ (by decide))) _)
    (fun p hp => hX p (by
      rcases List.mem_cons.mp hp with rfl | hp
      · decide
      · rcases List.mem_cons.mp hp with rfl | hp
        · decide
        · cases List.mem_singleton.mp hp
          decide))

theorem ite {c : Prop} [Decidable c] {u : State} (ht : c → InConflict n t) (hu : ¬c → InConflict n u) :
    InConflict n (if c then t else u) := by
  split
  · exact ht ‹_›
  · exact hu ‹_›

/-! ## What is queued in ADDRESS_CONFLICT -/

/-- STATE frames queued leave every CONTROL frame as it is. -/
theorem stateQueued (h : InConflict n s) (hq : StateQueued s t) : InConflict n t := by
  have touched := hq.touches
  have demands : t.brake.demands = s.brake.demands := touched .demands (by decide)
  obtain ⟨-, kept, -, counts⟩ := hq
  refine ⟨touched.phase_eq.trans h.phase, fun f hf => ?_, by rw [demands]; exact h.demands,
    by rw [latched_congr demands]; exact h.latched, (counts _ (by decide)).trans h.count⟩
  cases hstate : f.isState with
  | true =>
    unfold TxFrame.isState at hstate
    unfold TxFrame.isControl
    rw [beq_iff_eq.mp hstate]
    rfl
  | false =>
    have mem : f ∈ t.bus.queue.filter (fun f => !f.isState) :=
      List.mem_filter.mpr ⟨hf, by rw [hstate]; rfl⟩
    rw [kept] at mem
    exact h.queue f (List.mem_of_mem_filter mem)

theorem enqueueOrder {level number : Nat} {c : Cause} {p : Option Nat} (h : InConflict n s) :
    InConflict n (s.enqueue (.brakeOrder level c p number)) := by
  have set {q : List TxFrame} {k : FrameKind} (hq : ∀ f ∈ q, f.isControl = false) :
      InConflict n (s.setQueue q k) := ⟨h.phase, hq, h.demands, h.latched, h.count⟩
  have order : (s.newFrame (.brakeOrder level c p number)).isControl = false := rfl
  have joined {q : List TxFrame} (hq : ∀ f ∈ q, f.isControl = false) :
      ∀ f ∈ s.newFrame (.brakeOrder level c p number) :: q, f.isControl = false := fun f hf => by
    rcases List.mem_cons.mp hf with rfl | hf
    · exact order
    · exact hq f hf
  unfold State.enqueue
  refine ite (fun _ => ?_) (fun _ => h)
  show InConflict n (s.enqueueOrder _)
  unfold State.enqueueOrder
  dsimp only
  split
  · refine ite (fun _ => set fun f hf => ?_) (fun _ => h)
    obtain ⟨g, hg, rfl⟩ := List.mem_map.mp hf
    split
    · exact order
    · exact h.queue g hg
  · refine ite (fun _ => set (joined h.queue)) (fun _ => ite (fun _ => ?_) (fun _ => ?_))
    · exact (set (joined fun f hf => h.queue f (List.mem_of_mem_eraseP hf))).bump
    · split
      · next g hg =>
        exact absurd (List.find?_some hg) (by rw [h.queue g (List.mem_of_find?_eq_some hg)]; decide)
      · exact h

/-! ## Frames taken by a GATE in ADDRESS_CONFLICT -/

theorem tellLevel (h : InConflict n s) (hrole : s.role = .gate) (before : Nat) :
    InConflict n (s.tellLevel before) := by
  unfold State.tellLevel
  rw [hrole]
  exact h.quiet (setCycle_touches _ s)

theorem reform (h : InConflict n s) (hrole : s.role = .gate) : InConflict n s.reform := by
  unfold State.reform
  refine ite (fun _ => h) (fun _ => ?_)
  have set := setEffective_touches s.formedLevel s
  unfold State.levelChanged
  refine ite (fun _ => ?_) (fun _ => h.quiet set)
  have proof := proofAtChange_touches s.brake.effective
    (s.setBrake ({ · with effective := s.formedLevel }))
  exact (((h.quiet set).quiet proof).tellLevel (proof.role_eq.trans hrole) _).stateQueued
    (queueAllStates_stateQueued _)

theorem setRows (h : InConflict n s) (f : List LevelRow → List LevelRow) :
    InConflict n (s.setBrake (fun b => { b with rows := f b.rows })) :=
  ⟨h.phase, h.queue, h.demands, h.latched, h.count⟩

theorem takeOrder (h : InConflict n s) (hrole : s.role = .gate) (addr level : Nat) (c : Cause)
    (p : Option Nat) (number : Nat) : InConflict n (s.takeOrder addr level c p number) := by
  unfold State.takeOrder
  split
  · split
    · exact (h.setRows (List.modify · addr _)).reform hrole
    · exact ((h.bump (c := .lateOrders)).setRows (List.modify · addr _)).reform hrole
  · exact (h.setRows (List.modify · addr _)).reform hrole

theorem passBrake (h : InConflict n s) (hrole : s.role = .gate) (f : Frame) :
    InConflict n (s.passBrake f) := by
  unfold State.passBrake
  split
  · have ordered := fun level c p number => h.takeOrder hrole f.source level c p number
    exact ite (fun _ => (ordered _ _ _ _).quiet (clearHeld_touches _)) (fun _ => ordered _ _ _ _)
  · split
    · exact (h.setRows (List.modify · f.source _)).reform hrole
    · exact h

theorem judgeLoadReport (h : InConflict n s) (c : CarId) (l : LoadReport) :
    InConflict n (s.judgeLoadReport c l) := by
  have flags {t : State} (ht : InConflict n t) (g : CarFlags → CarFlags) :
      InConflict n (t.setCarFlags c g) := ht.quiet (setCarFlags_touches c g t)
  unfold State.judgeLoadReport
  refine flags ?_ _
  dsimp only
  split
  · refine ite (fun _ => ite (fun _ => h) (fun _ => ite (fun _ => ?_) (fun _ => h.bump)))
      (fun _ => ite (fun _ => ?_) (fun _ => flags h _))
    · exact ((h.quiet (forgetReleases_touches s)).quiet (setCycle_touches _ _)).bump
    · exact (flags h _).quiet (setCycle_touches _ _)
  · exact flags h _

theorem judgeDoorState (h : InConflict n s) (c : CarId) (fresh : Bool) (d : DoorReport) :
    InConflict n (s.judgeDoorState c fresh d) := by
  unfold State.judgeDoorState
  refine ite (fun _ => ite (fun _ => ?_) (fun _ => ?_)) (fun _ => h)
  · exact (h.quiet (setCarFlags_touches c _ s)).quiet (setCycle_touches _ _)
  · exact h.quiet (setCarFlags_touches c _ s)

theorem takeAdmission (h : InConflict n s) (a : AdmissionReport) (i : Nat) :
    InConflict n (s.takeAdmission a i) := by
  unfold State.takeAdmission
  refine ite (fun _ => ite (fun _ => h.bump) (fun _ => ite (fun _ => h.bump) (fun _ => ?_)))
    (fun _ => h)
  exact (h.quiet (setCycle_touches _ s)).quiet
    (Touches.foldl (fun t id => passback_touches id .heard t) _ _)

theorem takeRecord (h : InConflict n s) (hrole : s.role = .gate) (f : Frame) :
    InConflict n (s.takeRecord f) := by
  unfold State.takeRecord
  dsimp only
  split
  · next hcar _ _ => exact absurd (hrole.symm.trans hcar) (by decide)
  · exact ite (fun _ => h.judgeLoadReport _ _) (fun _ => h)
  · exact h.judgeDoorState _ _ _
  · exact ite (fun _ => h.takeAdmission _ _) (fun _ => h)
  · exact h

/-- A reset keeps the demand of a conflict that lasts (R111). -/
theorem resetDemands (h : InConflict n s) (number : Nat) : InConflict n (s.resetDemands number) := by
  have touched := resetDemands_touches number s
  have kept : (s.resetDemands number).latched .addressConflict = s.latched .addressConflict := by
    rw [resetDemands_latched h.demands number (by decide), if_pos h.present]
  refine ⟨touched.phase_eq.trans h.phase, ?_, ?_, kept ▸ h.latched,
    (count_congr touched.counts_eq _).trans h.count⟩
  · rw [touched.queue_eq]
    exact h.queue
  · rw [show (s.resetDemands number).brake.demands.length = _ from List.length_map _]
    unfold State.syncPresence
    rw [List.length_zipWith]
    exact (congrArg (min · _) h.demands).trans rfl

theorem judgeReset (h : InConflict n s) (hrole : s.role = .gate) (number : Nat) :
    InConflict n (s.judgeReset number) := by
  have role : (s.resetDemands number).reform.role = .gate :=
    ((reform_touches _).role_eq).trans ((resetDemands_touches number s).role_eq.trans hrole)
  have told : (s.resetDemands number).reform.tellReset = (s.resetDemands number).reform := by
    unfold State.tellReset
    rw [role]
  unfold State.judgeReset
  refine ite (fun _ => h.bump) (fun _ => ite (fun _ => ?_) (fun _ => h.bump))
  have formed := (h.resetDemands number).reform ((resetDemands_touches number s).role_eq.trans hrole)
  rw [acceptReset_eq, told]
  unfold State.reOrder
  split
  · exact formed.enqueueOrder
  · exact formed

theorem route (h : InConflict n s) {source : Nat} {id : Identity} {effect : State → State}
    (he : InConflict n (effect s)) : InConflict n (s.route source id effect) :=
  ite (fun _ => he) (fun _ => h.bump)

/-- Of the CONTROL frames a GATE takes the BRAKE RESET alone (Table 4-4). -/
theorem deliver (h : InConflict n s) (hrole : s.role = .gate) (f : Frame) :
    InConflict n (s.deliver f) := by
  have other (x : Identity) (r : Role) (hx : roleOf x = r) (hr : r ≠ .gate) :
      (s.conf.identity == x) = false := by
    rw [beq_eq_false_iff_ne]
    intro e
    rw [← e] at hx
    exact hr (hx.symm.trans hrole)
  have drive := other .drive .drive rfl (by decide)
  have car (c : CarId) := other (.car c) .car rfl (by decide)
  have berth (b : Nat) := other (.berth b) .berth rfl (by decide)
  unfold State.deliver
  dsimp only
  split
  · exact h.route (h.judgeReset hrole _)
  · rw [hrole]
    exact h
  · rw [car]
    exact h
  · rw [drive]
    exact h
  · rw [berth]
    exact h
  · rw [car]
    exact h
  · rw [car]
    exact h
  · unfold State.routeWithdrawal
    dsimp only
    rw [car, berth]
    split <;> exact h
  · exact h

theorem noticeChanges (h : InConflict n s) (hrole : s.role = .gate) (before : List PeerEntry)
    (stored : List Identity) : InConflict n (s.noticeChanges before stored) := by
  have unread (t : State) (ht : t.role = .gate) (id : Identity) : t.notice id = t := by
    unfold State.notice
    rw [ht]
  have fold (l : List Identity) : l.foldl (fun t id => t.notice id) s = s := by
    induction l with
    | nil => rfl
    | cons id l ih =>
      rw [List.foldl_cons, unread s hrole]
      exact ih
  unfold State.noticeChanges
  rw [fold]
  exact h

theorem applyFrame (h : InConflict n s) (hrole : s.role = .gate) (f : Frame) :
    InConflict n (s.applyFrame f) := by
  have recorded : InConflict n (s.recorded f) :=
    h.of_touches (recorded_touches f s) (recorded_count (by decide) (by decide))
  have role : (s.recorded f).role = .gate := (recorded_touches f s).role_eq.trans hrole
  have brakeRole := (passBrake_touches f (s.recorded f)).role_eq.trans role
  have recordRole := (takeRecord_touches f ((s.recorded f).passBrake f)).role_eq.trans brakeRole
  rw [applyFrame_eq]
  exact ((((recorded.passBrake role f).takeRecord brakeRole f).deliver recordRole f).noticeChanges
    ((deliver_touches f _).role_eq.trans recordRole) _ _)

theorem takeChecked (h : InConflict n s) (hrole : s.role = .gate) (f : Frame) :
    InConflict n (s.takeChecked f) := by
  unfold State.takeChecked
  split
  · exact ite (fun _ => h.bump) (fun _ => (h.quiet (passControl_touches f s)).applyFrame
      ((passControl_touches f s).role_eq.trans hrole) f)
  · have passed : InConflict n (s.passState f) := ite
      (fun _ => (h.quiet (setEntry_touches _ _ s)).bump) (fun _ => h.quiet (setEntry_touches _ _ s))
    exact passed.applyFrame ((passState_touches f s).role_eq.trans hrole) f
  · exact h.applyFrame hrole f

theorem takeFrames (k : Nat) (h : InConflict n s) (hrole : s.role = .gate) :
    InConflict n (s.takeFrames k) := by
  induction k generalizing s with
  | zero => exact h
  | succ k ih =>
    refine ih ?_ ((takeOne_touches s).role_eq.trans hrole)
    unfold State.takeOne
    split
    · exact h
    · exact (h.quiet (dropOldest_touches _ s)).takeChecked
        ((dropOldest_touches _ s).role_eq.trans hrole) _

theorem reply (h : InConflict n s) (r : Reply) : InConflict n (s.reply r) := by
  have replied : Touches [.replies, .red] s
      { s with term := { s.term with replies := s.term.replies ++ [r] } } := fun p hp => by
    cases p <;> first | rfl | exact absurd (by decide) hp
  have lit (x : State) (due : Option Nat) : Touches [.replies, .red] x
      (x.setGate ({ · with redDue := due })) := fun p hp => by
    cases p <;> first | rfl | exact absurd (by decide) hp
  have shown := (h.quiet replied).quiet (lit _ (some (s.after (s.k .holdTime))))
  cases r with
  | accept => exact h.quiet replied
  | _ => first
    | exact shown.bump
    | exact shown

theorem decideAgain (h : InConflict n s) : InConflict n s.decideAgain := by
  have settled (r : Reply) : InConflict n (s.settleTicket r) :=
    (h.quiet (setTicket_touches _ s)).reply r
  unfold State.decideAgain
  split
  · unfold State.decideTicket
    split
    · exact settled _
    · refine ite (fun _ => h.quiet (setTicket_touches _ s)) (fun _ => ite (fun _ => ?_)
        (fun _ => settled _))
      exact ((((h.quiet (setCycle_touches _ s)).quiet (passback_touches _ _ _)).quiet
        (setTicket_touches _ _)).reply .accept).bump
  · exact h

theorem redecide (h : InConflict n s) : InConflict n s.redecide := by
  unfold State.redecide
  refine ite (fun hrole => ?_) (fun _ => h)
  split
  · exact (h.takeFrames _ (beq_iff_eq.mp hrole)).decideAgain
  · exact h

/-- The CONTROL frames that leave the queue tell their blocks, which queue nothing. -/
theorem removeControls (hphase : s.phase = .configured .addressConflict)
    (hlen : s.brake.demands.length = 20) (hlatched : 2 ≤ s.latched .addressConflict) :
    InConflict (s.count .bitErrors) s.removeControls := by
  set x := s.setBus (fun b => { b with queue := b.queue.filter (fun f => !f.isControl) }) with hx
  have cleared : InConflict (s.count .bitErrors) x :=
    ⟨hphase, fun f hf => by simpa using (List.mem_filter.mp hf).2, hlen, hlatched, rfl⟩
  have told (l : List TxFrame) {t : State} (ht : InConflict (s.count .bitErrors) t) :
      InConflict (s.count .bitErrors) (l.foldl (fun t f => t.tellNotSent f.payload) t) := by
    induction l generalizing t with
    | nil => exact ht
    | cons f l ih =>
      exact ih (ht.of_touches (tellNotSent_touches _ t)
        ((KeepsCounts.tellNotSent _ t).count _ (by decide)))
  exact told _ cleared

end InConflict

/-- Entering ADDRESS_CONFLICT latches the cause and clears the queue of CONTROL frames (R58). -/
theorem enterConflict_inConflict {s : State} (h : BrakeLaw s) :
    InConflict (s.count .bitErrors) s.enterConflict := by
  set x : State := { s with phase := .configured .addressConflict } with hx
  have law : BrakeLaw x := h.of_brake rfl
  obtain ⟨raised, latched, -⟩ := raiseLatches x .addressConflict 2 law (by decide)
  have count : (x.raise .addressConflict 2).count .bitErrors = s.count .bitErrors :=
    (KeepsCounts.raise .addressConflict 2 x).count _ (by decide)
  have entered := InConflict.removeControls (s := x.raise .addressConflict 2)
    ((raise_touches _ _ x).phase_eq) raised.1 (latched ▸ Nat.le_max_right _ _)
  rw [count] at entered
  exact entered.redecide

/-- Settles O31. -/
theorem thirdBitErrorConflict : Obligations.ThirdBitErrorConflict := by
  intro dt s field hlaw hop hattempt hrun hcounts
  set x := ((s.advance dt).bump .bitErrors).setBus ({ · with abortPlaced := true }) with hx
  obtain ⟨ended, run, -⟩ := failAttempt_rest x
  set y := x.failAttempt.setBus ({ · with conflictRun := 3 }) with hy
  have runs : after (.bitError dt field) s = y.enterConflict := by
    refine (if_pos hattempt).trans ?_
    show x.failAttempt.conflictError field = _
    unfold State.conflictError
    have third : x.failAttempt.bus.conflictRun = 2 := run.trans hrun
    rw [if_pos hcounts, third]
    exact if_pos rfl
  obtain ⟨t, hexec, ht⟩ := exec_settledFrom rfl runs
  have touched := (failAttempt_touches x).comp (setConflictRun_touches 3 x.failAttempt)
  have law : BrakeLaw y :=
    (hlaw.of_brake (t := x) rfl).of_touches touched (by decide)
  have count : y.count .bitErrors = (s.bump .bitErrors).count .bitErrors :=
    failAttempt_counts x (by decide) (by decide)
  obtain ⟨phase, queue, -, latched, errors⟩ := enterConflict_inConflict law
  have entered := enterConflict_touches y
  have kept : t.latched .addressConflict = y.enterConflict.latched .addressConflict :=
    ht.2.2.2.2 _ (by decide)
  have braked : BrakeLaw t := exec_keepsBrakeLaw hlaw hexec
  refine ⟨t, hexec, ht.phase_eq.trans phase, ht.conflictRun_eq.trans (entered .conflictRun (by decide)),
    ?_, kept ▸ latched, ?_, fun f hf => ?_, ?_⟩
  · exact ht.attempt_eq.trans ((entered .attempt (by decide)).trans ended)
  · rw [braked.2.2.2.2]
    exact (kept ▸ latched).trans ((latched_le_highestOwn t _).trans (Nat.le_max_left _ _))
  · cases hc : f.isControl with
    | false => rfl
    | true =>
      have mem : f ∈ t.bus.queue.filter (fun f => !f.isState) := by
        refine List.mem_filter.mpr ⟨hf, ?_⟩
        unfold TxFrame.isControl at hc
        unfold TxFrame.isState
        rw [beq_iff_eq.mp hc]
        rfl
      rw [ht.2.1] at mem
      exact (queue f (List.mem_of_mem_filter mem)).symm.trans hc |>.symm
  · exact ht.count_eq.trans (errors.trans count)

end Sys2Proof.Machine
end


section
/-! # The merged limit list and the permitted speed (O25, O26) -/

namespace Sys2Proof.Machine

open Sys2Proof

/-! ## Joining segments (R7) -/

/-- A segment holds a haul position. -/
def Segment.holds (g : Segment) (h : Nat) : Prop := g.start ≤ h ∧ h < g.stop

theorem segmentAt_singleton (g : Segment) (h : Nat) : segmentAt [g] h = g := by
  unfold segmentAt
  by_cases hg : g.start ≤ h ∧ h < g.stop <;> simp [hg]

/-- The first segment answers where it holds the position, and else the rest of the list does. -/
theorem segmentAt_cons_cons (g k : Segment) (l : List Segment) (h : Nat) :
    (g.holds h → segmentAt (g :: k :: l) h = g) ∧
      (¬g.holds h → segmentAt (g :: k :: l) h = segmentAt (k :: l) h) := by
  unfold segmentAt Segment.holds
  refine ⟨fun hg => ?_, fun hg => ?_⟩
  · rw [List.find?_cons, decide_eq_true hg]
    rfl
  · rw [List.find?_cons, decide_eq_false hg, List.getLast?_cons_cons]

/-- What joining a list without gap or overlap keeps. -/
structure JoinsTo (l j : List Segment) : Prop where
  apart : j.IsChain (fun a b => ¬(a.limit0 = b.limit0 ∧ a.limit1 = b.limit1))
  gapless : j.IsChain (fun a b => a.stop = b.start)
  positive : ∀ g ∈ j, g.start < g.stop
  start : j.head?.map (·.start) = l.head?.map (·.start)
  limit : ∀ set h, (segmentAt j h).limit set = (segmentAt l h).limit set

theorem joinSegments_ne_nil (g : Segment) (l : List Segment) : joinSegments (g :: l) ≠ [] := by
  unfold joinSegments
  split
  · exact List.cons_ne_nil _ _
  · split <;> exact List.cons_ne_nil _ _

/-- The limits of a segment stand for those of another in a chain of unequal neighbours. -/
theorem apart_of_limits {g k : Segment} {l : List Segment} (h0 : g.limit0 = k.limit0)
    (h1 : g.limit1 = k.limit1)
    (h : (k :: l).IsChain (fun a b => ¬(a.limit0 = b.limit0 ∧ a.limit1 = b.limit1))) :
    (g :: l).IsChain (fun a b => ¬(a.limit0 = b.limit0 ∧ a.limit1 = b.limit1)) := by
  cases l with
  | nil => exact List.isChain_singleton _
  | cons m l =>
    rw [List.isChain_cons_cons] at h ⊢
    rw [h0, h1]
    exact h

theorem gapless_of_stop {g k : Segment} {l : List Segment} (hstop : g.stop = k.stop)
    (h : (k :: l).IsChain (fun a b => a.stop = b.start)) :
    (g :: l).IsChain (fun a b => a.stop = b.start) := by
  cases l with
  | nil => exact List.isChain_singleton _
  | cons m l =>
    rw [List.isChain_cons_cons] at h ⊢
    rw [hstop]
    exact h

theorem limit_congr {g k : Segment} (h0 : g.limit0 = k.limit0) (h1 : g.limit1 = k.limit1) (set : Nat) :
    g.limit set = k.limit set := by
  unfold Segment.limit
  rw [h0, h1]

/-- A segment joined to the list that follows it without gap, where its limits are those of the first. -/
theorem JoinsTo.merge {g k t : Segment} {l ts : List Segment} (hg : g.start < g.stop)
    (hk : g.stop = k.start) (hj : JoinsTo (k :: l) (t :: ts)) (h0 : g.limit0 = t.limit0)
    (h1 : g.limit1 = t.limit1) : JoinsTo (g :: k :: l) ({ g with stop := t.stop } :: ts) := by
  have first : t.start = k.start := Option.some.inj hj.start
  have ht : t.start < t.stop := hj.positive t (List.mem_cons_self ..)
  refine ⟨apart_of_limits (k := t) h0 h1 hj.apart, gapless_of_stop (k := t) rfl hj.gapless,
    fun m hm => ?_, rfl, fun set h => ?_⟩
  · rcases List.mem_cons.mp hm with rfl | hm
    · show g.start < t.stop
      omega
    · exact hj.positive m (List.mem_cons_of_mem _ hm)
  · set m : Segment := { g with stop := t.stop } with hmdef
    have same : m.limit set = t.limit set := limit_congr (g := m) h0 h1 set
    have own : g.limit set = t.limit set := limit_congr h0 h1 set
    have holds : m.holds h ↔ g.holds h ∨ t.holds h := by
      show g.start ≤ h ∧ h < t.stop ↔ _ ∨ _
      unfold Segment.holds
      omega
    have rest := hj.limit set h
    obtain ⟨here, there⟩ := segmentAt_cons_cons g k l h
    cases ts with
    | nil =>
      rw [segmentAt_singleton] at rest ⊢
      by_cases hh : g.holds h
      · rw [here hh, same, own]
      · rw [there hh, same, rest]
    | cons n ts =>
      obtain ⟨joined, past⟩ := segmentAt_cons_cons m n ts h
      obtain ⟨second, later⟩ := segmentAt_cons_cons t n ts h
      by_cases hh : g.holds h
      · rw [here hh, joined (holds.mpr (.inl hh)), same, own]
      · rw [there hh, ← rest]
        by_cases ht : t.holds h
        · rw [joined (holds.mpr (.inr ht)), second ht, same]
        · rw [past (fun hm => (holds.mp hm).elim hh ht), later ht]

/-- A segment before a list whose first has other limits. -/
theorem JoinsTo.cons {g k t : Segment} {l ts : List Segment} (hg : g.start < g.stop)
    (hk : g.stop = k.start) (hj : JoinsTo (k :: l) (t :: ts))
    (hne : ¬(g.limit0 = t.limit0 ∧ g.limit1 = t.limit1)) : JoinsTo (g :: k :: l) (g :: t :: ts) := by
  have first : t.start = k.start := Option.some.inj hj.start
  refine ⟨List.isChain_cons_cons.mpr ⟨hne, hj.apart⟩,
    List.isChain_cons_cons.mpr ⟨hk.trans first.symm, hj.gapless⟩, fun m hm => ?_, rfl,
    fun set h => ?_⟩
  · rcases List.mem_cons.mp hm with rfl | hm
    · exact hg
    · exact hj.positive m hm
  · obtain ⟨here, there⟩ := segmentAt_cons_cons g k l h
    obtain ⟨joined, past⟩ := segmentAt_cons_cons g t ts h
    by_cases hh : g.holds h
    · rw [here hh, joined hh]
    · rw [there hh, past hh]
      exact hj.limit set h

theorem joinSegments_joins (l : List Segment) (hpos : ∀ g ∈ l, g.start < g.stop)
    (hgap : l.IsChain (fun a b => a.stop = b.start)) : JoinsTo l (joinSegments l) := by
  induction l with
  | nil => exact ⟨List.isChain_nil, List.isChain_nil, hpos, rfl, fun _ _ => rfl⟩
  | cons g l ih =>
    have hg := hpos g (List.mem_cons_self ..)
    cases l with
    | nil =>
      exact ⟨List.isChain_singleton _, List.isChain_singleton _, hpos, rfl, fun _ _ => rfl⟩
    | cons k l =>
      obtain ⟨hk, hrest⟩ := List.isChain_cons_cons.mp hgap
      have hj := ih (fun m hm => hpos m (List.mem_cons_of_mem _ hm)) hrest
      rw [joinSegments]
      cases hjoin : joinSegments (k :: l) with
      | nil => exact absurd hjoin (joinSegments_ne_nil k l)
      | cons t ts =>
        rw [hjoin] at hj
        dsimp only
        split
        · next hsame => exact hj.merge hg hk hsame.1 hsame.2
        · next hne => exact hj.cons hg hk hne

/-- Settles O25, by induction on the list. -/
theorem joiningKeepsLimits : Obligations.JoiningKeepsLimits := fun l hpos hgap =>
  have joins := joinSegments_joins l hpos hgap
  ⟨joins.apart, joins.gapless, joins.start, joins.limit⟩

/-! ## The permitted speed (R81 to R83) -/

/-- The least of a bound and the values of a list is one of them, and no greater than any. -/
theorem foldl_min_least {α : Type} (f : α → Nat) (l : List α) (bound : Nat) :
    let v := l.foldl (fun m p => min m (f p)) bound
    v ≤ bound ∧ (∀ p ∈ l, v ≤ f p) ∧ (v = bound ∨ ∃ p ∈ l, v = f p) := by
  induction l generalizing bound with
  | nil => exact ⟨Nat.le_refl _, nofun, .inl rfl⟩
  | cons p l ih =>
    obtain ⟨hle, hall, hone⟩ := ih (min bound (f p))
    refine ⟨hle.trans (Nat.min_le_left _ _), fun q hq => ?_, ?_⟩
    · rcases List.mem_cons.mp hq with rfl | hq
      · exact hle.trans (Nat.min_le_right _ _)
      · exact hall q hq
    · rcases hone with heq | ⟨q, hq, heq⟩
      · rcases min_choice bound (f p) with hm | hm
        · exact .inl (heq.trans hm)
        · exact .inr ⟨p, List.mem_cons_self .., heq.trans hm⟩
      · exact .inr ⟨q, List.mem_cons_of_mem _ hq, heq⟩

theorem samplePermitted_le (s : State) (set : Nat) : s.samplePermitted set ≤ s.currentLimit set := by
  unfold State.samplePermitted State.currentLimit
  split
  · exact (foldl_min_least _ _ _).1
  · exact Nat.le_refl _

theorem thresholds_in_order {v limit w x y z : Nat} (hv : v ≤ limit) (hwx : w ≤ x) (hxy : x ≤ y)
    (hyz : y ≤ z) (hlimit : limit ≤ 16000) :
    v ≤ limit ∧ v ≤ threshold v w ∧ threshold v w ≤ threshold v x ∧ threshold v x ≤ threshold v y ∧
      threshold v y ≤ threshold v z ∧ threshold v z ≤ 16383 := by
  unfold threshold
  omega

/-- Settles O26. -/
theorem permittedSpeedLeast : Obligations.PermittedSpeedLeast := by
  refine ⟨fun s set => ?_, fun l set a h u hEnd d => ?_⟩
  · intro c r hWS hSE hET hlimit
    exact thresholds_in_order (samplePermitted_le s set) hWS hSE hET hlimit
  · intro v points current
    have least := foldl_min_least (fun p : Nat × Nat => curve p.2 a (distance p.1 h - u)) points current
    exact least

end Sys2Proof.Machine
end


section
/-! # The accepted image (O12) -/

namespace Sys2Proof.Machine

open Sys2Proof

/-! ## A sample with no frame held -/

theorem takeAll_of_empty {s : State} (h : s.bus.rx = []) : s.takeAll = s := by
  unfold State.takeAll
  rw [h]
  rfl

/-- What the part of the role changes at a sample with no frame held. -/
def emptyParts : List Part :=
  [.trip, .requeue, .queue, .counts, .authority, .position, .setCode, .sides, .door, .demands, .judged,
   .trackAsk]

theorem tripSample_of_empty {s : State} (h : s.bus.rx = []) (owed : Option TripRecord) :
    Touches (tripParts ++ [.setCode]) s (s.tripSample owed) := by
  have queued : Touches (tripParts ++ [.setCode]) s (s.requeueNotice owed) :=
    (requeueNotice_touches owed s).mono (by decide)
  have rx : (s.requeueNotice owed).bus.rx = [] := queued.rx_eq.trans h
  unfold State.tripSample
  dsimp only
  rw [takeAll_of_empty rx]
  refine .trans (.trans (.ite (fun _ => .ite (fun _ => ?_) (fun _ => queued)) (fun _ => ?_))
    ((restSetpoint_touches _).mono (Y := tripParts ++ [.setCode]) (by decide)))
    ((setAnalogCode_touches _).mono (by decide))
  · exact queued.trans ((judgeReady_touches _).mono (by decide))
  · exact queued.trans ((haulageSample_touches _).mono (by decide))

theorem roleSample_of_empty {s : State} (h : s.bus.rx = []) (owed : Option TripRecord) :
    Touches emptyParts s (s.roleSample owed) ∧ Latching s (s.roleSample owed) := by
  unfold State.roleSample
  split
  · have trip := tripSample_of_empty h owed
    exact ⟨trip.mono (by decide), (Latching.refl s).touch trip⟩
  · have opened := (Latching.refl s).judgeOpenMoving
    have rest := (doorSample_touches_rest s).comp (trackAsk_touches _)
    exact ⟨((judgeOpenMoving_touches s).comp rest).mono (by decide), opened.touch rest⟩
  · exact ⟨.refl _ _, .refl s⟩

/-- What a sample with no frame held changes. -/
def quietParts : List Part := blocksParts ++ emptyParts ++ riseParts

/-- A sample with no frame held releases no demand and leaves the held reset number. -/
theorem sample_of_empty {s : State} (h : s.bus.rx = []) (reading : BitVec 16) :
    Touches quietParts s (s.sample reading) ∧
      ∀ c, s.latched c ≤ (s.sample reading).latched c := by
  have blocks := sampleBlocks_touches reading s
  obtain ⟨role, latching⟩ := roleSample_of_empty (blocks.rx_eq.trans h) s.owedNotice
  have rise := judgeRise_touches ((s.sampleBlocks reading).roleSample s.owedNotice)
  have motion := queueMotion_touches ((s.sampleBlocks reading).roleSample s.owedNotice).judgeRise
  rw [sample_eq]
  refine ⟨(((blocks.mono (by decide)).trans (role.mono (by decide))).trans
    (rise.mono (by decide))).trans (motion.mono (by decide)), fun c => ?_⟩
  rw [latched_congr (motion .demands (by decide)), latched_congr (rise .demands (by decide))]
  exact ((((Latching.refl s).sampleBlocks reading).trans latching).latched_le c)

theorem sampleMeasurement_lastSample (reading : BitVec 16) (s : State) :
    (s.sampleMeasurement reading).meas.lastSample = some s.clock := by
  rw [sampleMeasurement_eq]
  rfl

/-- After the measurement a sample changes neither the time of the sample nor that of the next. -/
def afterMeasurement : List Part := supervisionParts ++ roleParts ++ riseParts

theorem sample_rest_touches (reading : BitVec 16) (s : State) :
    Touches afterMeasurement ((s.restartSample reading).sampleMeasurement reading)
      (s.sample reading) := by
  have supervised {x : State} : Touches afterMeasurement x
      (if x.supervises then x.supervisionSample else x) :=
    .ite (fun _ => (supervisionSample_touches x).mono (by decide)) (fun _ => .refl _ _)
  exact ((supervised.trans ((roleSample_touches _ _).mono (by decide))).trans
    ((judgeRise_touches _).mono (by decide))).trans ((queueMotion_touches _).mono (by decide))

/-- A sample takes its time and sets the next (R20, R184). -/
theorem sample_times (s : State) (reading : BitVec 16) :
    (s.sample reading).sampleDue = some (s.after s.conf.samplePeriod) ∧
      (s.sample reading).meas.lastSample = some s.clock := by
  have rest := sample_rest_touches reading s
  have measured := sampleMeasurement_touches reading (s.restartSample reading)
  have time := sampleMeasurement_lastSample reading (s.restartSample reading)
  have restarted : (s.restartSample reading).sampleDue = some (s.after s.conf.samplePeriod) := rfl
  have clock : (s.restartSample reading).clock = s.clock := rfl
  rw [clock] at time
  generalize s.sample reading = t at rest ⊢
  generalize (s.restartSample reading).sampleMeasurement reading = m at rest measured time
  exact ⟨(rest .sampleDue (by decide)).trans ((measured .sampleDue (by decide)).trans restarted),
    (congrArg (fun x : Int × Option Nat × Option Nat => x.2.2) (rest .speed (by decide))).trans time⟩

/-! ## Entering LISTENING (R101, R182, R184) -/

/-- The state in which an accepted image has been taken and LISTENING is entered. -/
def State.listening (c : UnitConfig) (s : State) : State :=
  { s.takeConfig c with phase := .configured .listening, listenDue := some (s.after 500) }

/-- The state of which the first sample is taken. -/
def State.started (s : State) : State := s.raiseStart.queueAllStates.startDebounce

theorem started_touches (s : State) :
    Touches (raiseParts ++ [.debounceDue]) s s.started :=
  (((raise_touches .start 2 s).mono (by decide)).trans ((queueAllStates_touches _).mono (by decide))).trans
    ((startDebounce_touches _).mono (by decide))

theorem started_latched {s : State} (h : BrakeLaw s) : 2 ≤ s.started.latched .start := by
  obtain ⟨-, latched, -⟩ := raiseLatches s .start 2 h (by decide)
  have kept : s.started.latched .start = (s.raise .start 2).latched .start :=
    (latched_congr (startDebounce_touches _ .demands (by decide)) _).trans
      (latched_congr (queueAllStates_touches _ .demands (by decide)) _)
  rw [kept, latched]
  exact Nat.le_max_right _ _

theorem effective_of_latched {s : State} (h : BrakeLaw s) {c : Cause} {level : Nat}
    (hc : level ≤ s.latched c) : level ≤ s.brake.effective := by
  rw [h.2.2.2.2]
  exact hc.trans ((latched_le_highestOwn s c).trans (Nat.le_max_left _ _))

theorem listening_profile (c : UnitConfig) (s : State) :
    (s.listening c).prof.merged = c.mergedList ∧ (s.listening c).prof.digest = c.computeDigest := by
  unfold State.listening State.takeConfig State.setMeas
  dsimp only
  exact ⟨rfl, rfl⟩

theorem listening_listenDue (c : UnitConfig) (s : State) :
    (s.listening c).listenDue = some (s.clock + 500000) := rfl

theorem Touches.profile_eq {X : List Part} {s t : State} (h : Touches X s t)
    (hX : Part.profile ∉ X := by decide) :
    t.prof.merged = s.prof.merged ∧ t.prof.digest = s.prof.digest :=
  ⟨congrArg Prod.fst (h .profile hX), congrArg Prod.snd (h .profile hX)⟩

/-- Settles O12. -/
theorem configurationAccepted : Obligations.ConfigurationAccepted := by
  intro dt clock pending raw records image reading id hcheck hid s cfg
  have law : BrakeLaw s := (afterReset_brakeLaw pending .starting false raw records).of_brake rfl
  set x := (s.advance dt).listening cfg with hx
  have reads : after (.configurationReadComplete dt image reading) s = x.started.sample reading := by
    show (s.advance dt).configRead image reading = _
    unfold State.configRead
    rw [hcheck, hid]
    rfl
  obtain ⟨t, hexec, ht⟩ := exec_settledFrom rfl reads
  have started := started_touches x
  obtain ⟨sampled, kept⟩ := sample_of_empty (s := x.started) (started.rx_eq.trans rfl) reading
  obtain ⟨due, taken⟩ := sample_times x.started reading
  have touched := ((started.comp sampled).comp ht.touches).mono
    (Y := [.debounceDue, .periods, .outputs] ++ quietParts ++ raiseParts) (by decide)
  have latched : 2 ≤ t.latched .start := by
    rw [ht.2.2.2.2 _ (by decide)]
    exact (started_latched (s := x) (law.of_brake rfl)).trans (kept _)
  have effective := effective_of_latched (exec_keepsBrakeLaw law hexec) latched
  have sampleDue := (ht.touches .sampleDue (by decide)).trans due
  have lastSample : t.meas.lastSample = some x.started.clock := by
    rw [ht.meas_eq]
    exact taken
  obtain ⟨merged, digest⟩ := touched.profile_eq
  obtain ⟨list, code⟩ := listening_profile cfg (s.advance dt)
  have listen : t.listenDue = x.listenDue := touched .listenDue (by decide)
  have clock : x.started.clock = x.clock := started.clock_eq
  have conf : x.started.conf = cfg := started.conf_eq
  rw [State.after, clock, conf] at sampleDue
  rw [clock] at lastSample
  refine ⟨t, hexec, touched.phase_eq, touched.cfg_eq, touched .failure (by decide),
    merged.trans list, digest.trans code, listen.trans (listening_listenDue cfg _), ?_, lastSample, latched, effective,
    touched .held (by decide), touched .pending (by decide), touched .wires (by decide),
    touched .resetPin (by decide)⟩
  exact sampleDue

end Sys2Proof.Machine
end


section
/-! # The stages of a sample (R20 to R29)

Each stage of the measurement block says once what it makes of the measurement; what a sample event leaves of
it then follows from the stages and from what the later blocks can touch. -/

namespace Sys2Proof.Machine

open Sys2Proof

/-! ## Channels (R20, R23) -/

/-- A channel judged by the loss criteria, the other channel's speed given. -/
def Channel.judgedAt (other : Int) (now : Nat) (time : UnitTime) (c : Channel) : Channel :=
  let r := c.runZeroTimer other now
  if r.faultAt now then { r with inService := false, lastFault := some time } else r

/-- The speed of a channel in the sample just ended. -/
def State.speedOf (s : State) (ch : ChannelId) : Int :=
  (s.meas.channel ch).sampleSpeed (s.countLength ch) s.conf.samplePeriod s.clock

/-- A channel after its speed and the loss criteria. -/
def State.judgedChannel (s : State) (ch : ChannelId) : Channel :=
  ({ s.meas.channel ch with speed := s.speedOf ch } : Channel).judgedAt (s.speedOf (otherChannel ch))
    s.clock s.unitTime

theorem judgedAt_acc (other : Int) (now : Nat) (time : UnitTime) (c : Channel) :
    (c.judgedAt other now time).acc = c.acc ∧ (c.judgedAt other now time).accAtSample = c.accAtSample ∧
      (c.judgedAt other now time).speed = c.speed := by
  unfold Channel.judgedAt
  dsimp only
  split <;> exact ⟨rfl, rfl, rfl⟩

theorem judgedAt_zeroSince (other : Int) (now : Nat) (time : UnitTime) (c : Channel) :
    (c.judgedAt other now time).zeroSince =
      if c.speed = 0 ∧ 200 ≤ other.natAbs then some (c.zeroSince.getD now) else none := by
  unfold Channel.judgedAt
  dsimp only
  split <;> rfl

theorem judgedAt_faultAt (other : Int) (now : Nat) (time : UnitTime) (c : Channel) :
    (c.judgedAt other now time).faultAt now = (c.runZeroTimer other now).faultAt now := by
  unfold Channel.judgedAt
  dsimp only
  split <;> rfl

theorem judgedAt_inService (other : Int) (now : Nat) (time : UnitTime) (c : Channel) :
    (c.judgedAt other now time).inService =
      (c.inService && !(c.judgedAt other now time).faultAt now) := by
  rw [judgedAt_faultAt]
  unfold Channel.judgedAt
  dsimp only
  split
  · next h => rw [h]; simp
  · next h =>
    rw [Bool.eq_false_iff.mpr h]
    exact (Bool.and_true _).symm

theorem judgedAt_lastFault (other : Int) (now : Nat) (time : UnitTime) (c : Channel) :
    (c.judgedAt other now time).lastFault =
      if (c.judgedAt other now time).faultAt now = true then some time else c.lastFault := by
  rw [judgedAt_faultAt]
  unfold Channel.judgedAt
  dsimp only
  split <;> rfl

/-- A channel of the two meets a loss criterion in service (R24). -/
def State.loses (s : State) : Prop :=
  ∃ ch, (s.meas.channel ch).inService = true ∧ (s.judgedChannel ch).inService = false

/-- Both channels marked as the loss criteria have judged them. -/
def State.marked (a b : Bool) (s : State) : Measurement :=
  let mark := fun (fault : Bool) (c : Channel) =>
    if fault then { c with inService := false, lastFault := some s.unitTime } else c
  { s.meas with e0 := mark a s.meas.e0, e1 := mark b s.meas.e1 }

/-- The measurement and the counts after a loss (R24). -/
def State.lossCounted (a b : Bool) (s : State) : State :=
  let m := s.marked a b
  let s2 := s.setMeas (fun _ => { m with
    status := lossStatus m, reference := lossReference m, disagreeSince := none, agreeSince := none })
  let s3 := if s.meas.e0.inService && a then s2.bump .channelLosses else s2
  if s.meas.e1.inService && b then s3.bump .channelLosses else s3

theorem lossCounted_touches (a b : Bool) (s : State) :
    Touches [.channels, .reference, .counts] s (s.lossCounted a b) := by
  have set : Touches [.channels, .reference, .counts] s (s.setMeas (fun _ => { s.marked a b with
      status := lossStatus (s.marked a b), reference := lossReference (s.marked a b)
      disagreeSince := none, agreeSince := none })) := fun p hp => by
    cases p <;> first | rfl | exact absurd (by decide) hp
  have counted {x : State} (c : Bool) (h : Touches [.channels, .reference, .counts] s x) :
      Touches [.channels, .reference, .counts] s (if c then x.bump .channelLosses else x) :=
    .ite (fun _ => h.trans ((bump_touches _ _).mono (by decide))) (fun _ => h)
  exact counted _ (counted _ set)

theorem lossCounted_meas (a b : Bool) (s : State) : (s.lossCounted a b).meas =
    { s.marked a b with
      status := lossStatus (s.marked a b), reference := lossReference (s.marked a b)
      disagreeSince := none, agreeSince := none } := by
  have counted (x : State) (c : Bool) : (if c then x.bump .channelLosses else x).meas = x.meas := by
    cases c <;> rfl
  exact (counted _ _).trans (counted _ _)

theorem judgeLoss_of_lost {a b : Bool} {s : State}
    (h : (s.meas.e0.inService && a || s.meas.e1.inService && b) = true) :
    s.judgeLoss a b =
      if (s.lossCounted a b).meas.status == .none && (s.lossCounted a b).supervises then
        (s.lossCounted a b).latch .referenceLost 2 else s.lossCounted a b := if_pos h

theorem judgeLoss_of_kept {a b : Bool} {s : State}
    (h : (s.meas.e0.inService && a || s.meas.e1.inService && b) = false) :
    s.judgeLoss a b = s.setMeas (fun _ => s.marked a b) := if_neg (by rw [h]; decide)

/-- What the loss criteria leave of the measurement (R23, R24). -/
theorem judgeLoss_meas (a b : Bool) (s : State) :
    ((s.meas.e0.inService && a || s.meas.e1.inService && b) = true → (s.judgeLoss a b).meas =
      { s.marked a b with
        status := lossStatus (s.marked a b), reference := lossReference (s.marked a b)
        disagreeSince := none, agreeSince := none }) ∧
    ((s.meas.e0.inService && a || s.meas.e1.inService && b) = false →
      (s.judgeLoss a b).meas = s.marked a b) := by
  have latched (x : State) (c : Bool) : (if c then x.latch .referenceLost 2 else x).meas = x.meas := by
    cases c <;> rfl
  refine ⟨fun h => ?_, fun h => ?_⟩
  · rw [judgeLoss_of_lost h, ← lossCounted_meas]
    exact latched _ _
  · rw [judgeLoss_of_kept h]
    rfl

/-- The state after the speeds and the loss criteria. -/
def State.lossJudged (s : State) : State := s.sampleSpeeds.sampleLoss

theorem lossJudged_channel (s : State) (ch : ChannelId) :
    s.lossJudged.meas.channel ch = s.judgedChannel ch := by
  have channels (x : State) (a b : Bool) : (x.judgeLoss a b).meas.channel ch =
      if (match ch with | .e0 => a | .e1 => b) = true then
        { x.meas.channel ch with inService := false, lastFault := some x.unitTime }
      else x.meas.channel ch := by
    obtain ⟨lost, kept⟩ := judgeLoss_meas a b x
    cases h : (x.meas.e0.inService && a || x.meas.e1.inService && b) with
    | true => rw [lost h]; cases ch <;> rfl
    | false => rw [kept h]; cases ch <;> rfl
  unfold State.lossJudged State.sampleLoss
  dsimp only
  rw [channels]
  cases ch <;> rfl

/-- The zero timers of both channels, before the criteria are judged. -/
def State.timed (s : State) : State :=
  s.sampleSpeeds.setMeas (fun m => { m with
    e0 := m.e0.runZeroTimer m.e1.speed s.clock, e1 := m.e1.runZeroTimer m.e0.speed s.clock })

theorem lossJudged_eq (s : State) : s.lossJudged =
    s.timed.judgeLoss (s.timed.meas.e0.faultAt s.clock) (s.timed.meas.e1.faultAt s.clock) := rfl

theorem loses_iff (s : State) : s.loses ↔
    (s.meas.e0.inService && s.timed.meas.e0.faultAt s.clock ||
      s.meas.e1.inService && s.timed.meas.e1.faultAt s.clock) = true := by
  have judged (ch : ChannelId) : ((s.meas.channel ch).inService = true ∧
      (s.judgedChannel ch).inService = false) ↔ ((s.meas.channel ch).inService &&
        (s.timed.meas.channel ch).faultAt s.clock) = true := by
    have service : (s.judgedChannel ch).inService =
        ((s.meas.channel ch).inService && !(s.timed.meas.channel ch).faultAt s.clock) := by
      unfold State.judgedChannel
      rw [judgedAt_inService, judgedAt_faultAt]
      cases ch <;> rfl
    rw [service]
    cases (s.meas.channel ch).inService <;> cases (s.timed.meas.channel ch).faultAt s.clock <;> simp
  unfold State.loses
  rw [Bool.or_eq_true]
  constructor
  · rintro ⟨ch, h⟩
    cases ch with
    | e0 => exact .inl ((judged .e0).mp h)
    | e1 => exact .inr ((judged .e1).mp h)
  · rintro (h | h)
    · exact ⟨.e0, (judged .e0).mpr h⟩
    · exact ⟨.e1, (judged .e1).mpr h⟩

theorem lossJudged_kept {s : State} (h : ¬s.loses) :
    s.lossJudged.meas.status = s.meas.status ∧ s.lossJudged.meas.reference = s.meas.reference ∧
      s.lossJudged.meas.disagreeSince = s.meas.disagreeSince ∧
      s.lossJudged.meas.agreeSince = s.meas.agreeSince := by
  rw [loses_iff, Bool.not_eq_true] at h
  rw [lossJudged_eq, (judgeLoss_meas _ _ s.timed).2 h]
  exact ⟨rfl, rfl, rfl, rfl⟩

/-- After a loss the channel left is the reference, and with none left there is no reference (R24). -/
theorem lossJudged_lost {s : State} (h : s.loses) :
    (∀ ch, (s.lossJudged.meas.channel ch).inService = true →
        s.lossJudged.meas.status = .fallback ∧ s.lossJudged.meas.reference = ch) ∧
      (s.lossJudged.meas.e0.inService = false → s.lossJudged.meas.e1.inService = false →
        s.lossJudged.meas.status = .none ∧ s.lossJudged.meas.reference = s.meas.reference) := by
  have notBoth : (s.lossJudged.meas.e0.inService && s.lossJudged.meas.e1.inService) = false := by
    obtain ⟨ch, -, lost⟩ := h
    rw [← lossJudged_channel] at lost
    cases ch with
    | e0 => rw [show s.lossJudged.meas.e0.inService = false from lost]; rfl
    | e1 => rw [show s.lossJudged.meas.e1.inService = false from lost]; exact Bool.and_false _
  obtain ⟨meas, -⟩ := judgeLoss_meas (s.timed.meas.e0.faultAt s.clock) (s.timed.meas.e1.faultAt s.clock)
    s.timed
  have lost := meas ((loses_iff s).mp h)
  rw [← lossJudged_eq] at lost
  generalize s.lossJudged.meas = m at lost notBoth ⊢
  have status : m.status = lossStatus { m with status := s.meas.status } := by
    rw [lost]
    rfl
  have reference : m.reference = lossReference { m with reference := s.meas.reference } := by
    rw [lost]
    rfl
  unfold lossStatus at status
  unfold lossReference at reference
  dsimp only at status reference
  rw [notBoth] at status reference
  refine ⟨fun ch hch => ?_, fun h0 h1 => ?_⟩
  · cases ch with
    | e0 =>
      have h0 : m.e0.inService = true := hch
      rw [h0] at status reference
      exact ⟨status, reference⟩
    | e1 =>
      have h1 : m.e1.inService = true := hch
      rw [h1, Bool.and_true] at notBoth
      rw [h1, notBoth] at status reference
      exact ⟨status, reference⟩
  · rw [h0, h1] at status reference
    exact ⟨status, reference⟩

/-- With no channel left a DRIVE or CAR latches REFERENCE_LOST (R24). -/
theorem judgeLoss_latches {s : State} {a b : Bool} (hlen : s.brake.demands.length = 20)
    (hsup : s.supervises = true) (hlost : (s.meas.e0.inService && a || s.meas.e1.inService && b) = true)
    (hnone : (s.judgeLoss a b).meas.status = .none) :
    2 ≤ (s.judgeLoss a b).latched .referenceLost := by
  have counted := lossCounted_touches a b s
  have length : (s.lossCounted a b).brake.demands.length = 20 := by
    rw [show (s.lossCounted a b).brake.demands = s.brake.demands from counted .demands (by decide)]
    exact hlen
  have supervises : (s.lossCounted a b).supervises = true := by
    unfold State.supervises
    rw [counted.role_eq]
    exact hsup
  rw [judgeLoss_of_lost hlost] at hnone ⊢
  generalize s.lossCounted a b = x at hnone length supervises ⊢
  rw [supervises, Bool.and_true] at hnone ⊢
  split
  · rw [latch_latched_self length (by decide)]
    exact Nat.le_max_right _ _
  · next hne =>
    rw [if_neg hne] at hnone
    exact absurd (by rw [hnone]; rfl) hne

theorem lossJudged_latches {s : State} (hlen : s.brake.demands.length = 20) (h : s.loses)
    (hsup : s.supervises = true) (h0 : s.lossJudged.meas.e0.inService = false)
    (h1 : s.lossJudged.meas.e1.inService = false) : 2 ≤ s.lossJudged.latched .referenceLost :=
  judgeLoss_latches (s := s.timed) hlen hsup ((loses_iff s).mp h) ((lossJudged_lost h).2 h0 h1).1

/-! ## The comparison of the channels (R25) -/

/-- The timers and the status after the comparison of two channels in service. -/
def State.comparison (s : State) : Measurement :=
  let d := if s.speedsDisagree then some (s.meas.disagreeSince.getD s.clock) else none
  let a := if s.speedsDisagree then none else some (s.meas.agreeSince.getD s.clock)
  { s.meas with
    disagreeSince := d, agreeSince := a
    status := match s.meas.status with
      | .normal => if ranFor d s.clock 500 then .disagree else .normal
      | .disagree => if ranFor a s.clock 500 then .normal else .disagree
      | st => st }

theorem judgeDisagree_quiet {s : State} {sample : Nat}
    (h : s.meas.status ≠ .normal ∨ ranFor s.meas.disagreeSince sample 500 = false) :
    s.judgeDisagree sample = s := by
  refine if_neg fun hc => ?_
  rw [Bool.and_eq_true, beq_iff_eq] at hc
  rcases h with h | h
  · exact h hc.1
  · exact absurd (h.symm.trans hc.2) (by decide)

theorem judgeAgree_quiet {s : State} {sample : Nat}
    (h : s.meas.status ≠ .disagree ∨ ranFor s.meas.agreeSince sample 500 = false) :
    s.judgeAgree sample = s := by
  refine if_neg fun hc => ?_
  rw [Bool.and_eq_true, beq_iff_eq] at hc
  rcases h with h | h
  · exact h hc.1
  · exact absurd (h.symm.trans hc.2) (by decide)

theorem withStatus_self {m : Measurement} {st : RefStatus} (h : m.status = st) :
    { m with status := st } = m := by
  rw [← h]

theorem sampleDisagree_meas {s : State} (hsup : s.supervises = true)
    (hboth : s.meas.e0.inService = true ∧ s.meas.e1.inService = true) :
    s.sampleDisagree.meas = s.comparison ∧
      (s.brake.demands.length = 20 → s.meas.status = .normal → s.comparison.status = .disagree →
        1 ≤ s.sampleDisagree.latched .referenceDisagree) := by
  set x := s.setMeas (fun m => { m with
    disagreeSince := if s.speedsDisagree then some (m.disagreeSince.getD s.clock) else none
    agreeSince := if s.speedsDisagree then none else some (m.agreeSince.getD s.clock) }) with hx
  have on : s.sampleDisagree = (x.judgeDisagree s.clock).judgeAgree s.clock :=
    if_pos (by rw [hsup, hboth.1, hboth.2]; rfl)
  have either : x.meas.disagreeSince = none ∨ x.meas.agreeSince = none := by
    rw [hx, State.setMeas_meas]
    cases s.speedsDisagree
    · exact .inl rfl
    · exact .inr rfl
  have demands : x.brake.demands = s.brake.demands := rfl
  have kept : x.meas.status = s.meas.status := rfl
  have compared : s.comparison = { x.meas with status := match s.meas.status with
      | .normal => if ranFor x.meas.disagreeSince s.clock 500 then .disagree else .normal
      | .disagree => if ranFor x.meas.agreeSince s.clock 500 then .normal else .disagree
      | st => st } := rfl
  rw [on, compared, ← demands]
  generalize s.meas.status = st at kept
  generalize s.clock = now
  clear_value x
  cases st with
  | normal =>
    cases hran : ranFor x.meas.disagreeSince now 500 with
    | true =>
      have never : ranFor x.meas.agreeSince now 500 = false := by
        rcases either with h | h
        · rw [h] at hran
          exact nomatch hran
        · rw [h]
          rfl
      have disagrees : x.judgeDisagree now =
          (x.setMeas ({ · with status := .disagree })).latch .referenceDisagree 1 :=
        if_pos (by rw [kept, hran]; rfl)
      have stays : (x.judgeDisagree now).judgeAgree now = x.judgeDisagree now := by
        rw [disagrees]
        exact judgeAgree_quiet (.inr never)
      rw [stays, disagrees]
      refine ⟨rfl, fun hlen _ _ => ?_⟩
      rw [latch_latched_self (s := x.setMeas _) hlen (by decide)]
      exact Nat.le_max_right _ _
    | false =>
      rw [judgeDisagree_quiet (.inr hran), judgeAgree_quiet (.inl (by rw [kept]; decide))]
      exact ⟨(withStatus_self kept).symm, fun _ _ h => nomatch h⟩
  | disagree =>
    rw [judgeDisagree_quiet (.inl (by rw [kept]; decide))]
    refine ⟨?_, fun _ h => nomatch h⟩
    cases hran : ranFor x.meas.agreeSince now 500 with
    | true => exact congrArg State.meas (if_pos (by rw [kept, hran]; rfl))
    | false =>
      rw [judgeAgree_quiet (.inr hran)]
      exact (withStatus_self kept).symm
  | fallback | none =>
    rw [judgeDisagree_quiet (.inl (by rw [kept]; decide)),
      judgeAgree_quiet (.inl (by rw [kept]; decide))]
    exact ⟨(withStatus_self kept).symm, fun _ h => nomatch h⟩

theorem sampleDisagree_off {s : State}
    (h : ¬(s.supervises = true ∧ s.meas.e0.inService = true ∧ s.meas.e1.inService = true)) :
    s.sampleDisagree = s := by
  refine if_neg fun hc => h ?_
  rw [Bool.and_eq_true, Bool.and_eq_true] at hc
  exact ⟨hc.1.1, hc.1.2, hc.2⟩

/-! ## The later stages -/

/-- The state after both stages that judge the channels. -/
def State.channelsJudged (s : State) : State := s.lossJudged.sampleDisagree

theorem setStatus_parts (x : State) (st : Measurement → RefStatus) (d a : Measurement → Option Nat) :
    Touches [.reference, .demands, .judged] x (x.setMeas (fun m => { m with
      status := st m, disagreeSince := d m, agreeSince := a m })) := fun p hp => by
  cases p <;> first | rfl | exact absurd (by decide) hp

theorem judgeDisagree_parts (sample : Nat) (s : State) :
    Touches [.reference, .demands, .judged] s (s.judgeDisagree sample) :=
  .ite (fun _ => (setStatus_parts s (fun _ => .disagree) (·.disagreeSince) (·.agreeSince)).trans
    ((latch_touches _ _ _).mono (by decide))) (fun _ => .refl _ _)

theorem judgeAgree_parts (sample : Nat) (s : State) :
    Touches [.reference, .demands, .judged] s (s.judgeAgree sample) :=
  .ite (fun _ => setStatus_parts s (fun _ => .normal) (·.disagreeSince) (·.agreeSince))
    (fun _ => .refl _ _)

theorem sampleDisagree_parts (s : State) :
    Touches [.reference, .demands, .judged] s s.sampleDisagree :=
  .ite (fun _ => ((setStatus_parts s (·.status)
      (fun m => if s.speedsDisagree then some (m.disagreeSince.getD s.clock) else none)
      (fun m => if s.speedsDisagree then none else some (m.agreeSince.getD s.clock))).trans
    (judgeDisagree_parts _ _)).trans (judgeAgree_parts _ _)) (fun _ => .refl _ _)

end Sys2Proof.Machine
end


section
/-! # What a sample measures (O17) -/

namespace Sys2Proof.Machine

open Sys2Proof

/-! ## Position, speed and standstill (R22, R26, R28) -/

/-- The state after the position stage. -/
def State.positioned (s : State) : State := s.channelsJudged.samplePosition s.meas.reference

/-- The state after the published speed and standstill. -/
def State.stilled (s : State) : State := s.positioned.sampleStandstill

theorem sampleMotion_eq (s : State) : s.sampleMotion = s.stilled.sampleAdoption.sampleLimits := rfl

theorem samplePosition_parts (reference : ChannelId) (s : State) :
    Touches [.channels, .position] s (s.samplePosition reference) := fun p hp => by
  cases p <;> first | rfl | exact absurd (by decide) hp

theorem sampleStandstill_meas (s : State) :
    (20 ≤ s.publishedSpeed.natAbs → s.sampleStandstill.meas =
      { s.meas with v := s.publishedSpeed, slowSince := none, standstill := false }) ∧
    (s.publishedSpeed.natAbs < 20 → s.sampleStandstill.meas =
      { s.meas with
        v := s.publishedSpeed, slowSince := some (s.meas.slowSince.getD s.clock)
        standstill := s.meas.standstill ||
          decide (s.meas.slowSince.getD s.clock + 500000 ≤ s.clock) }) := by
  refine ⟨fun h => ?_, fun h => ?_⟩
  · exact congrArg State.meas (if_neg (Nat.not_lt.mpr h))
  · refine (congrArg State.meas (if_pos h)).trans ?_
    unfold State.judgeStandstill
    have ran : ranFor (some (s.meas.slowSince.getD s.clock)) s.clock 500 =
        decide (s.meas.slowSince.getD s.clock + 500000 ≤ s.clock) := rfl
    rw [State.setMeas_meas]
    dsimp only
    rw [ran]
    cases decide (s.meas.slowSince.getD s.clock + 500000 ≤ s.clock) <;>
      cases hs : s.meas.standstill <;> simp [State.setMeas, hs]

theorem sampleStandstill_parts (s : State) :
    Touches [.speed, .standstill, .door] s s.sampleStandstill := by
  have set (x : State) (v : Int) (since : Measurement → Option Nat) (still : Measurement → Bool) :
      Touches [.speed, .standstill, .door] x (x.setMeas (fun m => { m with
        v := v, slowSince := since m, standstill := still m })) := fun p hp => by
    cases p <;> first | rfl | exact absurd (by decide) hp
  have judged (x : State) (n : Nat) : Touches [.speed, .standstill, .door] x (x.judgeStandstill n) := by
    have shown : Touches [.speed, .standstill, .door] x (x.setMeas ({ · with standstill := true })) :=
      fun p hp => by cases p <;> first | rfl | exact absurd (by decide) hp
    have noted (y : State) (time : Option UnitTime) : Touches [.speed, .standstill, .door] y
        (y.setDoor ({ · with standstillTime := time })) := fun p hp => by
      cases p <;> first | rfl | exact absurd (by decide) hp
    exact .ite (fun _ => shown.trans (noted _ _)) (fun _ => .refl _ _)
  exact .ite (fun _ => (set s _ (fun m => some (m.slowSince.getD s.clock)) (·.standstill)).trans
    (judged _ _)) (fun _ => set s _ (fun _ => none) (fun _ => false))

theorem sampleAdoption_parts (s : State) : Touches [.position, .marks] s s.sampleAdoption := by
  unfold State.sampleAdoption
  refine .ite (fun _ => ?_) (fun _ => .refl _ _)
  split
  · exact fun p hp => by cases p <;> first | rfl | exact absurd (by decide) hp
  · exact .refl _ _

theorem sampleAdoption_of_not {s : State}
    (h : s.role = .car → s.meas.known = true ∨ s.meas.standstill = false) : s.sampleAdoption = s := by
  refine if_neg fun hc => ?_
  simp only [Bool.and_eq_true, beq_iff_eq, Bool.not_eq_true'] at hc
  rcases h hc.1.1 with hk | hs
  · exact absurd (hk.symm.trans hc.1.2) (by decide)
  · exact absurd (hs.symm.trans hc.2) (by decide)

/-! ## The limits of the position (R29, R31, R34) -/

/-- What the limits change: marks, counts and demands, and of the position the causes present. -/
def limitParts : List Part := [.marks, .counts, .demands, .judged]

theorem missMark_parts (i : Nat) (s : State) : Touches limitParts s (s.missMark i) := by
  have missed : Touches limitParts s (s.setMeas (fun m => { m with
      misses := m.misses + 1
      expected := nextMark (s.conf.candidates s.conf.car) i m.expectedUp })) := fun p hp => by
    cases p <;> first | rfl | exact absurd (by decide) hp
  have counted := missed.trans ((bump_touches .missedMarks _).mono (Y := limitParts) (by decide))
  exact .ite (fun _ => counted.trans ((latch_touches _ _ _).mono (by decide))) (fun _ => counted)

theorem expectFrom_parts (p : Int) (s : State) : Touches [.marks] s (s.expectFrom p) := fun q hq => by
  cases q <;> first | rfl | exact absurd (by decide) hq

theorem sampleMarks_parts (s : State) : Touches limitParts s s.sampleMarks := by
  have sought : Touches limitParts s (if s.meas.signDiffers then s.expectFrom s.ownTrack else s) :=
    .ite (fun _ => (expectFrom_parts _ s).mono (by decide)) (fun _ => .refl _ _)
  unfold State.sampleMarks
  dsimp only
  split
  · split
    · exact .ite (fun _ => sought.trans (missMark_parts _ _)) (fun _ => sought)
    · exact sought
  · exact sought

/-- Where a unit stands, by its measurement. -/
def Measurement.place (m : Measurement) : Int × Bool × Bool × Nat × Nat × Nat :=
  (m.acc, m.known, m.synchronised, m.h, m.u, m.residue)

theorem place_of_touches {X : List Part} {s t : State} (h : Touches X s t)
    (hX : Part.position ∉ X := by decide) : t.meas.place = s.meas.place :=
  congrArg (fun x : Int × Bool × Bool × Nat × Nat × Nat × Bool × Bool =>
    (x.1, x.2.1, x.2.2.1, x.2.2.2.1, x.2.2.2.2.1, x.2.2.2.2.2.1)) (h .position hX)

theorem sampleEndOfTrack_place (s : State) : s.sampleEndOfTrack.meas.place = s.meas.place := by
  unfold State.sampleEndOfTrack
  dsimp only
  split <;> rfl

theorem sampleDegraded_place (s : State) : s.sampleDegraded.meas.place = s.meas.place := by
  unfold State.sampleDegraded
  dsimp only
  split <;> rfl

theorem rememberSign_parts (s : State) : Touches [.marks] s s.rememberSign := by
  unfold State.rememberSign State.setMeas
  dsimp only
  split
  · exact fun q hq => by cases q <;> first | rfl | exact absurd (by decide) hq
  · exact .refl _ _

/-- The limits leave the unit where it stands. -/
theorem sampleLimits_place (s : State) : s.sampleLimits.meas.place = s.meas.place := by
  have marks (x : State) : (if x.role == .car then x.sampleMarks else x).meas.place = x.meas.place := by
    split
    · exact place_of_touches (sampleMarks_parts x)
    · rfl
  unfold State.sampleLimits
  dsimp only
  rw [place_of_touches (rememberSign_parts _)]
  split
  · rw [sampleDegraded_place, marks, sampleEndOfTrack_place]
  · rfl

theorem sampleLimits_parts (s : State) :
    Touches (.position :: limitParts) s s.sampleLimits := by
  have ended (x : State) : Touches (.position :: limitParts) x x.sampleEndOfTrack := by
    have set (b : Bool) : Touches [.position] x (x.setMeas ({ · with outside := b })) := fun q hq => by
      cases q <;> first | rfl | exact absurd (by decide) hq
    exact .ite (fun _ => ((set _).comp (latch_touches _ _ _)).mono (by decide))
      (fun _ => (set _).mono (by decide))
  have degraded (x : State) : Touches (.position :: limitParts) x x.sampleDegraded := by
    have set (b : Bool) : Touches [.position] x (x.setMeas ({ · with degraded := b })) := fun q hq => by
      cases q <;> first | rfl | exact absurd (by decide) hq
    exact .ite (fun _ => ((set _).comp (latch_touches _ _ _)).mono (by decide))
      (fun _ => (set _).mono (by decide))
  unfold State.sampleLimits
  dsimp only
  refine .trans (.ite (fun _ => ?_) (fun _ => .refl _ _)) ((rememberSign_parts _).mono (by decide))
  refine .trans (.trans (ended s) ?_) (degraded _)
  exact .ite (fun _ => (sampleMarks_parts _).mono (by decide)) (fun _ => .refl _ _)

/-! ## What the measurement leaves -/

/-- A measurement agrees with another in what a sample measures beside the position, the marks and the
load. -/
structure MeasuresAs (m t : Measurement) : Prop where
  channel : ∀ ch, t.channel ch = m.channel ch
  status : t.status = m.status
  reference : t.reference = m.reference
  disagreeSince : t.disagreeSince = m.disagreeSince
  agreeSince : t.agreeSince = m.agreeSince
  v : t.v = m.v
  slowSince : t.slowSince = m.slowSince
  standstill : t.standstill = m.standstill

theorem MeasuresAs.of_touches {X : List Part} {s t : State} (h : Touches X s t)
    (hX : ∀ p ∈ [Part.channels, .reference, .speed, .standstill], p ∉ X := by decide) :
    MeasuresAs s.meas t.meas := by
  have channels : (t.meas.e0, t.meas.e1) = (s.meas.e0, s.meas.e1) := h .channels (hX _ (by decide))
  have reference : (t.meas.status, t.meas.reference, t.meas.disagreeSince, t.meas.agreeSince) =
      (s.meas.status, s.meas.reference, s.meas.disagreeSince, s.meas.agreeSince) :=
    h .reference (hX _ (by decide))
  have speed : (t.meas.v, t.meas.slowSince, t.meas.lastSample) =
      (s.meas.v, s.meas.slowSince, s.meas.lastSample) := h .speed (hX _ (by decide))
  simp only [Prod.mk.injEq] at channels reference speed
  obtain ⟨status, ref, disagree, agree⟩ := reference
  refine ⟨fun ch => ?_, status, ref, disagree, agree, speed.1, speed.2.1, h .standstill (hX _ (by decide))⟩
  cases ch with
  | e0 => exact channels.1
  | e1 => exact channels.2

theorem MeasuresAs.trans {a b c : Measurement} (h : MeasuresAs a b) (g : MeasuresAs b c) :
    MeasuresAs a c :=
  ⟨fun ch => (g.channel ch).trans (h.channel ch), g.status.trans h.status,
    g.reference.trans h.reference, g.disagreeSince.trans h.disagreeSince,
    g.agreeSince.trans h.agreeSince, g.v.trans h.v, g.slowSince.trans h.slowSince,
    g.standstill.trans h.standstill⟩

theorem sampleLoad_parts (stood : Bool) (reading : BitVec 16) (s : State) :
    Touches [.weight] s (s.sampleLoad stood reading) := by
  have weighed (m : Measurement) (first : Bool) (load : Nat) : ∃ f p e, m.weigh first load =
      { m with filter := f, published := p, established := e } := by
    unfold Measurement.weigh
    generalize (if first = true then [] else m.filter) ++ [load] = joined
    dsimp only
    split <;> exact ⟨_, _, _, rfl⟩
  refine .ite (fun _ => ?_) (fun _ => .refl _ _)
  obtain ⟨f, p, e, heq⟩ := weighed s.meas (!stood) (s.loadOf reading.toInt)
  rw [State.setMeas, heq]
  exact fun q hq => by cases q <;> first | rfl | exact absurd (by decide) hq

theorem MeasuresAs.of_lastSample (s : State) (x : Option Nat) :
    MeasuresAs s.meas (s.setMeas ({ · with lastSample := x })).meas :=
  ⟨fun ch => by cases ch <;> rfl, rfl, rfl, rfl, rfl, rfl, rfl, rfl⟩

/-- What a sample measures is what its first four stages leave (R21). -/
theorem sample_measuresAs (s : State) (reading : BitVec 16) :
    MeasuresAs (s.restartSample reading).stilled.meas (s.sample reading).meas := by
  have rest := sample_rest_touches reading s
  generalize s.restartSample reading = x at rest ⊢
  have motion := MeasuresAs.of_touches (((sampleAdoption_parts x.stilled).comp
    (sampleLimits_parts _)).comp (sampleLoad_parts x.meas.standstill reading _))
  rw [sampleMeasurement_eq, sampleMotion_eq] at rest
  exact (motion.trans (.of_lastSample _ _)).trans (.of_touches rest)

end Sys2Proof.Machine
end


section
/-! # A sample of a unit underway, and its measurements (O17) -/

namespace Sys2Proof.Machine

open Sys2Proof

/-! ## The trip controller of a DRIVE underway -/

/-- What a supervision sample changes after its inputs are formed. -/
def judgementParts : List Part := [.supervision, .authority, .demands, .judged, .proof, .counts]

theorem takePresent_judgement (l : List Cause) (s : State) :
    Touches judgementParts s (s.takePresent l) :=
  ((setSup_touches _ s).mono (by decide)).trans
    (.foldl (fun t c => (raiseCause_touches c t).mono (by decide)) _ _)

theorem takeResult_judgement (r : SupervisionResult) (s : State) :
    Touches judgementParts s (s.takeResult r) :=
  .ite (fun _ => ((setSup_touches _ s).comp (bump_touches _ _)).mono (by decide))
    (fun _ => (setSup_touches _ s).mono (by decide))

/-- After the inputs a supervision sample leaves the trip controller alone. -/
theorem supervisionSample_judgement (s : State) :
    Touches judgementParts s.supervisionInputs s.supervisionSample :=
  ((((setSup_touches _ _).mono (by decide)).trans (takeResult_judgement _ _)).trans
    (takePresent_judgement _ _))

theorem queueNotice_haulage (s : State) : s.queueNotice.trip.haulage = s.trip.haulage := by
  unfold State.queueNotice
  split
  · rw [enqueue_haulage]
    rfl
  · rfl

theorem supervisionInputs_haulage (s : State) :
    s.supervisionInputs.trip.haulage = s.trip.haulage := by
  unfold State.supervisionInputs
  split
  · have set := (sampleSet_touches s).comp (setSup_touches
      ({ · with authority := s.sampleSet.carAuthority }) s.sampleSet)
    exact congrArg (fun t : TripController => t.haulage) (set.trip_eq (by decide))
  · unfold State.judgeDeclaration State.declareSet1
    split
    · split
      · split
        · exact queueNotice_haulage _
        · rfl
      · rfl
    · rfl

theorem supervisionSample_haulage (s : State) :
    s.supervisionSample.trip.haulage = s.trip.haulage :=
  (congrArg (fun t : TripController => t.haulage)
    ((supervisionSample_judgement s).trip_eq (by decide))).trans (supervisionInputs_haulage s)

theorem sampleBlocks_haulage (reading : BitVec 16) (s : State) :
    (s.sampleBlocks reading).trip.haulage = s.trip.haulage := by
  have measured := (restartSample_touches reading s).comp
    (sampleMeasurement_touches reading (s.restartSample reading))
  have same := congrArg (fun t : TripController => t.haulage) (measured.trip_eq (by decide))
  unfold State.sampleBlocks
  dsimp only
  split
  · exact (supervisionSample_haulage _).trans same
  · exact same

theorem requeueNotice_haulage (owed : Option TripRecord) (s : State) :
    (s.requeueNotice owed).trip.haulage = s.trip.haulage := by
  unfold State.requeueNotice
  split
  · exact queueNotice_haulage s
  · rfl

/-- Underway the trip controller sets nothing but its own state at a sample (R126, R127). -/
theorem haulageSample_underway {s : State}
    (h : s.trip.haulage ∉ [Haulage.unsynced, .stopping, .readyCheck]) :
    Touches [.trip, .requeue] s s.haulageSample := by
  have runs : Touches [.trip, .requeue] s s.runSample := by
    unfold State.runSample
    split
    · exact .ite (fun _ => (setTrip_touches _ s).trans (setTrip_touches _ _))
        (fun _ => setTrip_touches _ s)
    · exact setTrip_touches _ s
  have holds : Touches [.trip, .requeue] s s.holdSample := by
    unfold State.holdSample
    refine .ite (fun _ => setTrip_touches _ s) (fun _ => ?_)
    split <;> exact setTrip_touches _ s
  unfold State.haulageSample
  cases hs : s.trip.haulage with
  | unsynced | stopping | readyCheck =>
    rw [hs] at h
    exact absurd (by decide) h
  | doorClosing => exact .ite (fun _ => setTrip_touches _ s) (fun _ => .refl _ _)
  | running => exact runs
  | recovery => exact .ite (fun _ => runs) (fun _ => .refl _ _)
  | holding => exact holds
  | _ => exact .refl _ _

/-- What the part of the role changes at a sample underway. -/
def underwayParts : List Part :=
  [.trip, .requeue, .queue, .counts, .setCode, .sides, .door, .demands, .judged, .trackAsk]

theorem roleSample_underway {s : State} (h : Underway s) (owed : Option TripRecord) :
    Touches underwayParts s (s.roleSample owed) ∧ Latching s (s.roleSample owed) := by
  unfold State.roleSample
  split
  · next hrole =>
    have queued : Touches [.trip, .requeue, .queue, .counts] s (s.requeueNotice owed) := by
      refine .ite (fun _ => ?_) (fun _ => .refl _ _)
      unfold State.queueNotice
      split
      · exact ((setTrip_touches _ s).comp (enqueue_touches _ _)).mono (by decide)
      · exact .refl _ _
    have under := h hrole
    rw [← requeueNotice_haulage owed] at under
    have unready : ((s.requeueNotice owed).trip.haulage == .readyCheck) = false :=
      beq_eq_false_iff_ne.mpr fun e => under (by rw [e]; decide)
    have trip : Touches [.trip, .requeue, .queue, .counts, .setCode] s (s.tripSample owed) := by
      unfold State.tripSample
      dsimp only
      rw [unready]
      exact (((queued.mono (by decide)).trans ((haulageSample_underway under).mono (by decide))).trans
        ((restSetpoint_touches _).mono (by decide))).trans ((setAnalogCode_touches _).mono (by decide))
    exact ⟨trip.mono (by decide), (Latching.refl s).touch trip⟩
  · have opened := (Latching.refl s).judgeOpenMoving
    have rest := (doorSample_touches_rest s).comp (trackAsk_touches _)
    exact ⟨((judgeOpenMoving_touches s).comp rest).mono (by decide), opened.touch rest⟩
  · exact ⟨.refl _ _, .refl s⟩

/-- After the measurement a sample of a unit underway neither moves it nor releases a demand. -/
theorem sample_underway {s : State} (h : Underway s) (reading : BitVec 16) :
    let m := (s.restartSample reading).sampleMeasurement reading
    Touches (supervisionParts ++ underwayParts ++ riseParts) m (s.sample reading) ∧
      ∀ c, m.latched c ≤ (s.sample reading).latched c := by
  intro m
  have blocks := sampleBlocks_touches_late reading s
  have before := sampleBlocks_touches reading s
  have under : Underway (s.sampleBlocks reading) := fun hrole => by
    rw [sampleBlocks_haulage]
    exact h (before.role_eq.symm.trans hrole)
  obtain ⟨role, latching⟩ := roleSample_underway under s.owedNotice
  have supervised : Latching m (s.sampleBlocks reading) :=
    .ite (fun _ => (Latching.refl _).supervisionSample) (fun _ => .refl _)
  have rise := judgeRise_touches ((s.sampleBlocks reading).roleSample s.owedNotice)
  have motion := queueMotion_touches ((s.sampleBlocks reading).roleSample s.owedNotice).judgeRise
  rw [sample_eq]
  refine ⟨(((blocks.mono (by decide)).trans (role.mono (by decide))).trans
    (rise.mono (by decide))).trans (motion.mono (by decide)), fun c => ?_⟩
  rw [latched_congr (motion .demands (by decide)), latched_congr (rise .demands (by decide))]
  exact (supervised.trans latching).latched_le c

/-! ## From the stages to the state after the sample -/

theorem channelsJudged_channel (s : State) (ch : ChannelId) :
    s.channelsJudged.meas.channel ch = s.judgedChannel ch := by
  have channels : (s.channelsJudged.meas.e0, s.channelsJudged.meas.e1) =
      (s.lossJudged.meas.e0, s.lossJudged.meas.e1) :=
    sampleDisagree_parts s.lossJudged .channels (by decide)
  simp only [Prod.mk.injEq] at channels
  rw [← lossJudged_channel]
  cases ch with
  | e0 => exact channels.1
  | e1 => exact channels.2

theorem stilled_channel (s : State) (ch : ChannelId) : s.stilled.meas.channel ch =
    { s.judgedChannel ch with accAtSample := (s.meas.channel ch).acc, edges := 0 } := by
  have channels : (s.stilled.meas.e0, s.stilled.meas.e1) =
      (s.positioned.meas.e0, s.positioned.meas.e1) :=
    sampleStandstill_parts s.positioned .channels (by decide)
  simp only [Prod.mk.injEq] at channels
  have judged := channelsJudged_channel s ch
  have acc : (s.judgedChannel ch).acc = (s.meas.channel ch).acc := (judgedAt_acc _ _ _ _).1
  rw [← acc, ← judged]
  cases ch with
  | e0 => exact channels.1
  | e1 => exact channels.2

theorem stilled_reference (s : State) :
    s.stilled.meas.status = s.channelsJudged.meas.status ∧
      s.stilled.meas.reference = s.channelsJudged.meas.reference ∧
      s.stilled.meas.disagreeSince = s.channelsJudged.meas.disagreeSince ∧
      s.stilled.meas.agreeSince = s.channelsJudged.meas.agreeSince := by
  have reference : (s.stilled.meas.status, s.stilled.meas.reference, s.stilled.meas.disagreeSince,
      s.stilled.meas.agreeSince) = (s.channelsJudged.meas.status, s.channelsJudged.meas.reference,
      s.channelsJudged.meas.disagreeSince, s.channelsJudged.meas.agreeSince) :=
    ((sampleStandstill_parts s.positioned) .reference (by decide)).trans
      (samplePosition_parts _ s.channelsJudged .reference (by decide))
  simpa only [Prod.mk.injEq] using reference

/-- The demands that the first four stages raise stay to the end of a sample underway. -/
theorem stilled_latches (s : State) : Latching s.lossJudged s.stilled :=
  (((Latching.refl _).sampleDisagree).samplePosition _).sampleStandstill

theorem sample_latched {s : State} (h : Underway s) (reading : BitVec 16) (c : Cause) :
    (s.restartSample reading).stilled.latched c ≤ (s.sample reading).latched c := by
  obtain ⟨-, kept⟩ := sample_underway h reading
  have rest : Latching (s.restartSample reading).stilled
      ((s.restartSample reading).sampleMeasurement reading) := by
    rw [sampleMeasurement_eq, sampleMotion_eq]
    exact ((((Latching.refl _).sampleAdoption).sampleLimits).touch (sampleLoad_parts _ _ _)).setMeas _
  exact (rest.latched_le c).trans (kept c)

theorem loses_stilled (s : State) : (∃ ch, (s.meas.channel ch).inService = true ∧
    (s.stilled.meas.channel ch).inService = false) ↔ s.loses := by
  unfold State.loses
  simp only [stilled_channel]

end Sys2Proof.Machine
end


section
/-! # The measurements of a sample (O17) -/

namespace Sys2Proof.Machine

open Sys2Proof

theorem sampleSpeed_formulas (c : Channel) (len period now : Nat) :
    (c.lastEdge = none → c.sampleSpeed len period now = 0) ∧
    ∀ e : Nat, c.lastEdge = some e →
      (e + 500000 ≤ now → c.sampleSpeed len period now = 0) ∧
      (now < e + 500000 →
        (c.interval = none ∨ 4 ≤ c.edges →
          c.sampleSpeed len period now = saturateSpeed ((c.acc - c.accAtSample).tdiv (period : Int))) ∧
        ∀ i : Nat, c.interval = some i → c.edges < 4 → 0 < max i (now - e) →
          c.sampleSpeed len period now =
            saturateSpeed (signed c.forward (len * 1000 / max i (now - e)))) := by
  unfold Channel.sampleSpeed
  refine ⟨fun h => by rw [h]; rfl, fun e he => ⟨fun hold => ?_, fun hnew => ⟨fun hvoid => ?_,
    fun i hi hedges hpos => ?_⟩⟩⟩
  · rw [he]
    dsimp only
    rw [if_pos (show e + edgeSilence ≤ now from hold)]
    rfl
  · rw [he]
    dsimp only
    rw [if_neg (show ¬e + edgeSilence ≤ now from Nat.not_le.mpr hnew)]
    cases hi : c.interval with
    | none => rfl
    | some i =>
      rcases hvoid with h | h
      · exact nomatch hi.symm.trans h
      · dsimp only
        rw [if_pos h]
  · rw [he]
    dsimp only
    rw [if_neg (show ¬e + edgeSilence ≤ now from Nat.not_le.mpr hnew), hi]
    dsimp only
    rw [if_neg (Nat.not_le.mpr hedges)]
    unfold intervalSpeed
    rw [if_neg (Nat.pos_iff_ne_zero.mp hpos)]

/-- The speed of the larger magnitude under the sign of the reference's (R25). -/
theorem withReferenceSign_spec (r o : Int) :
    (withReferenceSign r o).natAbs = (largerSpeed r o).natAbs ∧
      (0 < r → 0 ≤ withReferenceSign r o) ∧ (r < 0 → withReferenceSign r o ≤ 0) ∧
      (r = 0 → 0 ≤ o → 0 ≤ withReferenceSign r o) := by
  unfold withReferenceSign
  dsimp only
  by_cases hneg : r < 0
  · rw [if_pos hneg]
    omega
  rw [if_neg hneg]
  by_cases hpos : 0 < r
  · rw [if_pos hpos]
    omega
  rw [if_neg hpos]
  by_cases ho : 0 ≤ o
  · rw [if_pos ho]
    omega
  rw [if_neg ho]
  split <;> omega

theorem saturateSpeed_natAbs_le (x : Int) : (saturateSpeed x).natAbs ≤ 16383 := by
  unfold saturateSpeed
  omega

theorem ownSpeed_congr {m t : Measurement} (hs : t.status = m.status) (hr : t.reference = m.reference)
    (hc : ∀ ch, t.channel ch = m.channel ch) : t.ownSpeed = m.ownSpeed := by
  unfold Measurement.ownSpeed
  rw [hs, hr, hc, hc]

/-- The own speed by Table 2-3. -/
theorem ownSpeed_spec (m : Measurement) :
    let reference := (m.channel m.reference).speed
    let other := (m.channel (otherChannel m.reference)).speed
    (m.status = .normal ∨ m.status = .fallback → m.ownSpeed = reference) ∧
      (m.status = .none → m.ownSpeed = largerSpeed reference other) ∧
      (m.status = .disagree → m.ownSpeed = withReferenceSign reference other) := by
  intro reference other
  unfold Measurement.ownSpeed
  refine ⟨?_, fun h => ?_, fun h => ?_⟩
  · rintro (h | h) <;> rw [h]
  · rw [h]
  · rw [h]

theorem publishedSpeed_eq (s : State) : s.publishedSpeed =
    saturateSpeed (if s.conf.identity = .car .b then -s.meas.ownSpeed else s.meas.ownSpeed) := by
  unfold State.publishedSpeed
  split
  · next h => rw [if_pos h]
  · next h => rw [if_neg h]

theorem judgeLoss_parts (a b : Bool) (s : State) :
    Touches [.channels, .reference, .counts, .demands, .judged] s (s.judgeLoss a b) := by
  cases h : (s.meas.e0.inService && a || s.meas.e1.inService && b) with
  | true =>
    rw [judgeLoss_of_lost h]
    have counted := (lossCounted_touches a b s).mono
      (Y := [.channels, .reference, .counts, .demands, .judged]) (by decide)
    exact .ite (fun _ => counted.trans ((latch_touches _ _ _).mono (by decide))) (fun _ => counted)
  | false =>
    rw [judgeLoss_of_kept h]
    exact fun p hp => by cases p <;> first | rfl | exact absurd (by decide) hp

theorem lossJudged_parts (s : State) :
    Touches [.channels, .reference, .counts, .demands, .judged] s s.lossJudged := by
  have timed : Touches [.channels] s s.timed := fun p hp => by
    cases p <;> first | rfl | exact absurd (by decide) hp
  exact (timed.mono (by decide)).trans (judgeLoss_parts _ _ _)

theorem channelsJudged_parts (s : State) :
    Touches [.channels, .reference, .counts, .demands, .judged] s s.channelsJudged :=
  (lossJudged_parts s).trans ((sampleDisagree_parts _).mono (by decide))

theorem lossJudged_supervises (s : State) : s.lossJudged.supervises = s.supervises := by
  unfold State.supervises
  rw [(lossJudged_parts s).role_eq]

theorem stilled_v (s : State) : s.stilled.meas.v = s.positioned.publishedSpeed := by
  obtain ⟨fast, slow⟩ := sampleStandstill_meas s.positioned
  by_cases h : 20 ≤ s.positioned.publishedSpeed.natAbs
  · exact congrArg Measurement.v (fast h)
  · exact congrArg Measurement.v (slow (by omega))

/-- The published speed of a sample, in the sense of haul position (R26). -/
theorem sampled_v {s : State} {t : Measurement} (h : MeasuresAs s.stilled.meas t) :
    t.v = saturateSpeed (if s.conf.identity = .car .b then -t.ownSpeed else t.ownSpeed) := by
  have stilled := sampleStandstill_parts s.positioned
  have same : MeasuresAs s.positioned.meas
      { s.stilled.meas with
        v := s.positioned.meas.v, slowSince := s.positioned.meas.slowSince
        standstill := s.positioned.meas.standstill } := by
    have reference : (s.stilled.meas.status, s.stilled.meas.reference, s.stilled.meas.disagreeSince,
        s.stilled.meas.agreeSince) = _ := stilled .reference (by decide)
    have channels : (s.stilled.meas.e0, s.stilled.meas.e1) = _ := stilled .channels (by decide)
    simp only [Part.of, Prod.mk.injEq] at reference channels
    obtain ⟨status, ref, d, a⟩ := reference
    refine ⟨fun ch => ?_, status, ref, d, a, rfl, rfl, rfl⟩
    cases ch with
    | e0 => exact channels.1
    | e1 => exact channels.2
  have own : t.ownSpeed = s.positioned.meas.ownSpeed :=
    (ownSpeed_congr h.status h.reference h.channel).trans
      (ownSpeed_congr (t := { s.stilled.meas with
        v := s.positioned.meas.v, slowSince := s.positioned.meas.slowSince
        standstill := s.positioned.meas.standstill }) same.status same.reference same.channel)
  have conf : s.positioned.conf = s.conf :=
    ((samplePosition_parts _ _).conf_eq).trans (channelsJudged_parts s).conf_eq
  rw [h.v, stilled_v, publishedSpeed_eq, own, conf]

/-- The position moves by the travel of the channel that was the reference in the sample, and u grows with
it while the position is known (R28, R29). -/
theorem positioned_place (s : State) :
    let travel := (s.meas.channel s.meas.reference).acc - (s.meas.channel s.meas.reference).accAtSample
    let grown := s.meas.residue + travel.natAbs * s.k .drift
    s.positioned.meas.place =
      (s.meas.acc + travel, s.meas.known, s.meas.synchronised,
        s.conf.clampPosition (s.conf.rawHaul (s.meas.acc + travel)),
        if s.meas.known then min 65535 (s.meas.u + grown / 1000000) else s.meas.u,
        if s.meas.known then grown % 1000000 else s.meas.residue) := by
  intro travel grown
  have judged := channelsJudged_parts s
  have place : s.channelsJudged.meas.place = s.meas.place := place_of_touches judged
  have conf : s.channelsJudged.conf = s.conf := judged.conf_eq
  have moved : (s.channelsJudged.meas.channel s.meas.reference).travel = travel := by
    rw [channelsJudged_channel]
    obtain ⟨acc, before, -⟩ := judgedAt_acc (s.speedOf (otherChannel s.meas.reference)) s.clock
      s.unitTime { s.meas.channel s.meas.reference with speed := s.speedOf s.meas.reference }
    unfold Channel.travel State.judgedChannel
    rw [acc, before]
  unfold Measurement.place at place ⊢
  simp only [Prod.mk.injEq] at place
  obtain ⟨acc, known, sync, h, u, residue⟩ := place
  unfold State.positioned State.samplePosition
  dsimp only [State.setMeas]
  rw [moved, acc, known, sync, u, residue]
  unfold State.k
  rw [conf]
  rfl

theorem stilled_place (s : State) : s.stilled.meas.place = s.positioned.meas.place :=
  place_of_touches (sampleStandstill_parts s.positioned)

theorem stilled_known (s : State) : s.stilled.meas.known = s.meas.known := by
  have place := stilled_place s
  rw [positioned_place] at place
  unfold Measurement.place at place
  simp only [Prod.mk.injEq] at place
  exact place.2.1

/-- What a sample of a unit underway makes of its position, where it adopts none. -/
theorem sample_place {s : State} (h : Underway s) (reading : BitVec 16)
    (hadopt : s.role = .car → s.meas.known = true ∨ (s.sample reading).meas.standstill = false) :
    (s.sample reading).meas.place = (s.restartSample reading).positioned.meas.place := by
  obtain ⟨rest, -⟩ := sample_underway h reading
  have measured := sample_measuresAs s reading
  have role : (s.restartSample reading).stilled.role = s.role :=
    (sampleStandstill_parts _).role_eq.trans ((samplePosition_parts _ _).role_eq.trans
      ((channelsJudged_parts _).role_eq))
  have known : (s.restartSample reading).stilled.meas.known = s.meas.known :=
    stilled_known (s.restartSample reading)
  have unadopted : (s.restartSample reading).stilled.sampleAdoption =
      (s.restartSample reading).stilled := sampleAdoption_of_not fun hcar => by
    rw [known, ← measured.standstill]
    exact hadopt (role.symm.trans hcar)
  have weighed : ((s.restartSample reading).sampleMeasurement reading).meas.place =
      (s.restartSample reading).stilled.meas.place := by
    have untimed (y : State) (n : Option Nat) :
        (y.setMeas ({ · with lastSample := n })).meas.place = y.meas.place := rfl
    rw [sampleMeasurement_eq, sampleMotion_eq, unadopted, untimed,
      place_of_touches (sampleLoad_parts _ _ _), sampleLimits_place]
  exact (place_of_touches rest).trans (weighed.trans (stilled_place _))

/-- What the loss criteria and the comparison leave of the reference, told of the measurement after the
sample (R24, R25). -/
theorem sampled_reference {s : State} {t : Measurement} (h : MeasuresAs s.stilled.meas t) :
    let lost := ∃ ch, (s.meas.channel ch).inService = true ∧ (t.channel ch).inService = false
    let both := t.e0.inService = true ∧ t.e1.inService = true
    let differ := s.k .disagreeTolerance < (t.e0.speed - t.e1.speed).natAbs
    (lost →
      (∀ ch, (t.channel ch).inService = true → t.status = .fallback ∧ t.reference = ch) ∧
      (t.e0.inService = false → t.e1.inService = false →
        t.status = .none ∧ t.reference = s.meas.reference)) ∧
    (¬lost → t.reference = s.meas.reference ∧
      (¬(s.supervises = true ∧ both) → t.status = s.meas.status) ∧
      (s.supervises = true → both →
        (differ → t.disagreeSince = some (s.meas.disagreeSince.getD s.clock) ∧ t.agreeSince = none) ∧
        (¬differ → t.disagreeSince = none ∧
          t.agreeSince = some (s.meas.agreeSince.getD s.clock)) ∧
        (s.meas.status = .normal → t.status =
          if ranFor t.disagreeSince s.clock 500 = true then .disagree else .normal) ∧
        (s.meas.status = .disagree → t.status =
          if ranFor t.agreeSince s.clock 500 = true then .normal else .disagree) ∧
        (s.meas.status = .fallback ∨ s.meas.status = .none → t.status = s.meas.status))) := by
  intro lost both differ
  obtain ⟨status, reference, disagree, agree⟩ := stilled_reference s
  have status := h.status.trans status
  have reference := h.reference.trans reference
  have disagree := h.disagreeSince.trans disagree
  have agree := h.agreeSince.trans agree
  have channel (ch : ChannelId) : (t.channel ch).inService = (s.lossJudged.meas.channel ch).inService ∧
      (t.channel ch).speed = (s.lossJudged.meas.channel ch).speed := by
    rw [h.channel, stilled_channel, lossJudged_channel]
    exact ⟨rfl, rfl⟩
  have s0 : t.e0.inService = s.lossJudged.meas.e0.inService := (channel .e0).1
  have s1 : t.e1.inService = s.lossJudged.meas.e1.inService := (channel .e1).1
  have loses : lost ↔ s.loses := by
    rw [← loses_stilled]
    simp only [lost, h.channel]
  refine ⟨fun hlost => ?_, fun hkept => ?_⟩
  · obtain ⟨left, gone⟩ := lossJudged_lost (loses.mp hlost)
    have single : s.channelsJudged = s.lossJudged := sampleDisagree_off fun hboth => by
      obtain ⟨ch, -, hout⟩ := hlost
      rw [(channel ch).1] at hout
      cases ch with
      | e0 => exact absurd (hout.symm.trans hboth.2.1) (by decide)
      | e1 => exact absurd (hout.symm.trans hboth.2.2) (by decide)
    rw [single] at status reference
    rw [status, reference]
    refine ⟨fun ch hch => left ch ((channel ch).1 ▸ hch), fun h0 h1 => ?_⟩
    exact gone (s0 ▸ h0) (s1 ▸ h1)
  · obtain ⟨kstatus, kreference, kdisagree, kagree⟩ := lossJudged_kept (mt loses.mpr hkept)
    have unsupervised := lossJudged_supervises s
    by_cases hon : s.supervises = true ∧ both
    · obtain ⟨hsup, h0, h1⟩ := hon
      obtain ⟨meas, -⟩ := sampleDisagree_meas (unsupervised.trans hsup) ⟨s0 ▸ h0, s1 ▸ h1⟩
      have differs : s.lossJudged.speedsDisagree = decide differ := by
        unfold State.speedsDisagree
        rw [(lossJudged_parts s).k_eq]
        rw [show s.lossJudged.meas.e0.speed = t.e0.speed from (channel .e0).2.symm,
          show s.lossJudged.meas.e1.speed = t.e1.speed from (channel .e1).2.symm]
      have clock : s.lossJudged.clock = s.clock := (lossJudged_parts s).clock_eq
      have compared : s.channelsJudged.meas = s.lossJudged.comparison := meas
      rw [compared] at status reference disagree agree
      unfold State.comparison at status reference disagree agree
      dsimp only at status reference disagree agree
      rw [differs, kdisagree, clock] at disagree
      rw [differs, kagree, clock] at agree
      rw [differs, kdisagree, kagree, clock, kstatus, ← disagree, ← agree] at status
      refine ⟨reference.trans kreference, fun hoff => absurd ⟨hsup, h0, h1⟩ hoff, fun _ _ => ?_⟩
      refine ⟨fun hd => ?_, fun hd => ?_, fun hst => ?_, fun hst => ?_, ?_⟩
      · rw [disagree, agree, decide_eq_true hd]
        exact ⟨rfl, rfl⟩
      · rw [disagree, agree, decide_eq_false hd]
        exact ⟨rfl, rfl⟩
      · rw [hst] at status
        exact status
      · rw [hst] at status
        exact status
      · rintro (hst | hst) <;> rw [hst] at status ⊢ <;> exact status
    · have off : s.channelsJudged = s.lossJudged := sampleDisagree_off fun hboth => hon
        ⟨unsupervised ▸ hboth.1, s0.trans hboth.2.1, s1.trans hboth.2.2⟩
      rw [off] at status reference
      refine ⟨reference.trans kreference, fun _ => status.trans kstatus, fun hsup hboth => ?_⟩
      exact absurd ⟨hsup, hboth⟩ hon

end Sys2Proof.Machine
end


section
/-! # A due sample measures (O17) -/

namespace Sys2Proof.Machine

open Sys2Proof

/-- What a sample makes of a channel (R20, R23, R24). -/
theorem sampled_channel {s : State} {t : Measurement} (h : MeasuresAs s.stilled.meas t)
    (ch : ChannelId) :
    let c := s.meas.channel ch
    let d := t.channel ch
    d.speed = c.sampleSpeed (s.countLength ch) s.conf.samplePeriod s.clock ∧
    d.zeroSince = (if d.speed = 0 ∧ 200 ≤ (t.channel (otherChannel ch)).speed.natAbs
      then some (c.zeroSince.getD s.clock) else none) ∧
    d.inService = (c.inService && !(d.silentAt s.clock || d.illegalAt s.clock)) ∧
    d.lastFault = (if (d.silentAt s.clock || d.illegalAt s.clock) = true
      then some s.unitTime else c.lastFault) := by
  intro c d
  have judged (ch : ChannelId) : t.channel ch =
      { s.judgedChannel ch with accAtSample := (s.meas.channel ch).acc, edges := 0 } :=
    (h.channel ch).trans (stilled_channel s ch)
  have speed (ch : ChannelId) : (t.channel ch).speed = s.speedOf ch := by
    rw [judged ch]
    exact (judgedAt_acc _ _ _ _).2.2
  have fault : (d.silentAt s.clock || d.illegalAt s.clock) = (s.judgedChannel ch).faultAt s.clock := by
    show (t.channel ch).faultAt s.clock = _
    rw [judged ch]
    rfl
  refine ⟨speed ch, ?_, ?_, ?_⟩
  · rw [speed (otherChannel ch), show d.speed = s.speedOf ch from speed ch]
    show (t.channel ch).zeroSince = _
    rw [judged ch]
    exact judgedAt_zeroSince _ _ _ _
  · rw [fault]
    show (t.channel ch).inService = _
    rw [judged ch]
    exact judgedAt_inService _ _ _ _
  · rw [fault]
    show (t.channel ch).lastFault = _
    rw [judged ch]
    exact judgedAt_lastFault _ _ _ _

/-- The standstill timer of a sample (R22). -/
theorem sampled_standstill {s : State} {t : Measurement} (h : MeasuresAs s.stilled.meas t) :
    (20 ≤ t.v.natAbs → t.slowSince = none ∧ t.standstill = false) ∧
    (t.v.natAbs < 20 → t.slowSince = some (s.meas.slowSince.getD s.clock) ∧
      t.standstill =
        (s.meas.standstill || decide (s.meas.slowSince.getD s.clock + 500000 ≤ s.clock))) := by
  have before := (channelsJudged_parts s).comp (samplePosition_parts s.meas.reference _)
  have clock : s.positioned.clock = s.clock := before.clock_eq (by decide)
  have still : s.positioned.meas.standstill = s.meas.standstill := before .standstill (by decide)
  have slow : s.positioned.meas.slowSince = s.meas.slowSince :=
    congrArg (fun p : Int × Option Nat × Option Nat => p.2.1) (before .speed (by decide))
  have v : t.v = s.positioned.publishedSpeed := h.v.trans (stilled_v s)
  obtain ⟨fast, stands⟩ := sampleStandstill_meas s.positioned
  rw [v]
  refine ⟨fun hv => ?_, fun hv => ?_⟩
  · rw [h.slowSince, h.standstill, State.stilled, fast hv]
    exact ⟨rfl, rfl⟩
  · rw [h.slowSince, h.standstill, State.stilled, stands hv, ← clock, ← still, ← slow]
    exact ⟨rfl, rfl⟩

/-- With no channel left in service a unit that supervises latches REFERENCE_LOST (R24). -/
theorem stilled_referenceLost {s : State} (hlen : s.brake.demands.length = 20)
    (hsup : s.supervises = true)
    (hlost : ∃ ch, (s.meas.channel ch).inService = true ∧ (s.stilled.meas.channel ch).inService = false)
    (h0 : s.stilled.meas.e0.inService = false) (h1 : s.stilled.meas.e1.inService = false) :
    2 ≤ s.stilled.latched .referenceLost := by
  have out (ch : ChannelId) (h : (s.stilled.meas.channel ch).inService = false) :
      (s.lossJudged.meas.channel ch).inService = false := by
    rw [stilled_channel] at h
    rw [lossJudged_channel]
    exact h
  exact (lossJudged_latches hlen ((loses_stilled s).mp hlost) hsup (out .e0 h0) (out .e1 h1)).trans
    ((stilled_latches s).latched_le _)

/-- The comparison that turns NORMAL into DISAGREE latches REFERENCE_DISAGREE (R25). -/
theorem stilled_referenceDisagree {s : State} (hlen : s.brake.demands.length = 20)
    (hsup : s.supervises = true)
    (hkept : ¬∃ ch, (s.meas.channel ch).inService = true ∧ (s.stilled.meas.channel ch).inService = false)
    (hboth : s.stilled.meas.e0.inService = true ∧ s.stilled.meas.e1.inService = true)
    (hbefore : s.meas.status = .normal) (hafter : s.stilled.meas.status = .disagree) :
    1 ≤ s.stilled.latched .referenceDisagree := by
  have kept : ¬s.loses := mt (loses_stilled s).mpr hkept
  have service (ch : ChannelId) (h : (s.stilled.meas.channel ch).inService = true) :
      (s.lossJudged.meas.channel ch).inService = true := by
    rw [stilled_channel] at h
    rw [lossJudged_channel]
    exact h
  obtain ⟨meas, latched⟩ := sampleDisagree_meas ((lossJudged_supervises s).trans hsup)
    ⟨service .e0 hboth.1, service .e1 hboth.2⟩
  have length : s.lossJudged.brake.demands.length = 20 := by
    rw [lossJudged_eq, judgeLoss_of_kept (s := s.timed) (Bool.not_eq_true _ |>.mp (mt (loses_iff s).mpr kept))]
    exact hlen
  have compared : s.lossJudged.comparison.status = .disagree := by
    rw [← meas, ← hafter]
    exact (stilled_reference s).1.symm
  have later : Latching s.channelsJudged s.stilled :=
    ((Latching.refl _).samplePosition _).sampleStandstill
  exact (latched length ((lossJudged_kept kept).1.trans hbefore) compared).trans (later.latched_le _)

/-- Settles O17: each clause is what one stage of the sample leaves, and no later stage touches it. -/
theorem sampleStandstill : Obligations.SampleStandstill := by
  refine ⟨fun c len period now => ?_, fun dt reading s hrun hdue => ?_⟩
  · exact sampleSpeed_formulas c len period now
  intro now
  set n := s.advance dt with hn
  obtain ⟨t, hexec, ht⟩ := exec_settledFrom (c := .sampleEvent dt reading) (s := s)
    (x := n.sample reading) rfl (if_pos (Bool.and_eq_true_iff.mpr ⟨hrun, hdue⟩))
  have meas : t.meas = (n.sample reading).meas := ht.touches.meas_eq (by decide)
  set x := n.restartSample reading with hx
  have same : x.meas = s.meas := rfl
  have role : x.supervises = s.supervises := rfl
  have measures : MeasuresAs x.stilled.meas t.meas := by
    rw [meas]
    exact sample_measuresAs n reading
  have effective (law : BrakeLaw s) {c : Cause} {level : Nat} (hc : c ∈ demandCauses)
      (hu : Underway s) (h : level ≤ x.stilled.latched c) :
      level ≤ t.latched c ∧ level ≤ t.brake.effective := by
    have latched : level ≤ t.latched c := by
      rw [ht.2.2.2.2 c hc]
      exact h.trans (sample_latched (s := n) hu reading c)
    exact ⟨latched, effective_of_latched (exec_keepsBrakeLaw law hexec) latched⟩
  have out (ch : ChannelId) : (t.meas.channel ch).inService = (x.stilled.meas.channel ch).inService :=
    congrArg Channel.inService (measures.channel ch)
  have lostAlike : (∃ ch, (s.meas.channel ch).inService = true ∧ (t.meas.channel ch).inService = false) ↔
      ∃ ch, (x.meas.channel ch).inService = true ∧ (x.stilled.meas.channel ch).inService = false := by
    simp only [out, same]
  refine ⟨t, hexec, sampled_channel (s := x) measures, ?_, ?_, fun hu hplace => ?_, ?_,
    (sampled_standstill measures).1, (sampled_standstill (s := x) measures).2⟩
  · obtain ⟨lost, kept⟩ := sampled_reference (s := x) measures
    refine ⟨fun hlost => ⟨(lost hlost).1, fun h0 h1 => ?_⟩, fun hkept => ?_⟩
    · obtain ⟨status, reference⟩ := (lost hlost).2 h0 h1
      refine ⟨status, reference, fun law hsup hu => effective law (by decide) hu ?_⟩
      exact stilled_referenceLost law.1 hsup (lostAlike.mp hlost) ((out .e0).symm.trans h0)
        ((out .e1).symm.trans h1)
    · obtain ⟨reference, off, on⟩ := kept hkept
      refine ⟨reference, off, fun hsup hboth => ?_⟩
      obtain ⟨differ, agree, normal, disagree, rest⟩ := on hsup hboth
      refine ⟨differ, agree, normal, disagree, rest, fun law hu hbefore hafter =>
        effective law (by decide) hu ?_⟩
      exact stilled_referenceDisagree law.1 hsup (mt lostAlike.mpr hkept)
        ⟨(out .e0).symm.trans hboth.1, (out .e1).symm.trans hboth.2⟩ hbefore
        (measures.status.symm.trans hafter)
  · obtain ⟨single, none, differing⟩ := ownSpeed_spec t.meas
    refine ⟨t.meas.ownSpeed, sampled_v (s := x) measures, single, none, fun h => ?_⟩
    rw [differing h]
    exact withReferenceSign_spec _ _
  · have place := (sample_place (s := n) hu reading (by rw [← meas]; exact hplace)).trans
      (positioned_place x)
    rw [← meas] at place
    unfold Measurement.place at place
    simp only [Prod.mk.injEq] at place
    obtain ⟨acc, known, -, h, u, residue⟩ := place
    refine ⟨acc, by rw [h, acc]; rfl, known, fun hk => ?_, fun hk => ?_⟩
    · rw [u, residue, if_pos (show x.meas.known = true from hk),
        if_pos (show x.meas.known = true from hk)]
      exact ⟨rfl, rfl⟩
    · have unknown : ¬x.meas.known = true := by
        rw [same, hk]
        decide
      rw [u, residue, if_neg unknown, if_neg unknown]
      exact ⟨rfl, rfl⟩
  · rw [sampled_v (s := x) measures]
    exact saturateSpeed_natAbs_le _

end Sys2Proof.Machine
end


section
/-! # The limits of a position, stage by stage (R29, R31, R33, R34) -/

namespace Sys2Proof.Machine

open Sys2Proof

/-- The list of demands keeps its length where demands only latch. -/
theorem Latching.length_le {s t : State} (h : Latching s t) :
    s.brake.demands.length ≤ t.brake.demands.length := by
  by_contra hlt
  obtain ⟨e, he, -⟩ := h.levels t.brake.demands.length _
    (List.getElem?_eq_getElem (Nat.not_le.mp hlt))
  exact absurd (he.symm.trans (List.getElem?_eq_none le_rfl)) nofun

theorem le_latched_latch {s : State} (hlen : 20 ≤ s.brake.demands.length) {c : Cause}
    (hc : c ∈ demandCauses) (level : Nat) : level ≤ (s.latch c level).latched c := by
  have hlt : causeCode c - 1 < s.brake.demands.length := (causeCode_lt hc).trans_le hlen
  simp [State.latched, State.latch, List.getElem?_eq_getElem hlt]

/-! ## The causes of the position -/

theorem sampleEndOfTrack_meas (s : State) : s.sampleEndOfTrack.meas =
    { s.meas with outside := s.conf.offTrack (s.conf.rawHaul s.meas.acc) } := by
  unfold State.sampleEndOfTrack
  dsimp only
  split <;> rfl

theorem sampleDegraded_meas (s : State) : s.sampleDegraded.meas =
    { s.meas with degraded := decide (s.k .uMax < s.meas.u) } := by
  unfold State.sampleDegraded
  dsimp only
  split <;> rfl

theorem sampleEndOfTrack_latches {s : State} (hlen : 20 ≤ s.brake.demands.length)
    (hnow : s.conf.offTrack (s.conf.rawHaul s.meas.acc) = true) (hbefore : s.meas.outside = false) :
    2 ≤ s.sampleEndOfTrack.latched .endOfTrack := by
  unfold State.sampleEndOfTrack
  dsimp only
  rw [hnow, hbefore, if_pos (by decide)]
  exact le_latched_latch hlen (by decide) _

theorem sampleDegraded_latches {s : State} (hlen : 20 ≤ s.brake.demands.length)
    (hnow : s.k .uMax < s.meas.u) (hbefore : s.meas.degraded = false) :
    1 ≤ s.sampleDegraded.latched .positionDegraded := by
  unfold State.sampleDegraded
  dsimp only
  rw [decide_eq_true hnow, hbefore, if_pos (by decide)]
  exact le_latched_latch hlen (by decide) _

theorem sampleEndOfTrack_parts (s : State) :
    Touches [.position, .demands, .judged] s s.sampleEndOfTrack := by
  have set (b : Bool) : Touches [.position, .demands, .judged] s (s.setMeas ({ · with outside := b })) :=
    fun q hq => by cases q <;> first | rfl | exact absurd (by decide) hq
  exact .ite (fun _ => (set _).trans ((latch_touches _ _ _).mono (by decide))) (fun _ => set _)

theorem sampleDegraded_parts (s : State) :
    Touches [.position, .demands, .judged] s s.sampleDegraded := by
  have set (b : Bool) : Touches [.position, .demands, .judged] s
      (s.setMeas ({ · with degraded := b })) :=
    fun q hq => by cases q <;> first | rfl | exact absurd (by decide) hq
  exact .ite (fun _ => (set _).trans ((latch_touches _ _ _).mono (by decide))) (fun _ => set _)

/-! ## The expected mark -/

/-- The first candidate ahead lies strictly ahead. -/
theorem firstAhead_ahead {l : List Mark} {p : Int} {up : Bool} {i : Nat} {m : Mark}
    (h : firstAhead l p up = some i) (hm : l[i]? = some m) :
    if up then p < m.position else (m.position : Int) < p := by
  unfold firstAhead at h
  have same {x : Mark × Nat} (hx : x ∈ l.zipIdx) (hi : x.2 = i) : x.1 = m := by
    have hat := List.mem_zipIdx_iff_getElem?.mp hx
    rw [hi, hm] at hat
    exact (Option.some.inj hat).symm
  cases up with
  | true =>
    obtain ⟨x, hx, hi⟩ := Option.map_eq_some_iff.mp h
    rw [← same (List.mem_of_find?_eq_some hx) hi]
    have ahead := List.find?_some hx
    exact of_decide_eq_true (p := p < (x.1.position : Int)) ahead
  | false =>
    obtain ⟨x, hx, hi⟩ := Option.map_eq_some_iff.mp h
    rw [← same (List.mem_reverse.mp (List.mem_of_find?_eq_some hx)) hi]
    have ahead := List.find?_some hx
    exact of_decide_eq_true (p := (x.1.position : Int) < p) ahead

/-- The expected mark judged against the position (R31). -/
def State.checkExpected (s : State) : State :=
  match s.meas.expected with
  | some i =>
      match (s.conf.candidates s.conf.car)[i]? with
      | some m => if s.beyondExpected m then s.missMark i else s
      | none => s
  | none => s

theorem sampleMarks_eq (s : State) : s.sampleMarks =
    (if s.meas.signDiffers then s.expectFrom s.ownTrack else s).checkExpected := rfl

/-- The expected mark is the one formed at the position of this sample. -/
structure ExpectsAhead (s : State) : Prop where
  expected : s.meas.expected = firstAhead (s.conf.candidates s.conf.car) s.ownTrack s.ownTravelUp
  up : s.meas.expectedUp = s.ownTravelUp

theorem expectFrom_expectsAhead (s : State) : ExpectsAhead (s.expectFrom s.ownTrack) := ⟨rfl, rfl⟩

/-- A mark just formed lies ahead, and is not missed in the same sample. -/
theorem ExpectsAhead.checkExpected {s : State} (h : ExpectsAhead s) : s.checkExpected = s := by
  unfold State.checkExpected
  split
  · next i hi =>
    split
    · next m hm =>
      have ahead := firstAhead_ahead (h.expected.symm.trans hi) hm
      refine if_neg fun hbeyond => ?_
      unfold State.beyondExpected at hbeyond
      rw [h.up] at hbeyond
      split at hbeyond
      · next hup =>
        rw [if_pos hup] at ahead
        have := of_decide_eq_true hbeyond
        omega
      · next hup =>
        rw [if_neg hup] at ahead
        have := of_decide_eq_true hbeyond
        omega
    · rfl
  · rfl

theorem sampleMarks_sought {s : State} (h : s.meas.signDiffers = true) :
    s.sampleMarks = s.expectFrom s.ownTrack := by
  rw [sampleMarks_eq, if_pos h]
  exact (expectFrom_expectsAhead s).checkExpected

/-- A unit that has just formed its expected mark keeps it through the sample. -/
theorem ExpectsAhead.sampleMarks {s : State} (h : ExpectsAhead s) :
    s.sampleMarks.meas.expected = s.meas.expected ∧ s.sampleMarks.meas.misses = s.meas.misses := by
  cases hd : s.meas.signDiffers with
  | true =>
    rw [sampleMarks_sought hd]
    exact ⟨h.expected.symm, rfl⟩
  | false =>
    rw [sampleMarks_eq, if_neg (by rw [hd]; decide), h.checkExpected]
    exact ⟨rfl, rfl⟩

theorem sampleMarks_none {s : State} (hd : s.meas.signDiffers = false) (h : s.meas.expected = none) :
    s.sampleMarks = s := by
  rw [sampleMarks_eq, if_neg (by rw [hd]; decide)]
  unfold State.checkExpected
  rw [h]

theorem sampleMarks_some {s : State} {i : Nat} {m : Mark} (hd : s.meas.signDiffers = false)
    (h : s.meas.expected = some i) (hm : (s.conf.candidates s.conf.car)[i]? = some m) :
    s.sampleMarks = if s.beyondExpected m then s.missMark i else s := by
  rw [sampleMarks_eq, if_neg (by rw [hd]; decide)]
  unfold State.checkExpected
  rw [h]
  dsimp only
  rw [hm]

theorem missMark_meas (i : Nat) (s : State) : (s.missMark i).meas =
    { s.meas with
      misses := s.meas.misses + 1
      expected := nextMark (s.conf.candidates s.conf.car) i s.meas.expectedUp } := by
  unfold State.missMark
  dsimp only
  split <;> rfl

theorem missMark_count (i : Nat) (s : State) :
    (s.missMark i).count .missedMarks = (s.bump .missedMarks).count .missedMarks := by
  unfold State.missMark
  dsimp only
  split <;> rfl

theorem missMark_latches {i : Nat} {s : State} (hlen : 20 ≤ s.brake.demands.length)
    (h : s.meas.misses + 1 = 2) : 1 ≤ (s.missMark i).latched .missedMarks := by
  unfold State.missMark
  dsimp only
  split
  · exact le_latched_latch (s := (s.setMeas _).bump _) hlen (by decide) _
  · next hne => exact absurd h hne

/-- No stage of the marks changes the sense or the sign remembered but a mark formed anew. -/
theorem sampleMarks_expectedUp {s : State} (hd : s.meas.signDiffers = false) :
    s.sampleMarks.meas.expectedUp = s.meas.expectedUp := by
  rw [sampleMarks_eq, if_neg (by rw [hd]; decide)]
  unfold State.checkExpected
  split
  · split
    · split
      · rw [missMark_meas]
      · rfl
    · rfl
  · rfl

theorem sampleMarks_lastSign (s : State) : s.sampleMarks.meas.lastSign = s.meas.lastSign := by
  have checked (x : State) : x.checkExpected.meas.lastSign = x.meas.lastSign := by
    unfold State.checkExpected
    split
    · split
      · split
        · rw [missMark_meas]
        · rfl
      · rfl
    · rfl
  rw [sampleMarks_eq, checked]
  split <;> rfl

/-! ## The limits as a whole -/

theorem rememberSign_meas (s : State) : s.rememberSign.meas =
    { s.meas with lastSign :=
        if 20 ≤ s.meas.v.natAbs then some (decide (0 < s.meas.v)) else s.meas.lastSign } := by
  unfold State.rememberSign
  dsimp only [State.setMeas]
  split <;> rfl

/-- The end of the track and, at a CAR, the marks: the limits before POSITION_DEGRADED. -/
def State.trackJudged (s : State) : State :=
  if s.sampleEndOfTrack.role == .car then s.sampleEndOfTrack.sampleMarks else s.sampleEndOfTrack

theorem sampleLimits_of_known {s : State} (hk : s.meas.known = true) (hsup : s.supervises = true) :
    s.sampleLimits = s.trackJudged.sampleDegraded.rememberSign := by
  unfold State.sampleLimits
  rw [if_pos (by rw [hk, hsup]; rfl)]
  rfl

theorem sampleLimits_of_unjudged {s : State} (h : ¬(s.meas.known = true ∧ s.supervises = true)) :
    s.sampleLimits = s.rememberSign := by
  unfold State.sampleLimits
  rw [if_neg (by rw [Bool.and_eq_true]; exact h)]

theorem trackJudged_of_car {s : State} (h : s.role = .car) :
    s.trackJudged = s.sampleEndOfTrack.sampleMarks := by
  refine if_pos ?_
  rw [(sampleEndOfTrack_parts s).role_eq, h]
  rfl

theorem trackJudged_parts (s : State) :
    Touches limitParts s.sampleEndOfTrack s.trackJudged :=
  .ite (fun _ => sampleMarks_parts _) (fun _ => .refl _ _)

theorem trackJudged_latching (s : State) : Latching s.sampleEndOfTrack s.trackJudged :=
  .ite (fun _ => (Latching.refl _).sampleMarks) (fun _ => .refl _)

theorem trackJudged_lastSign (s : State) : s.trackJudged.meas.lastSign = s.meas.lastSign := by
  unfold State.trackJudged
  split
  · rw [sampleMarks_lastSign, sampleEndOfTrack_meas]
  · rw [sampleEndOfTrack_meas]

/-- The sign remembered after the limits (R31). -/
theorem sampleLimits_lastSign (s : State) : s.sampleLimits.meas.lastSign =
    if 20 ≤ s.meas.v.natAbs then some (decide (0 < s.meas.v)) else s.meas.lastSign := by
  by_cases h : s.meas.known = true ∧ s.supervises = true
  · have v : s.trackJudged.meas.v = s.meas.v :=
      congrArg (fun p : Int × Option Nat × Option Nat => p.1)
        (((sampleEndOfTrack_parts s).comp (trackJudged_parts s)) .speed (by decide))
    rw [sampleLimits_of_known h.1 h.2, rememberSign_meas, sampleDegraded_meas]
    dsimp only
    rw [v, trackJudged_lastSign]
  · rw [sampleLimits_of_unjudged h, rememberSign_meas]

end Sys2Proof.Machine
end


section
/-! # What a sample makes of position and marks (O16) -/

namespace Sys2Proof.Machine

open Sys2Proof

/-! ## The count of missed marks -/

namespace KeepsCounts

/-- A sample of the door block counts nothing but what it queues. -/
theorem doorSample (s : State) : KeepsCounts s s.doorSample := by
  have moving : KeepsCounts s s.judgeOpenMoving := of_touches (judgeOpenMoving_touches s) (by decide)
  unfold State.doorSample
  dsimp only
  split
  · exact ((((moving.trans (judgeConfirm _)).trans (judgeHold _)).trans (judgeRequest _)).trans
      (judgeStanding _)).trans (lockClosing _)
  · exact (((((moving.trans (endEvacuation _)).trans (judgeConfirm _)).trans (judgeHold _)).trans
      (judgeRequest _)).trans (judgeStanding _)).trans (lockClosing _)

theorem reform_car {s : State} (h : s.role = .car) : KeepsCounts s s.reform := by
  unfold State.reform
  dsimp only
  split
  · exact of_counts rfl
  · unfold State.levelChanged
    set x := s.setBrake ({ · with effective := s.formedLevel }) with hx
    split
    · have proof := proofAtChange_touches s.brake.effective x
      have told : KeepsCounts (x.proofAtChange s.brake.effective)
          ((x.proofAtChange s.brake.effective).tellLevel s.brake.effective) := by
        unfold State.tellLevel
        rw [proof.role_eq, show x.role = .car from h]
        dsimp only
        split
        · exact endEvacuation _
        · exact of_counts rfl
      have proofed : KeepsCounts x (x.proofAtChange s.brake.effective) := of_touches proof (by decide)
      exact (((of_counts rfl : KeepsCounts s x).trans proofed).trans told).trans
        (stateQueued (queueAllStates_stateQueued _))
    · exact of_counts rfl

/-- The judgement of a rise at a CAR counts nothing but what it queues (R100). -/
theorem judgeRise_car {s : State} (h : s.role = .car) : KeepsCounts s s.judgeRise := by
  unfold State.judgeRise
  dsimp only
  set x := s.setBrake ({ · with judged := s.highestOwn, raised := [] }) with hx
  have ordered (cause : Cause) : KeepsCounts s (x.queueOrder s.highestOwn cause) :=
    (of_counts rfl : KeepsCounts s x).trans (enqueue _ _)
  split
  · split
    · next cause _ _ =>
      have role : ((x.queueOrder s.highestOwn cause).writeRecord cause s.highestOwn).role = .car :=
        (queueOrder_touches s.highestOwn cause x).role_eq.trans h
      have recorded : KeepsCounts (x.queueOrder s.highestOwn cause)
          ((x.queueOrder s.highestOwn cause).writeRecord cause s.highestOwn) := of_counts rfl
      exact ((ordered cause).trans recorded).trans (reform_car role)
    · exact (of_counts rfl : KeepsCounts s x).trans (reform_car (s := x) h)
  · exact of_counts rfl

end KeepsCounts

/-- A supervision sample of a CAR counts nothing but a speed warning. -/
theorem supervisionSample_missedMarks {s : State} (h : s.role = .car) :
    s.supervisionSample.count .missedMarks = s.count .missedMarks := by
  have inputs : s.supervisionInputs.counts = s.counts := by
    unfold State.supervisionInputs
    rw [h]
    exact ((sampleSet_touches s).comp (setSup_touches _ _)) .counts (by decide)
  have present (l : List Cause) (x : State) : (x.takePresent l).counts = x.counts :=
    ((setSup_touches _ x).mono (Y := [.supervision, .authority, .demands, .judged, .proof])
      (by decide)).trans
      (.foldl (fun t c => (raiseCause_touches c t).mono (by decide)) _ _) .counts (by decide)
  unfold State.supervisionSample
  dsimp only
  rw [count_congr (present _ _)]
  unfold State.takeResult
  dsimp only
  split
  · rw [count_bump_ne _ (by decide)]
    exact count_congr inputs _
  · exact count_congr inputs _

/-- From the supervision sample to its end a sample of a CAR misses no mark. -/
theorem afterMeasurement_missedMarks {m : State} (h : m.role = .car) (owed : Option TripRecord) :
    ((m.supervisionSample.roleSample owed).judgeRise.queueMotion).count .missedMarks =
      m.count .missedMarks := by
  rw [← supervisionSample_missedMarks h]
  have hrole : m.supervisionSample.role = .car := (supervisionSample_touches m).role_eq.trans h
  generalize m.supervisionSample = x at hrole
  have plays : x.roleSample owed = x.doorSample.setBrake ({ · with trackAsk := true }) := by
    unfold State.roleSample
    rw [hrole]
  have played : KeepsCounts x (x.roleSample owed) := by
    rw [plays]
    exact (KeepsCounts.doorSample x).trans (.of_touches (trackAsk_touches _) (by decide))
  have role : (x.roleSample owed).role = .car := (roleSample_touches _ x).role_eq.trans hrole
  generalize x.roleSample owed = y at played role
  have queued (y : State) : KeepsCounts y y.queueMotion := by
    unfold State.queueMotion
    split
    · exact .stateQueued (queueState_stateQueued _ _)
    · exact .of_counts rfl
  exact ((played.trans (.judgeRise_car role)).trans (queued _)).of_bump (by decide)

theorem sample_missedMarks {s : State} (h : s.role = .car) (reading : BitVec 16) :
    (s.sample reading).count .missedMarks =
      ((s.restartSample reading).sampleMeasurement reading).count .missedMarks := by
  have role : ((s.restartSample reading).sampleMeasurement reading).role = .car :=
    ((restartSample_touches reading s).comp (sampleMeasurement_touches reading _)).role_eq.trans h
  rw [sample_eq, sampleBlocks_car h reading]
  exact afterMeasurement_missedMarks role s.owedNotice

end Sys2Proof.Machine
end


section
/-! # A sample restarts, adopts and judges its limits (O16) -/

namespace Sys2Proof.Machine

open Sys2Proof

/-! ## The stages before the limits -/

/-- The state of a sample before its limits: after the adoption of a position (R33). -/
def State.adopted (s : State) : State := s.stilled.sampleAdoption

theorem stilled_parts (s : State) :
    Touches [.channels, .reference, .counts, .demands, .judged, .position, .speed, .standstill, .door]
      s s.stilled :=
  (((channelsJudged_parts s).comp (samplePosition_parts s.meas.reference _)).comp
    (sampleStandstill_parts _)).mono (by decide)

theorem adopted_parts (s : State) : Touches [.position, .marks] s.stilled s.adopted :=
  sampleAdoption_parts _

/-- After its limits the measurement weighs the load and notes the sample. -/
theorem measured_parts (reading : BitVec 16) (s : State) :
    Touches [.weight, .speed] s.adopted.sampleLimits (s.sampleMeasurement reading) := by
  rw [sampleMeasurement_eq, sampleMotion_eq]
  have noted (y : State) (n : Option Nat) : Touches [.weight, .speed] y
      (y.setMeas ({ · with lastSample := n })) := fun q hq => by
    cases q <;> first | rfl | exact absurd (by decide) hq
  exact ((sampleLoad_parts _ _ _).mono (by decide)).trans (noted _ _)

theorem driveMotion_congr {s t : State} (h : t.peers = s.peers) : t.driveMotion = s.driveMotion := by
  unfold State.driveMotion State.fresh
  rw [h]

/-- No stage before the limits misses a mark. -/
theorem judgeLoss_missedMarks (a b : Bool) (s : State) :
    (s.judgeLoss a b).count .missedMarks = s.count .missedMarks ∧
      (s.judgeLoss a b).counts.length = s.counts.length := by
  have counted (x : State) (c : Bool) :
      (if c then x.bump .channelLosses else x).count .missedMarks = x.count .missedMarks ∧
        (if c then x.bump .channelLosses else x).counts.length = x.counts.length := by
    cases c with
    | true =>
      refine ⟨count_bump_ne _ (by decide), ?_⟩
      show (x.bump .channelLosses).counts.length = _
      rw [State.bump, List.length_modify]
    | false => exact ⟨rfl, rfl⟩
  cases h : (s.meas.e0.inService && a || s.meas.e1.inService && b) with
  | true =>
    have all : (s.lossCounted a b).count .missedMarks = s.count .missedMarks ∧
        (s.lossCounted a b).counts.length = s.counts.length :=
      ⟨(counted _ _).1.trans (counted _ _).1, (counted _ _).2.trans (counted _ _).2⟩
    rw [judgeLoss_of_lost h]
    generalize s.lossCounted a b = x at all ⊢
    split <;> exact all
  | false =>
    rw [judgeLoss_of_kept h]
    exact ⟨rfl, rfl⟩

theorem adopted_missedMarks (s : State) :
    s.adopted.count .missedMarks = s.count .missedMarks ∧
      s.adopted.counts.length = s.counts.length := by
  have later : s.adopted.counts = s.lossJudged.counts :=
    ((((sampleDisagree_parts s.lossJudged).comp (samplePosition_parts s.meas.reference _)).comp
      (sampleStandstill_parts _)).comp (adopted_parts s)) .counts (by decide)
  obtain ⟨count, length⟩ := judgeLoss_missedMarks (s.timed.meas.e0.faultAt s.clock)
    (s.timed.meas.e1.faultAt s.clock) s.timed
  rw [← lossJudged_eq] at count length
  exact ⟨(count_congr later _).trans count, (congrArg List.length later).trans length⟩

theorem adopted_latching (s : State) : Latching s s.adopted := by
  have speeds : Latching s s.sampleSpeeds := by
    unfold State.sampleSpeeds
    exact (Latching.refl s).setMeas _
  exact ((((speeds.sampleLoss).sampleDisagree).samplePosition _).sampleStandstill).sampleAdoption

/-! ## Adoption (R33) -/

theorem sampleAdoption_adopts {s : State} {m : Motion} {h : Nat} (hcar : s.role = .car)
    (hk : s.meas.known = false) (hst : s.meas.standstill = true) (hm : s.driveMotion = some m)
    (hsync : m.synchronised = true) (hstill : m.standstill = true) (hh : m.h = some h) :
    s.sampleAdoption =
      (s.setPosition ((s.conf.mirror s.conf.car h : Nat) * 1000 : Int) h
        (min 65535 (m.u + 500))).expectFrom (s.conf.mirror s.conf.car h : Nat) := by
  have adoptable : s.adoptable = some (h, m.u) := by
    unfold State.adoptable
    rw [hm]
    dsimp only
    rw [hsync, hstill, hh]
    rfl
  unfold State.sampleAdoption
  rw [if_pos (by rw [hcar, hk, hst]; rfl), adoptable]

theorem sampleAdoption_declines {s : State}
    (h : ∀ m, s.driveMotion = some m → m.synchronised = false ∨ m.standstill = false ∨ m.h = none) :
    s.sampleAdoption = s := by
  have adoptable : s.adoptable = none := by
    unfold State.adoptable
    split
    · next m hm =>
      rcases h m hm with hs | hs | hs <;> rw [hs]
      · rfl
      · rw [Bool.and_false]
        rfl
      · split <;> rfl
    · rfl
  unfold State.sampleAdoption
  rw [adoptable]
  split <;> rfl

theorem clampPosition_natCast {c : UnitConfig} {h : Nat} (hh : h ≤ c.lineLength) :
    c.clampPosition (h : Int) = h := by
  unfold UnitConfig.clampPosition
  rw [Int.toNat_natCast]
  exact Nat.min_eq_left hh

/-- A position adopted on the track has its expected mark formed from it. -/
theorem adopts_expectsAhead {s : State} {acc : Int} {h u : Nat} (hh : h ≤ s.conf.lineLength) :
    ExpectsAhead ((s.setPosition acc h u).expectFrom (s.conf.mirror s.conf.car h : Nat)) := by
  have track : ((s.setPosition acc h u).expectFrom (s.conf.mirror s.conf.car h : Nat)).ownTrack =
      s.conf.mirror s.conf.car h := by
    show s.conf.mirror s.conf.car (s.conf.clampPosition (h : Int)) = _
    rw [clampPosition_natCast hh]
  refine ⟨?_, rfl⟩
  rw [track]
  rfl

/-! ## The sense of travel after a sample -/

theorem ownTrack_congr {s t : State} (hc : t.conf = s.conf) (hh : t.meas.h = s.meas.h) :
    t.ownTrack = s.ownTrack := by
  unfold State.ownTrack
  rw [hc, hh]

/-- The sign remembered at a sample agrees with the speed of the sample. -/
theorem ownTravelUp_sampled {s t : State} (hc : t.conf = s.conf) (hv : t.meas.v = s.meas.v)
    (hsign : t.meas.lastSign =
      if 20 ≤ s.meas.v.natAbs then some (decide (0 < s.meas.v)) else s.meas.lastSign) :
    t.ownTravelUp = s.ownTravelUp := by
  have travels : t.meas.travelsUp = s.meas.travelsUp := by
    unfold Measurement.travelsUp
    rw [hv]
    by_cases up : 0 < s.meas.v
    · rw [if_pos up, if_pos up]
    by_cases down : s.meas.v < 0
    · rw [if_neg up, if_neg up, if_pos down, if_pos down]
    · rw [hsign, if_neg up, if_neg up, if_neg down, if_neg down, if_neg (by omega)]
  unfold State.ownTravelUp
  rw [hc, travels]

theorem signDiffers_iff (m : Measurement) : m.signDiffers = true ↔
    (∃ up, m.lastSign = some up ∧ m.v ≠ 0 ∧ decide (0 < m.v) ≠ up) ∨
      m.lastSign = none ∧ 20 ≤ m.v.natAbs := by
  unfold Measurement.signDiffers
  cases h : m.lastSign with
  | none => simp
  | some up => simp

theorem offTrack_iff (c : UnitConfig) (x : Int) :
    c.offTrack x = true ↔ x < 0 ∨ (c.lineLength : Int) < x := decide_eq_true_iff

theorem beyondExpected_iff (s : State) (m : Mark) : s.beyondExpected m = true ↔
    s.meas.expectedUp = true ∧ m.position + s.captureWindow < s.ownTrack ∨
      s.meas.expectedUp = false ∧ s.ownTrack + s.captureWindow < m.position := by
  unfold State.beyondExpected
  cases s.meas.expectedUp <;> simp

/-! ## The measurement after a sample of a unit underway -/

/-- The position and its causes, after a sample of a unit underway, are those its limits leave. -/
theorem sample_position {s : State} (h : Underway s) (reading : BitVec 16) :
    Part.position.of (s.sample reading) =
      Part.position.of (s.restartSample reading).adopted.sampleLimits :=
  ((sample_underway h reading).1 .position (by decide)).trans
    (measured_parts reading _ .position (by decide))

/-- The marks after a sample are those its limits leave. -/
theorem sample_marks (s : State) (reading : BitVec 16) :
    Part.marks.of (s.sample reading) =
      Part.marks.of (s.restartSample reading).adopted.sampleLimits :=
  (sample_rest_touches reading s .marks (by decide)).trans
    (measured_parts reading _ .marks (by decide))

end Sys2Proof.Machine
end


section
/-! # A sample event restarts, adopts and judges (O16) -/

namespace Sys2Proof.Machine

open Sys2Proof

/-- A measurement whose marks and position are as a state of the sample left them. -/
structure PlacedAs (m t : Measurement) : Prop where
  place : t.place = m.place
  causes : (t.outside, t.degraded) = (m.outside, m.degraded)

theorem placedAs_of_position {s t : State} (h : Part.position.of t = Part.position.of s) :
    PlacedAs s.meas t.meas :=
  ⟨congrArg (fun x : Int × Bool × Bool × Nat × Nat × Nat × Bool × Bool =>
      (x.1, x.2.1, x.2.2.1, x.2.2.2.1, x.2.2.2.2.1, x.2.2.2.2.2.1)) h,
    congrArg (fun x : Int × Bool × Bool × Nat × Nat × Nat × Bool × Bool => x.2.2.2.2.2.2) h⟩

theorem marks_of_part {s t : State} (h : Part.marks.of t = Part.marks.of s) :
    t.meas.expected = s.meas.expected ∧ t.meas.expectedUp = s.meas.expectedUp ∧
      t.meas.misses = s.meas.misses ∧ t.meas.lastSign = s.meas.lastSign := by
  have marks : (t.meas.expected, t.meas.expectedUp, t.meas.misses, t.meas.lastSign) =
      (s.meas.expected, s.meas.expectedUp, s.meas.misses, s.meas.lastSign) := h
  simp only [Prod.mk.injEq] at marks
  exact marks

/-- The causes of a known position after its limits (R29, R34). -/
theorem sampleLimits_causes {s : State} (hk : s.meas.known = true) (hsup : s.supervises = true) :
    s.sampleLimits.meas.outside = s.conf.offTrack (s.conf.rawHaul s.meas.acc) ∧
      s.sampleLimits.meas.degraded = decide (s.k .uMax < s.meas.u) := by
  have judged := trackJudged_parts s
  have ended := sampleEndOfTrack_parts s
  have k : s.trackJudged.k .uMax = s.k .uMax := (ended.comp judged).k_eq (by decide) _
  have position : Part.position.of s.trackJudged = Part.position.of s.sampleEndOfTrack :=
    judged .position (by decide)
  obtain ⟨place, causes⟩ := placedAs_of_position position
  rw [sampleEndOfTrack_meas] at place causes
  simp only [Measurement.place, Prod.mk.injEq] at place causes
  rw [sampleLimits_of_known hk hsup, rememberSign_meas, sampleDegraded_meas]
  refine ⟨causes.1, ?_⟩
  dsimp only
  rw [k, place.2.2.2.2.1]

theorem sampleLimits_latches {s : State} (hk : s.meas.known = true) (hsup : s.supervises = true)
    (hlen : 20 ≤ s.brake.demands.length) :
    (s.conf.offTrack (s.conf.rawHaul s.meas.acc) = true → s.meas.outside = false →
      2 ≤ s.sampleLimits.latched .endOfTrack) ∧
    (s.k .uMax < s.meas.u → s.meas.degraded = false →
      1 ≤ s.sampleLimits.latched .positionDegraded) := by
  have judged := trackJudged_parts s
  have ended := sampleEndOfTrack_parts s
  have latching := trackJudged_latching s
  have remembered (x : State) : Latching x x.rememberSign := by
    unfold State.rememberSign
    exact (Latching.refl x).setMeas _
  have before : Latching s s.trackJudged := (Latching.refl s).sampleEndOfTrack.trans latching
  rw [sampleLimits_of_known hk hsup]
  refine ⟨fun hout hwas => ?_, fun hu hwas => ?_⟩
  · exact (sampleEndOfTrack_latches hlen hout hwas).trans
      ((latching.sampleDegraded.trans (remembered _)).latched_le _)
  · have k : s.trackJudged.k .uMax = s.k .uMax := (ended.comp judged).k_eq (by decide) _
    have position : Part.position.of s.trackJudged = Part.position.of s.sampleEndOfTrack :=
      judged .position (by decide)
    obtain ⟨place, causes⟩ := placedAs_of_position position
    rw [sampleEndOfTrack_meas] at place causes
    simp only [Measurement.place, Prod.mk.injEq] at place causes
    have latched : 1 ≤ s.trackJudged.sampleDegraded.latched .positionDegraded :=
      sampleDegraded_latches (hlen.trans before.length_le) (by rw [k, place.2.2.2.2.1]; exact hu)
        (causes.2.trans hwas)
    exact latched.trans ((remembered _).latched_le _)

/-- The marks of a CAR of known position after its limits are those of the mark stage. -/
theorem sampleLimits_marks {s : State} (hk : s.meas.known = true) (hcar : s.role = .car) :
    s.sampleLimits.meas.expected = s.sampleEndOfTrack.sampleMarks.meas.expected ∧
      s.sampleLimits.meas.expectedUp = s.sampleEndOfTrack.sampleMarks.meas.expectedUp ∧
      s.sampleLimits.meas.misses = s.sampleEndOfTrack.sampleMarks.meas.misses ∧
      s.sampleLimits.counts = s.sampleEndOfTrack.sampleMarks.counts ∧
      Latching s.sampleEndOfTrack.sampleMarks s.sampleLimits := by
  have remembered (x : State) : Latching x x.rememberSign := by
    unfold State.rememberSign
    exact (Latching.refl x).setMeas _
  rw [sampleLimits_of_known hk (supervises_of_car hcar), rememberSign_meas, sampleDegraded_meas,
    trackJudged_of_car hcar]
  exact ⟨rfl, rfl, rfl, ((sampleDegraded_parts _).comp (rememberSign_parts _)) .counts (by decide),
    ((Latching.refl _).sampleDegraded).trans (remembered _)⟩

/-- The set and the trip of a CAR after a supervision sample are those decided at its start (R16). -/
theorem sample_setInForce {s : State} (hcar : s.role = .car) (reading : BitVec 16) :
    Part.setInForce.of (s.sample reading) =
      Part.setInForce.of ((s.restartSample reading).sampleMeasurement reading).sampleSet := by
  have role : ((s.restartSample reading).sampleMeasurement reading).role = .car :=
    ((restartSample_touches reading s).comp (sampleMeasurement_touches reading _)).role_eq.trans hcar
  rw [sample_eq, sampleBlocks_car hcar reading]
  generalize (s.restartSample reading).sampleMeasurement reading = m at role ⊢
  have inputs : Part.setInForce.of m.supervisionInputs = Part.setInForce.of m.sampleSet := by
    unfold State.supervisionInputs
    rw [role]
    exact setSup_touches _ _ .setInForce (by decide)
  have supervised := supervisionSample_judgement m
  have srole : m.supervisionSample.role = .car := (supervisionSample_touches m).role_eq.trans role
  have plays : m.supervisionSample.roleSample s.owedNotice =
      m.supervisionSample.doorSample.setBrake ({ · with trackAsk := true }) := by
    unfold State.roleSample
    rw [srole]
  rw [plays]
  exact ((((doorSample_touches _).comp (trackAsk_touches _)).comp ((judgeRise_touches _).comp
    (queueMotion_touches _))) .setInForce (by decide)).trans
      ((supervised .setInForce (by decide)).trans inputs)

theorem sampleSet_spec (s : State) :
    (∀ (x : TripRef) (n : TripNotice), s.driveTrip = some x → s.prof.notice = some n →
      x.number = n.number → s.sampleSet.prof.setInForce = n.set ∧
        s.sampleSet.prof.carTrip = some { number := n.number, revision := n.revision }) ∧
    ((∀ (x : TripRef) (n : TripNotice), s.driveTrip = some x → s.prof.notice = some n →
        x.number ≠ n.number) →
      s.sampleSet.prof.setInForce = 1 ∧ s.sampleSet.prof.carTrip = none) := by
  unfold State.sampleSet
  cases ht : s.driveTrip with
  | none => exact ⟨fun _ _ h => (nomatch h), fun _ => ⟨rfl, rfl⟩⟩
  | some t =>
    cases hn : s.prof.notice with
    | none => exact ⟨fun _ _ _ h => (nomatch h), fun _ => ⟨rfl, rfl⟩⟩
    | some n =>
      dsimp only
      refine ⟨fun x n' hx hn' he => ?_, fun h => ?_⟩
      · cases hx
        cases hn'
        rw [if_pos he]
        exact ⟨rfl, rfl⟩
      · rw [if_neg (h t n rfl rfl)]
        exact ⟨rfl, rfl⟩

end Sys2Proof.Machine
end


section
/-! # The clauses of a sample event (O16) -/

namespace Sys2Proof.Machine

open Sys2Proof

theorem underway_of_car {s : State} (h : s.role = .car) : Underway s :=
  fun hd => absurd (h.symm.trans hd) (by decide)

/-- The fields of a place. -/
theorem place_fields {m t : Measurement} (h : t.place = m.place) :
    t.acc = m.acc ∧ t.known = m.known ∧ t.h = m.h ∧ t.u = m.u ∧ t.residue = m.residue := by
  unfold Measurement.place at h
  simp only [Prod.mk.injEq] at h
  obtain ⟨acc, known, -, hpos, u, residue⟩ := h
  exact ⟨acc, known, hpos, u, residue⟩

theorem adopted_conf (s : State) : s.adopted.conf = s.conf :=
  ((stilled_parts s).comp (adopted_parts s)).conf_eq

theorem adopted_role (s : State) : s.adopted.role = s.role :=
  ((stilled_parts s).comp (adopted_parts s)).role_eq

theorem sample_conf (s : State) (reading : BitVec 16) : (s.sample reading).conf = s.conf :=
  (sample_touches reading s).conf_eq

theorem sample_adopted_conf (s : State) (reading : BitVec 16) :
    (s.sample reading).conf = (s.restartSample reading).adopted.conf := by
  rw [sample_conf, adopted_conf, (restartSample_touches reading s).conf_eq]

/-- The speed of a sample is the one before its limits. -/
theorem sample_v (s : State) (reading : BitVec 16) :
    (s.sample reading).meas.v = (s.restartSample reading).adopted.meas.v :=
  (sample_measuresAs s reading).v.trans
    (congrArg (fun p : Int × Option Nat × Option Nat => p.1)
      (adopted_parts (s.restartSample reading) .speed (by decide))).symm

/-- Before the limits of a sample its marks are as they were, but at an adoption. -/
theorem stilled_marks (s : State) : s.stilled.meas.expected = s.meas.expected ∧
    s.stilled.meas.expectedUp = s.meas.expectedUp ∧ s.stilled.meas.misses = s.meas.misses ∧
    s.stilled.meas.lastSign = s.meas.lastSign :=
  marks_of_part (stilled_parts s .marks (by decide))

theorem sampleAdoption_lastSign (s : State) :
    s.sampleAdoption.meas.lastSign = s.meas.lastSign := by
  unfold State.sampleAdoption
  split
  · split <;> rfl
  · rfl

theorem adopted_lastSign (s : State) : s.adopted.meas.lastSign = s.meas.lastSign :=
  (sampleAdoption_lastSign _).trans (stilled_marks s).2.2.2

/-- The sign remembered at a sample (R31). -/
theorem sample_lastSign (s : State) (reading : BitVec 16) : (s.sample reading).meas.lastSign =
    if 20 ≤ (s.sample reading).meas.v.natAbs then some (decide (0 < (s.sample reading).meas.v))
    else s.meas.lastSign := by
  rw [(marks_of_part (sample_marks s reading)).2.2.2, sampleLimits_lastSign, adopted_lastSign,
    sample_v]
  rfl

theorem sample_ownTravelUp (s : State) (reading : BitVec 16) :
    (s.sample reading).ownTravelUp = (s.restartSample reading).adopted.ownTravelUp := by
  refine ownTravelUp_sampled (sample_adopted_conf s reading) (sample_v s reading) ?_
  rw [sample_lastSign, adopted_lastSign, sample_v]
  rfl

/-- The place of a unit underway after a sample is the one before its limits. -/
theorem sample_place_adopted {s : State} (h : Underway s) (reading : BitVec 16) :
    (s.sample reading).meas.place = (s.restartSample reading).adopted.meas.place :=
  (placedAs_of_position (sample_position h reading)).place.trans (sampleLimits_place _)

theorem sample_ownTrack {s : State} (h : Underway s) (reading : BitVec 16) :
    (s.sample reading).ownTrack = (s.restartSample reading).adopted.ownTrack :=
  ownTrack_congr (sample_adopted_conf s reading) (place_fields (sample_place_adopted h reading)).2.2.1

theorem adopted_of_settled {s : State}
    (h : s.role = .car → s.meas.known = true ∨ s.stilled.meas.standstill = false) :
    s.adopted = s.stilled :=
  sampleAdoption_of_not fun hcar => by
    rw [stilled_known]
    exact h ((stilled_parts s).role_eq.symm.trans hcar)

/-- A CAR that adopts no position keeps what it knows of it (R33). -/
theorem sample_known {s : State} (hcar : s.role = .car) (reading : BitVec 16)
    (h : (s.restartSample reading).adopted = (s.restartSample reading).stilled) :
    (s.sample reading).meas.known = s.meas.known := by
  have place := sample_place_adopted (underway_of_car hcar) reading
  rw [h] at place
  obtain ⟨-, known, -⟩ := place_fields place
  have before : (s.restartSample reading).stilled.meas.known = s.meas.known :=
    stilled_known (s.restartSample reading)
  exact known.trans before

theorem ExpectsAhead.sampleEndOfTrack {s : State} (h : ExpectsAhead s) :
    ExpectsAhead s.sampleEndOfTrack := by
  have conf : s.sampleEndOfTrack.conf = s.conf := (sampleEndOfTrack_parts s).conf_eq
  have travel : s.sampleEndOfTrack.ownTravelUp = s.ownTravelUp := by
    unfold State.ownTravelUp
    rw [conf, sampleEndOfTrack_meas]
    rfl
  have track : s.sampleEndOfTrack.ownTrack = s.ownTrack :=
    ownTrack_congr conf (by rw [sampleEndOfTrack_meas])
  refine ⟨?_, ?_⟩
  · rw [travel, track, conf, sampleEndOfTrack_meas]
    exact h.expected
  · rw [travel, sampleEndOfTrack_meas]
    exact h.up

/-- A CAR that has just formed its expected mark keeps it and its misses through the limits. -/
theorem ExpectsAhead.sampleLimits {s : State} (h : ExpectsAhead s) (hk : s.meas.known = true)
    (hcar : s.role = .car) :
    s.sampleLimits.meas.expected =
        firstAhead (s.conf.candidates s.conf.car) s.ownTrack s.ownTravelUp ∧
      s.sampleLimits.meas.misses = s.meas.misses := by
  obtain ⟨expected, -, misses, -⟩ := sampleLimits_marks hk hcar
  obtain ⟨kept, same⟩ := h.sampleEndOfTrack.sampleMarks
  rw [sampleEndOfTrack_meas] at kept same
  exact ⟨(expected.trans kept).trans h.expected, misses.trans same⟩

/-- What the adoption sets (R33). -/
theorem sampleAdoption_place {s : State} {m : Motion} {h : Nat} (hcar : s.role = .car)
    (hk : s.meas.known = false) (hst : s.meas.standstill = true) (hm : s.driveMotion = some m)
    (hsync : m.synchronised = true) (hstill : m.standstill = true) (hh : m.h = some h)
    (hL : h ≤ s.conf.lineLength) :
    let a := s.sampleAdoption
    a.meas.known = true ∧ a.meas.h = h ∧ a.meas.u = min 65535 (m.u + 500) ∧ a.meas.residue = 0 ∧
      a.meas.acc = ((s.conf.mirror s.conf.car h : Nat) : Int) * 1000 ∧ ExpectsAhead a ∧
      a.meas.misses = s.meas.misses := by
  intro a
  have adopts : a = _ := sampleAdoption_adopts hcar hk hst hm hsync hstill hh
  rw [adopts]
  exact ⟨rfl, clampPosition_natCast hL, rfl, rfl, rfl, adopts_expectsAhead hL, rfl⟩

/-- What a sample adopts, before its limits and after its marks (R31, R33). -/
theorem adopted_place {s : State} {m : Motion} {h : Nat} (hcar : s.role = .car)
    (hk : s.meas.known = false) (hst : s.stilled.meas.standstill = true)
    (hm : s.driveMotion = some m) (hsync : m.synchronised = true) (hstill : m.standstill = true)
    (hh : m.h = some h) (hL : h ≤ s.conf.lineLength) :
    s.adopted.meas.known = true ∧ s.adopted.meas.h = h ∧
      s.adopted.meas.u = min 65535 (m.u + 500) ∧ s.adopted.meas.residue = 0 ∧
      s.adopted.meas.acc = ((s.conf.mirror s.conf.car h : Nat) : Int) * 1000 ∧
      s.adopted.sampleLimits.meas.expected =
        firstAhead (s.conf.candidates s.conf.car) s.adopted.ownTrack s.adopted.ownTravelUp ∧
      s.adopted.sampleLimits.meas.misses = s.meas.misses := by
  have parts := stilled_parts s
  have conf : s.stilled.conf = s.conf := parts.conf_eq
  obtain ⟨known, hpos, u, residue, acc, expects, misses⟩ := sampleAdoption_place (s := s.stilled)
    (parts.role_eq.trans hcar) ((stilled_known s).trans hk) hst
    ((driveMotion_congr (parts .peers (by decide))).trans hm) hsync hstill hh (by rw [conf]; exact hL)
  obtain ⟨expected, same⟩ := ExpectsAhead.sampleLimits (s := s.adopted) expects known
    ((adopted_role s).trans hcar)
  rw [conf] at acc
  rw [adopted_conf] at expected
  exact ⟨known, hpos, u, residue, acc, expected,
    (same.trans misses).trans (stilled_marks s).2.2.1⟩

/-- What a CAR of unknown position at standstill adopts in a sample (R33). -/
theorem sample_adopts {s : State} {m : Motion} {h : Nat} (hcar : s.role = .car)
    (reading : BitVec 16) (hk : s.meas.known = false)
    (hst : (s.sample reading).meas.standstill = true) (hm : s.driveMotion = some m)
    (hsync : m.synchronised = true) (hstill : m.standstill = true) (hh : m.h = some h)
    (hL : h ≤ s.conf.lineLength) :
    (s.sample reading).meas.known = true ∧ (s.sample reading).meas.h = h ∧
      (s.sample reading).meas.u = min 65535 (m.u + 500) ∧ (s.sample reading).meas.residue = 0 ∧
      (s.sample reading).meas.acc = ((s.conf.mirror s.conf.car h : Nat) : Int) * 1000 ∧
      (s.sample reading).meas.expected = firstAhead (s.conf.candidates s.conf.car)
        (s.sample reading).ownTrack (s.sample reading).ownTravelUp ∧
      (s.sample reading).meas.misses = s.meas.misses := by
  have under := underway_of_car hcar
  obtain ⟨acc, known, hpos, u, residue⟩ := place_fields (sample_place_adopted under reading)
  obtain ⟨expected, -, misses, -⟩ := marks_of_part (sample_marks s reading)
  have track := sample_ownTrack under reading
  have travel := sample_ownTravelUp s reading
  have stands := (sample_measuresAs s reading).standstill.symm.trans hst
  have adopts := adopted_place (s := s.restartSample reading) hcar hk stands hm hsync hstill hh hL
  rw [show (s.restartSample reading).conf = s.conf from rfl,
    show (s.restartSample reading).meas.misses = s.meas.misses from rfl] at adopts
  rw [acc, known, hpos, u, residue, expected, misses, track, travel]
  exact adopts

end Sys2Proof.Machine
end


section
/-! # A sample event restarts, adopts and judges its limits (O16) -/

namespace Sys2Proof.Machine

open Sys2Proof

theorem adopted_supervises (s : State) : s.adopted.supervises = s.supervises := by
  unfold State.supervises
  rw [adopted_role]

theorem adopted_k (s : State) (n : ConstName) : s.adopted.k n = s.k n := by
  unfold State.k
  rw [adopted_conf]

/-- A cause of the position that was absent before a sample is absent before its limits. -/
theorem adopted_causes (s : State) : (s.adopted.meas.outside = true → s.meas.outside = true) ∧
    (s.adopted.meas.degraded = true → s.meas.degraded = true) := by
  have before : Part.position.of s.stilled = Part.position.of s.positioned :=
    sampleStandstill_parts s.positioned .position (by decide)
  have judged : Part.position.of s.channelsJudged = Part.position.of s :=
    channelsJudged_parts s .position (by decide)
  have causes : (s.stilled.meas.outside, s.stilled.meas.degraded) =
      (s.meas.outside, s.meas.degraded) :=
    (placedAs_of_position before).causes.trans (placedAs_of_position judged).causes
  simp only [Prod.mk.injEq] at causes
  obtain ⟨outside, degraded⟩ := causes
  rw [← outside, ← degraded]
  unfold State.adopted State.sampleAdoption
  split
  · split
    · exact ⟨fun h => (Bool.and_eq_true_iff.mp h).1, fun h => (Bool.and_eq_true_iff.mp h).1⟩
    · exact ⟨id, id⟩
  · exact ⟨id, id⟩

/-- The latches of a sample of a unit underway hold what its limits latched. -/
theorem sample_latched_limits {s : State} (h : Underway s) (reading : BitVec 16) (c : Cause) :
    (s.restartSample reading).adopted.sampleLimits.latched c ≤ (s.sample reading).latched c := by
  have measured : Latching (s.restartSample reading).adopted.sampleLimits
      ((s.restartSample reading).sampleMeasurement reading) :=
    (Latching.refl _).touch (measured_parts reading _)
  exact (measured.latched_le c).trans ((sample_underway h reading).2 c)

/-- The causes of a known position after a sample (R29, R34). -/
theorem sample_causes {s : State} (h : Underway s) (reading : BitVec 16)
    (hsup : s.supervises = true) (hk : (s.sample reading).meas.known = true) :
    ((s.sample reading).meas.outside = true ↔
      s.conf.offTrack (s.conf.rawHaul (s.sample reading).meas.acc) = true) ∧
    ((s.sample reading).meas.degraded = true ↔ s.k .uMax < (s.sample reading).meas.u) ∧
    (20 ≤ s.brake.demands.length →
      ((s.sample reading).meas.outside = true → s.meas.outside = false →
        2 ≤ (s.sample reading).latched .endOfTrack) ∧
      ((s.sample reading).meas.degraded = true → s.meas.degraded = false →
        1 ≤ (s.sample reading).latched .positionDegraded)) := by
  obtain ⟨acc, known, -, u, -⟩ := place_fields (sample_place_adopted h reading)
  have causes := (placedAs_of_position (sample_position h reading)).causes
  simp only [Prod.mk.injEq] at causes
  obtain ⟨outside, degraded⟩ := causes
  have latched := sample_latched_limits h reading
  have length := (adopted_latching (s.restartSample reading)).length_le
  have before := adopted_causes (s.restartSample reading)
  rw [show (s.restartSample reading).meas = s.meas from rfl] at before
  rw [show (s.restartSample reading).brake = s.brake from rfl] at length
  have conf : (s.restartSample reading).adopted.conf = s.conf := adopted_conf (s.restartSample reading)
  have sup : (s.restartSample reading).adopted.supervises = true :=
    (adopted_supervises (s.restartSample reading)).trans hsup
  have k : (s.restartSample reading).adopted.k .uMax = s.k .uMax :=
    adopted_k (s.restartSample reading) _
  rw [known] at hk
  generalize (s.restartSample reading).adopted = a at *
  generalize s.sample reading = t at *
  obtain ⟨out, above⟩ := sampleLimits_causes hk sup
  rw [outside, degraded, acc, u, out, above, conf, k, decide_eq_true_iff]
  refine ⟨Iff.rfl, Iff.rfl, fun hlen => ?_⟩
  obtain ⟨latchesOut, latchesAbove⟩ := sampleLimits_latches hk sup (hlen.trans length)
  refine ⟨fun hnow hwas => ?_, fun hnow hwas => ?_⟩
  · refine (latchesOut (by rw [conf]; exact hnow) ?_).trans (latched _)
    exact Bool.eq_false_iff.mpr fun ha => absurd (before.1 ha) (by rw [hwas]; decide)
  · refine (latchesAbove (by rw [k]; exact hnow) ?_).trans (latched _)
    exact Bool.eq_false_iff.mpr fun ha => absurd (before.2 ha) (by rw [hwas]; decide)

/-- The state whose expected mark a sample of a CAR judges. -/
def State.beforeMarks (s : State) : State := s.adopted.sampleEndOfTrack

theorem adopted_of_known {s : State} (hk : s.meas.known = true) : s.adopted = s.stilled :=
  adopted_of_settled fun _ => .inl hk

theorem adopted_known {s : State} (hk : s.meas.known = true) : s.adopted.meas.known = true := by
  rw [adopted_of_known hk, stilled_known, hk]

/-- What a unit of known position judges its expected mark by (R31). -/
theorem beforeMarks_spec {s : State} (hk : s.meas.known = true) :
    s.beforeMarks.conf = s.conf ∧ s.beforeMarks.ownTrack = s.adopted.ownTrack ∧
      s.beforeMarks.ownTravelUp = s.adopted.ownTravelUp ∧
      s.beforeMarks.captureWindow = max (s.k .captureWindow) s.adopted.meas.u ∧
      s.beforeMarks.meas.v = s.adopted.meas.v ∧ s.beforeMarks.meas.lastSign = s.meas.lastSign ∧
      s.beforeMarks.meas.expected = s.meas.expected ∧
      s.beforeMarks.meas.expectedUp = s.meas.expectedUp ∧
      s.beforeMarks.meas.misses = s.meas.misses := by
  obtain ⟨expected, up, misses, sign⟩ := stilled_marks s
  rw [← adopted_of_known hk] at expected up misses sign
  have conf := adopted_conf s
  have k := adopted_k s .captureWindow
  unfold State.beforeMarks
  generalize s.adopted = a at *
  have ended := sampleEndOfTrack_parts a
  have yconf : a.sampleEndOfTrack.conf = a.conf := ended.conf_eq
  have yk : a.sampleEndOfTrack.k .captureWindow = a.k .captureWindow := ended.k_eq (by decide) _
  have meas := sampleEndOfTrack_meas a
  refine ⟨yconf.trans conf, ownTrack_congr yconf (by rw [meas]), ?_, ?_, by rw [meas],
    by rw [meas, sign], by rw [meas, expected], by rw [meas, up], by rw [meas, misses]⟩
  · unfold State.ownTravelUp
    rw [yconf, meas]
    rfl
  · unfold State.captureWindow
    rw [yk, k, meas]

/-- The marks, the counts and the latches of the limits are those the mark stage leaves. -/
theorem limits_of_beforeMarks {s : State} (hcar : s.role = .car) (hk : s.meas.known = true) :
    s.adopted.sampleLimits.meas.expected = s.beforeMarks.sampleMarks.meas.expected ∧
      s.adopted.sampleLimits.meas.expectedUp = s.beforeMarks.sampleMarks.meas.expectedUp ∧
      s.adopted.sampleLimits.meas.misses = s.beforeMarks.sampleMarks.meas.misses ∧
      s.adopted.sampleLimits.counts = s.beforeMarks.sampleMarks.counts ∧
      s.beforeMarks.sampleMarks.latched .missedMarks ≤ s.adopted.sampleLimits.latched .missedMarks := by
  obtain ⟨expected, up, misses, counts, latching⟩ :=
    sampleLimits_marks (adopted_known hk) ((adopted_role s).trans hcar)
  exact ⟨expected, up, misses, counts, latching.latched_le _⟩

/-- The count of missed marks after a sample is that of its limits. -/
theorem sample_missedMarks_limits {s : State} (hcar : s.role = .car) (reading : BitVec 16) :
    (s.sample reading).count .missedMarks =
      (s.restartSample reading).adopted.sampleLimits.count .missedMarks := by
  rw [sample_missedMarks hcar reading]
  exact count_congr (measured_parts reading _ .counts (by decide)) _

theorem beforeMarks_missedMarks (s : State) :
    s.beforeMarks.count .missedMarks = s.count .missedMarks ∧
      s.beforeMarks.counts.length = s.counts.length := by
  have counts : s.beforeMarks.counts = s.adopted.counts :=
    sampleEndOfTrack_parts s.adopted .counts (by decide)
  obtain ⟨count, length⟩ := adopted_missedMarks s
  exact ⟨(count_congr counts _).trans count, (congrArg List.length counts).trans length⟩

end Sys2Proof.Machine
end


section
/-! # A sample event restarts, adopts and judges its limits: the obligation (O16) -/

namespace Sys2Proof.Machine

open Sys2Proof

/-- What the mark stage makes of the expected mark (R31). -/
theorem sampleMarks_spec (s : State) :
    (s.meas.signDiffers = true →
      s.sampleMarks.meas.expected =
        firstAhead (s.conf.candidates s.conf.car) s.ownTrack s.ownTravelUp ∧
      s.sampleMarks.meas.expectedUp = s.ownTravelUp ∧ s.sampleMarks.meas.misses = s.meas.misses) ∧
    (s.meas.signDiffers = false →
      s.sampleMarks.meas.expectedUp = s.meas.expectedUp ∧
      (s.meas.expected = none →
        s.sampleMarks.meas.expected = none ∧ s.sampleMarks.meas.misses = s.meas.misses) ∧
      ∀ (i : Nat) (m : Mark), s.meas.expected = some i →
        (s.conf.candidates s.conf.car)[i]? = some m →
        (s.beyondExpected m = true →
          s.sampleMarks.meas.misses = s.meas.misses + 1 ∧
          s.sampleMarks.meas.expected =
            nextMark (s.conf.candidates s.conf.car) i s.meas.expectedUp ∧
          s.sampleMarks.count .missedMarks = (s.bump .missedMarks).count .missedMarks ∧
          (20 ≤ s.brake.demands.length → s.sampleMarks.meas.misses = 2 →
            1 ≤ s.sampleMarks.latched .missedMarks)) ∧
        (¬s.beyondExpected m = true →
          s.sampleMarks.meas.misses = s.meas.misses ∧ s.sampleMarks.meas.expected = some i ∧
          s.sampleMarks.count .missedMarks = s.count .missedMarks)) := by
  refine ⟨fun h => ?_, fun h => ⟨sampleMarks_expectedUp h, fun hn => ?_, fun i m hi hm => ?_⟩⟩
  · rw [sampleMarks_sought h]
    exact ⟨rfl, rfl, rfl⟩
  · rw [sampleMarks_none h hn]
    exact ⟨hn, rfl⟩
  · rw [sampleMarks_some h hi hm]
    refine ⟨fun hb => ?_, fun hb => ?_⟩
    · rw [if_pos hb]
      refine ⟨by rw [missMark_meas], by rw [missMark_meas], missMark_count i s, fun hlen hm => ?_⟩
      rw [missMark_meas] at hm
      exact missMark_latches hlen hm
    · rw [if_neg hb]
      exact ⟨rfl, hi, rfl⟩

/-- What a sample of a CAR of known position makes of its expected mark (R31). -/
theorem sample_marks_judged {s : State} (hcar : s.role = .car) (hk : s.meas.known = true)
    (reading : BitVec 16) (t : State) (ht : t = s.sample reading) :
    let marks := s.conf.candidates s.conf.car
    let window := max (s.k .captureWindow) t.meas.u
    let differs := (∃ up, s.meas.lastSign = some up ∧ t.meas.v ≠ 0 ∧ decide (0 < t.meas.v) ≠ up) ∨
      s.meas.lastSign = none ∧ 20 ≤ t.meas.v.natAbs
    (differs → t.meas.expected = firstAhead marks t.ownTrack t.ownTravelUp ∧
      t.meas.expectedUp = t.ownTravelUp ∧ t.meas.misses = s.meas.misses) ∧
    (¬differs → t.meas.expectedUp = s.meas.expectedUp ∧
      (s.meas.expected = none → t.meas.expected = none ∧ t.meas.misses = s.meas.misses) ∧
      ∀ (i : Nat) (m : Mark), s.meas.expected = some i → marks[i]? = some m →
        let beyond := s.meas.expectedUp = true ∧ m.position + window < t.ownTrack ∨
          s.meas.expectedUp = false ∧ t.ownTrack + window < m.position
        (beyond → t.meas.misses = s.meas.misses + 1 ∧
          t.meas.expected = nextMark marks i s.meas.expectedUp ∧
          t.count .missedMarks = (s.bump .missedMarks).count .missedMarks ∧
          (20 ≤ s.brake.demands.length → t.meas.misses = 2 → 1 ≤ t.latched .missedMarks)) ∧
        (¬beyond → t.meas.misses = s.meas.misses ∧ t.meas.expected = some i ∧
          t.count .missedMarks = s.count .missedMarks)) := by
  intro marks window differs
  have under := underway_of_car hcar
  obtain ⟨-, -, -, u, -⟩ := place_fields (sample_place_adopted under reading)
  obtain ⟨texpected, tup, tmisses, -⟩ := marks_of_part (sample_marks s reading)
  have tcount := sample_missedMarks_limits hcar reading
  have tlatched := sample_latched_limits under reading .missedMarks
  have tv := sample_v s reading
  have ttrack := sample_ownTrack under reading
  have ttravel := sample_ownTravelUp s reading
  have limits := limits_of_beforeMarks (s := s.restartSample reading) hcar hk
  have spec := beforeMarks_spec (s := s.restartSample reading) hk
  have missed := beforeMarks_missedMarks (s.restartSample reading)
  have length : s.brake.demands.length ≤ (s.restartSample reading).beforeMarks.brake.demands.length :=
    ((adopted_latching (s.restartSample reading)).sampleEndOfTrack).length_le
  rw [show (s.restartSample reading).meas = s.meas from rfl,
    show (s.restartSample reading).conf = s.conf from rfl,
    show (s.restartSample reading).k = s.k from rfl] at spec
  rw [show (s.restartSample reading).counts = s.counts from rfl,
    show (s.restartSample reading).count .missedMarks = s.count .missedMarks from rfl] at missed
  rw [← ht] at *
  generalize (s.restartSample reading).beforeMarks = y at *
  generalize (s.restartSample reading).adopted = a at *
  obtain ⟨lexpected, lup, lmisses, lcounts, llatched⟩ := limits
  obtain ⟨yconf, ytrack, ytravel, ywindow, yv, ysign, yexpected, yup, ymisses⟩ := spec
  have counted : t.count .missedMarks = y.sampleMarks.count .missedMarks :=
    tcount.trans (count_congr lcounts _)
  have latched : y.sampleMarks.latched .missedMarks ≤ t.latched .missedMarks := llatched.trans tlatched
  have signs : differs ↔ y.meas.signDiffers = true := by
    rw [signDiffers_iff, ysign, yv, ← tv]
  obtain ⟨sought, judged⟩ := sampleMarks_spec y
  rw [yconf, ytrack, ytravel, ymisses, ← ttrack, ← ttravel] at sought
  rw [yconf, ymisses, yup, yexpected] at judged
  refine ⟨fun h => ?_, fun h => ?_⟩
  · rw [texpected, tup, tmisses, lexpected, lup, lmisses]
    exact sought (signs.mp h)
  obtain ⟨up, none, some⟩ := judged (Bool.eq_false_iff.mpr (mt signs.mpr h))
  rw [texpected, tup, tmisses, lexpected, lup, lmisses, counted]
  refine ⟨up, none, fun i m hi hm => ?_⟩
  have beyonds : y.beyondExpected m = true ↔
      s.meas.expectedUp = true ∧ m.position + window < t.ownTrack ∨
        s.meas.expectedUp = false ∧ t.ownTrack + window < m.position := by
    rw [beyondExpected_iff, yup, ywindow, ytrack, ← ttrack, ← u]
  obtain ⟨past, within⟩ := some i m hi hm
  refine ⟨fun hb => ?_, fun hb => ?_⟩
  · obtain ⟨misses, expected, count, latches⟩ := past (beyonds.mpr hb)
    exact ⟨misses, expected, count.trans (bump_count_of_eq missed.1 missed.2),
      fun hlen htwo => (latches (hlen.trans length) htwo).trans latched⟩
  · obtain ⟨misses, expected, count⟩ := within (mt beyonds.mp hb)
    exact ⟨misses, expected, count.trans missed.1⟩

/-- Settles O16: the sample restarts its timers, and each cause is judged on the position that the sample's
own stages give. -/
theorem sampleRestarts : Obligations.SampleRestarts := by
  intro dt reading s hrun hdue now
  set n := s.advance dt with hn
  obtain ⟨t, hexec, ht⟩ := exec_settledFrom (c := .sampleEvent dt reading) (s := s)
    (x := n.sample reading) rfl (if_pos (Bool.and_eq_true_iff.mpr ⟨hrun, hdue⟩))
  have meas : t.meas = (n.sample reading).meas := ht.touches.meas_eq (by decide)
  have all := (sample_touches reading n).comp ht.touches
  have restarted := ((sampleMeasurement_touches reading _).comp (sample_rest_touches reading n)).comp
    ht.touches
  have measures := sample_measuresAs n reading
  have channel (ch : ChannelId) : (t.meas.channel ch).acc = (s.meas.channel ch).acc ∧
      (t.meas.channel ch).accAtSample = (s.meas.channel ch).acc ∧ (t.meas.channel ch).edges = 0 := by
    rw [meas, measures.channel, stilled_channel]
    exact ⟨(judgedAt_acc _ _ _ _).1, rfl, rfl⟩
  obtain ⟨acc0, before0, edges0⟩ := channel .e0
  obtain ⟨acc1, before1, edges1⟩ := channel .e1
  obtain ⟨due, noted⟩ := sample_times n reading
  have conf : t.conf = (n.sample reading).conf := ht.touches.conf_eq
  have track : t.ownTrack = (n.sample reading).ownTrack := ownTrack_congr conf (by rw [meas])
  have travel : t.ownTravelUp = (n.sample reading).ownTravelUp := by
    unfold State.ownTravelUp
    rw [conf, meas]
  have latched (c : Cause) (hc : c ∈ demandCauses) : t.latched c = (n.sample reading).latched c :=
    ht.2.2.2.2 c hc
  have effective (law : BrakeLaw s) {c : Cause} {level : Nat} (hc : c ∈ demandCauses)
      (h : level ≤ (n.sample reading).latched c) : level ≤ t.latched c ∧ level ≤ t.brake.effective := by
    have held : level ≤ t.latched c := by
      rw [latched c hc]
      exact h
    exact ⟨held, effective_of_latched (exec_keepsBrakeLaw law hexec) held⟩
  refine ⟨t, hexec, all.clock_eq (by decide), (ht.touches .sampleDue (by decide)).trans due,
    restarted .hold (by decide), restarted .analogIn (by decide),
    (congrArg Measurement.lastSample meas).trans noted, acc0, before0, edges0, acc1, before1, edges1,
    all .phase (by decide), all .cfg (by decide), all .pending (by decide), all .answers (by decide),
    all .debounced (by decide), all .wires (by decide), ?_, fun hcar => ?_, fun hcar => ?_,
    fun hsup hu hk => ?_, fun hcar hk => ?_⟩
  · rw [meas]
    exact sample_lastSign n reading
  · have inForce : (t.prof.setInForce, t.prof.carTrip) = (_, _) :=
      (ht.touches .setInForce (by decide)).trans (sample_setInForce (s := n) hcar reading)
    rw [Prod.mk.injEq] at inForce
    obtain ⟨set, carTrip⟩ := inForce
    have measured := (restartSample_touches reading n).comp
      (sampleMeasurement_touches reading (n.restartSample reading))
    have trip : ((n.restartSample reading).sampleMeasurement reading).driveTrip = s.driveTrip := by
      unfold State.driveTrip
      rw [driveMotion_congr (measured .peers (by decide))]
      rfl
    have notice : ((n.restartSample reading).sampleMeasurement reading).prof.notice = s.prof.notice :=
      measured .notice (by decide)
    obtain ⟨shown, other⟩ := sampleSet_spec ((n.restartSample reading).sampleMeasurement reading)
    rw [trip, notice] at shown other
    rw [set, carTrip]
    have under := (sample_underway (s := n) (underway_of_car hcar) reading).1
    exact ⟨((measured.comp under).comp ht.touches) .notice (by decide), shown, other⟩
  · have known (h : (n.restartSample reading).adopted = (n.restartSample reading).stilled) :
        t.meas.known = s.meas.known := by
      rw [meas]
      exact sample_known (s := n) hcar reading h
    have stands : t.meas.standstill = (n.restartSample reading).stilled.meas.standstill := by
      rw [meas]
      exact measures.standstill
    refine ⟨fun hk => (known (adopted_of_known hk)).trans hk, fun hk hst => ?_, fun hk hst => ?_⟩
    · exact (known (adopted_of_settled fun _ => .inr (stands.symm.trans hst))).trans hk
    · refine ⟨fun m h hm hsync hstill hh hL => ?_, fun hnone => ?_⟩
      · rw [track, travel, meas]
        exact sample_adopts (s := n) hcar reading hk (by rw [← meas]; exact hst) hm hsync hstill hh hL
      · refine (known (sampleAdoption_declines fun m hm => hnone m ?_)).trans hk
        rw [driveMotion_congr (stilled_parts _ .peers (by decide))] at hm
        exact hm
  · intro raw
    rw [meas] at hk
    obtain ⟨out, above, latches⟩ := sample_causes (s := n) hu reading hsup hk
    rw [← meas] at out above latches
    refine ⟨out.trans (offTrack_iff _ _), above, fun law => ?_⟩
    obtain ⟨latchesOut, latchesAbove⟩ := latches law.1.ge
    exact ⟨fun hnow hwas => effective law (by decide) (latchesOut hnow hwas),
      fun hnow hwas => effective law (by decide) (latchesAbove hnow hwas)⟩
  · intro marks window differs
    obtain ⟨sought, judged⟩ := sample_marks_judged (s := n) hcar hk reading _ rfl
    rw [← meas, ← track] at sought judged
    rw [← travel] at sought
    refine ⟨sought, fun h => ?_⟩
    obtain ⟨up, none, some⟩ := judged h
    refine ⟨up, none, fun i m hi hm => ?_⟩
    obtain ⟨past, within⟩ := some i m hi hm
    refine ⟨fun hb => ?_, fun hb => ?_⟩
    · obtain ⟨misses, expected, count, latches⟩ := past hb
      exact ⟨misses, expected, ht.count_eq.trans count,
        fun law htwo => effective law (by decide) (latches law.1.ge htwo)⟩
    · obtain ⟨misses, expected, count⟩ := within hb
      exact ⟨misses, expected, ht.count_eq.trans count⟩

end Sys2Proof.Machine
end


section
/-! # The safety outputs (O7) -/

namespace Sys2Proof.Machine

open Sys2Proof

/-- An output that shows its signal under the output law. -/
theorem OutputLaw.energised_of {s : State} (h : OutputLaw s) {i : Nat} {o : OutputConfig} {sig : Signal}
    (ho : s.outputMap[i]? = some o) (hsig : o.signal = some sig) :
    s.term.energised[i]? = some (s.running && s.signalOn sig) ∧
      s.term.outOn[i]? = some (s.running && ((s.running && s.signalOn sig) != o.inverted)) := by
  obtain ⟨energised, on, -⟩ := h
  have shown : s.outputEnergised o = (s.running && s.signalOn sig) := by
    unfold State.outputEnergised
    rw [hsig]
  have level : s.outputOn o = (s.running && ((s.running && s.signalOn sig) != o.inverted)) := by
    unfold State.outputOn
    rw [hsig, shown]
  rw [energised, on, List.getElem?_map, List.getElem?_map, ho, ← level, ← shown]
  exact ⟨rfl, rfl⟩

/-- A safety hold signal that is withheld, or without the output hold timer, is off (R99, R177). -/
theorem signalOn_withheld {s : State} {sig : Signal} (hsafe : isSafetyHold sig = true)
    (h : s.withheld sig = true ∨ s.term.hold.isRunning = false) : s.signalOn sig = false := by
  unfold State.signalOn
  rw [if_pos hsafe]
  rcases h with h | h
  · rw [h, Bool.not_true, Bool.and_false, Bool.false_and]
  · rw [h, Bool.and_false]

theorem signalOn_asked {s : State} {sig : Signal} (h : s.signalOn sig = true) : s.asked sig = true := by
  unfold State.signalOn at h
  split at h
  · rw [Bool.and_eq_true, Bool.and_eq_true] at h
    exact h.1.1
  · exact h

theorem releaseAsked_cases {s : State} {d : Side} (h : s.releaseAsked d = true) :
    (s.side d).state = .released ∧ (s.side d).confirmed = true ∨
      (s.side d).state = .evacuation := by
  unfold State.releaseAsked at h
  split at h
  · next hs => exact .inl ⟨hs, h⟩
  · next hs => exact .inr hs
  · exact absurd h (by decide)

/-- Under the door law a door release is asked for as R146 and R151 say. -/
theorem DoorLaw.asked {s : State} (h : DoorLaw s) (hrun : s.running = true) (hcar : s.role = .car)
    {d : Side} (ha : s.releaseAsked d = true) : s.meas.standstill = true ∧
      ((s.side d).state = .released ∧ (s.side d).confirmed = true ∧ s.heldGrantShown = true ∨
        (s.side d).state = .evacuation ∧ 2 ≤ s.brake.effective) := by
  obtain ⟨-, running⟩ := h
  obtain ⟨asked, -, -⟩ := running hrun hcar
  obtain ⟨still, why⟩ := asked d (by cases d <;> decide) ha
  refine ⟨still, ?_⟩
  rcases why with ⟨hrel, hshown⟩ | evacuating
  · rcases releaseAsked_cases ha with ⟨-, hconf⟩ | hev
    · exact .inl ⟨hrel, hconf, hshown⟩
    · exact absurd (hrel.symm.trans hev) nofun
  · exact .inr evacuating

/-- Settles O7. -/
theorem safetyOutputsWithheld : Obligations.SafetyOutputsWithheld := by
  refine ⟨fun s i o d hout hdoor hcar ho hsig hon => ?_, fun s i o sig hout ho hsig hinv hwhy => ?_⟩
  · rw [(hout.energised_of ho hsig).1, Option.some_inj, Bool.and_eq_true] at hon
    obtain ⟨hrun, signal⟩ := hon
    refine hdoor.asked hrun hcar ?_
    cases d with
    | left => exact signalOn_asked (sig := .doorReleaseLeft) signal
    | right => exact signalOn_asked (sig := .doorReleaseRight) signal
  · obtain ⟨energised, on⟩ := hout.energised_of ho hsig
    have off : s.signalOn sig = false := by
      rcases hwhy with ⟨rfl | rfl, heff⟩ | ⟨rfl, heff⟩ | ⟨hsafe, hhold⟩
      · exact signalOn_withheld rfl (.inl (decide_eq_true heff))
      · exact signalOn_withheld rfl (.inl (decide_eq_true heff))
      · exact signalOn_withheld rfl (.inl (decide_eq_true heff))
      · exact signalOn_withheld hsafe (.inr hhold)
    rw [energised, on, off, hinv, Bool.and_false]
    exact ⟨rfl, congrArg some (Bool.and_false _)⟩

end Sys2Proof.Machine
end


section
/-! # The frames that a GATE takes (O6)

Of the places of a GATE a frame can touch only those of a cycle that opens, which start at none. -/

namespace Sys2Proof.Machine

open Sys2Proof

/-! ## Roles -/

theorem identity_ne_car {s : State} (h : s.role ≠ .car) (c : CarId) :
    (s.conf.identity == .car c) = false := by
  by_contra hc
  rw [Bool.not_eq_false, beq_iff_eq] at hc
  exact h (by unfold State.role UnitConfig.role; rw [hc]; rfl)

theorem identity_ne_berth {s : State} (h : s.role ≠ .berth) (b : Nat) :
    (s.conf.identity == .berth b) = false := by
  by_contra hc
  rw [Bool.not_eq_false, beq_iff_eq] at hc
  exact h (by unfold State.role UnitConfig.role; rw [hc]; rfl)

theorem identity_ne_drive {s : State} (h : s.role ≠ .drive) :
    (s.conf.identity == .drive) = false := by
  by_contra hc
  rw [Bool.not_eq_false, beq_iff_eq] at hc
  exact h (by unfold State.role UnitConfig.role; rw [hc]; rfl)

theorem redecide_of_not_gate {s : State} (h : s.role ≠ .gate) : s.redecide = s := by
  unfold State.redecide
  rw [if_neg (by simpa using h)]

theorem readsReader_of_not_gate {s : State} (h : s.role ≠ .gate) : s.readsReader = false := by
  unfold State.readsReader
  rw [show (s.role == .gate) = false by simpa using h, Bool.and_false]

/-! ## Frames at a GATE -/

/-- What the frames that a GATE takes can touch. -/
def gateFrameParts : List Part :=
  [.held, .rows, .demands, .judged, .records, .effective, .proof, .queue, .periods, .requeue,
   .counts, .cycle, .cars, .passback, .peers, .rx]

/-- The pending places of `t` are those of `s`, and its unannounced admissions are some of those of `s`. -/
structure PlacesFall (s t : State) : Prop where
  pending : t.gate.cycle.pending = s.gate.cycle.pending
  unannounced : t.gate.cycle.unannounced.Sublist s.gate.cycle.unannounced

namespace PlacesFall

variable {s t u : State} {X : List Part}

theorem of_touches (h : Touches X s t) (hX : Part.places ∉ X := by decide) : PlacesFall s t :=
  ⟨h.pending_eq hX, by rw [h.unannounced_eq hX]⟩

theorem trans (h : PlacesFall s t) (g : PlacesFall t u) : PlacesFall s u :=
  ⟨g.pending.trans h.pending, g.unannounced.trans h.unannounced⟩

theorem refl (s : State) : PlacesFall s s := ⟨rfl, List.Sublist.refl _⟩

end PlacesFall

theorem tellLevel_of_gate {s : State} (h : s.role = .gate) (before : Nat) :
    s.tellLevel before = s.gateLevel := by
  unfold State.tellLevel
  rw [h]

theorem reform_touches_of_gate {s : State} (h : s.role = .gate) : Touches gateFrameParts s s.reform := by
  have raised := (setEffective_touches s.formedLevel s).mono (Y := gateFrameParts) (by decide)
  unfold State.reform State.levelChanged
  refine .ite (fun _ => .refl _ _) (fun _ => .ite (fun _ => ?_) (fun _ => raised))
  have proofed := raised.trans ((proofAtChange_touches s.brake.effective _).mono (by decide))
  rw [tellLevel_of_gate (proofed.role_eq.trans h)]
  exact proofed.trans (((gateLevel_touches _).comp (queueAllStates_touches _)).mono (by decide))

theorem takeOrder_touches_of_gate {s : State} (h : s.role = .gate) (addr level : Nat) (c : Cause)
    (p : Option Nat) (n : Nat) : Touches gateFrameParts s (s.takeOrder addr level c p n) := by
  have late : Touches [.counts] s (match s.brake.held with
      | some m => if m = n then s else s.bump .lateOrders
      | none => s) := by
    split
    · exact .ite (fun _ => .refl _ _) (fun _ => bump_touches _ s)
    · exact .refl _ _
  have row (x : State) (f : List LevelRow → List LevelRow) :
      Touches [.rows] x (x.setBrake (fun b => { b with rows := f b.rows })) := fun p hp => by
    cases p <;> first | rfl | exact absurd (by decide) hp
  have ordered := (late.comp (row _ (fun l => l.modify addr (orderedRow level c p n)))).mono
    (Y := gateFrameParts) (by decide)
  exact ordered.trans (reform_touches_of_gate (ordered.role_eq.trans h))

theorem takeAnnounced_touches_of_gate {s : State} (h : s.role = .gate) (addr level : Nat) :
    Touches gateFrameParts s (s.takeAnnounced addr level) := by
  have announced : Touches gateFrameParts s (s.setBrake (fun b => { b with
      rows := b.rows.modify addr (fun r => { r with announced := max r.announced level }) })) :=
    fun p hp => by cases p <;> first | rfl | exact absurd (by decide) hp
  exact announced.trans (reform_touches_of_gate (announced.role_eq.trans h))

theorem passBrake_touches_of_gate {s : State} (h : s.role = .gate) (f : Frame) :
    Touches gateFrameParts s (s.passBrake f) := by
  unfold State.passBrake
  split
  · exact .ite
      (fun _ => (takeOrder_touches_of_gate h _ _ _ _ _).trans ((clearHeld_touches _).mono (by decide)))
      (fun _ => takeOrder_touches_of_gate h _ _ _ _ _)
  · split
    · exact takeAnnounced_touches_of_gate h _ _
    · exact .refl _ _

theorem acceptReset_touches_of_gate {s : State} (h : s.role = .gate) (number : Nat) :
    Touches gateFrameParts s (s.acceptReset number) := by
  have reset := (resetDemands_touches number s).mono (Y := gateFrameParts) (by decide)
  have formed := reset.trans (reform_touches_of_gate (reset.role_eq.trans h))
  rw [acceptReset_eq]
  have told : (s.resetDemands number).reform.tellReset = (s.resetDemands number).reform := by
    unfold State.tellReset
    rw [formed.role_eq.trans h]
  rw [told]
  exact formed.trans ((reOrder_touches _).mono (by decide))

theorem deliver_touches_of_gate {s : State} (h : s.role = .gate) (f : Frame) :
    Touches gateFrameParts s (s.deliver f) := by
  have car (c : CarId) := identity_ne_car (s := s) (by rw [h]; decide) c
  have berth (b : Nat) := identity_ne_berth (s := s) (by rw [h]; decide) b
  have drive := identity_ne_drive (s := s) (by rw [h]; decide)
  have unrouted : Touches gateFrameParts s (s.bump .unroutedFrames) :=
    (bump_touches _ s).mono (by decide)
  unfold State.deliver State.routeWithdrawal
  simp only [car, berth, drive, h]
  split
  · refine .ite (fun _ => ?_) (fun _ => unrouted)
    exact .ite (fun _ => (bump_touches _ s).mono (by decide)) (fun _ => .ite
      (fun _ => acceptReset_touches_of_gate h _) (fun _ => (bump_touches _ s).mono (by decide)))
  · exact .refl _ _
  · exact .refl _ _
  · exact .refl _ _
  · exact .refl _ _
  · exact .refl _ _
  · exact .refl _ _
  · split <;> exact .refl _ _
  · exact .refl _ _

/-- What a frame taken at a GATE makes of it. -/
structure FrameAtGate (s t : State) : Prop where
  touches : Touches (.places :: gateFrameParts) s t
  places : PlacesFall s t

namespace FrameAtGate

variable {s t u : State}

theorem of_touches (h : Touches gateFrameParts s t) : FrameAtGate s t :=
  ⟨h.mono (by decide), .of_touches h⟩

theorem trans (h : FrameAtGate s t) (g : FrameAtGate t u) : FrameAtGate s u :=
  ⟨h.touches.trans g.touches, h.places.trans g.places⟩

theorem refl (s : State) : FrameAtGate s s := of_touches (.refl _ _)

theorem role_eq (h : FrameAtGate s t) : t.role = s.role := h.touches.role_eq

end FrameAtGate

/-- A cycle that opens starts with no place unannounced (R158). -/
theorem openCycle_places (c : CarId) (o : Opening) (s : State) : PlacesFall s (s.openCycle c o) := by
  have forgot := forgetReleases_touches s
  refine ⟨?_, List.nil_sublist _⟩
  exact forgot.pending_eq

theorem judgeLoadReport_places (c : CarId) (l : LoadReport) (s : State) :
    PlacesFall s (s.judgeLoadReport c l) := by
  have flags (x : State) (f : CarFlags → CarFlags) : PlacesFall x (x.setCarFlags c f) :=
    .of_touches (setCarFlags_touches c f x)
  unfold State.judgeLoadReport
  refine PlacesFall.trans ?_ (flags _ _)
  split
  · split
    · split
      · exact .refl _
      · split
        · exact openCycle_places _ _ _
        · exact .of_touches (bump_touches _ _)
    · dsimp only
      split
      · exact (flags _ _).trans ⟨rfl, List.Sublist.refl _⟩
      · exact flags _ _
  · exact flags _ _

theorem judgeDoorState_places (c : CarId) (fresh : Bool) (d : DoorReport) (s : State) :
    PlacesFall s (s.judgeDoorState c fresh d) := by
  unfold State.judgeDoorState
  split
  · have flagged := PlacesFall.of_touches (setCarFlags_touches c (fun f => { f with
      released := f.released || d.left.released || d.right.released }) s)
    dsimp only
    split
    · exact flagged.trans ⟨rfl, List.Sublist.refl _⟩
    · exact flagged
  · exact .refl _

theorem takeAdmission_places (a : AdmissionReport) (i : Nat) (s : State) :
    PlacesFall s (s.takeAdmission a i) := by
  have listed (x : State) : PlacesFall x (a.tickets.foldl (fun t id => t.passback id .heard) x) :=
    .of_touches (X := [.passback]) (.foldl (fun t id => passback_touches id _ t) _ _)
  unfold State.takeAdmission
  split
  · split
    · exact .of_touches (bump_touches _ s)
    · split
      · exact .of_touches (bump_touches _ s)
      · refine PlacesFall.trans (t := s.setCycle (fun c => { c with
          others := c.others.set i { heard := a.cumulative, certain := true } })) ?_ (listed _)
        exact ⟨rfl, List.Sublist.refl _⟩
  · exact .refl _

theorem takeRecord_atGate {s : State} (h : s.role = .gate) (f : Frame) :
    FrameAtGate s (s.takeRecord f) := by
  unfold State.takeRecord
  rw [h]
  dsimp only
  split
  · contradiction
  · split
    · exact ⟨(judgeLoadReport_touches _ _ s).mono (by decide), judgeLoadReport_places _ _ s⟩
    · exact .refl _
  · exact ⟨(judgeDoorState_touches _ _ _ s).mono (by decide), judgeDoorState_places _ _ _ s⟩
  · split
    · exact ⟨(takeAdmission_touches _ _ s).mono (by decide), takeAdmission_places _ _ s⟩
    · exact .refl _
  · exact .refl _

theorem noticeChanges_of_gate {s : State} (h : s.role = .gate) (before : List PeerEntry)
    (stored : List Identity) : s.noticeChanges before stored = s := by
  have unmoved (l : List Identity) : l.foldl (fun t id => t.notice id) s = s := by
    induction l with
    | nil => rfl
    | cons id l ih =>
      have : s.notice id = s := by unfold State.notice; rw [h]
      rw [List.foldl_cons, this, ih]
  exact unmoved _

theorem applyFrame_atGate {s : State} (h : s.role = .gate) (f : Frame) :
    FrameAtGate s (s.applyFrame f) := by
  have stored := FrameAtGate.of_touches (((renewEntry_touches f s).comp
    (setEntry_touches f.source (·.store f.payload) _)).mono (by decide))
  have passed := stored.trans (.of_touches (passBrake_touches_of_gate (stored.role_eq.trans h) f))
  have taken := passed.trans (takeRecord_atGate (passed.role_eq.trans h) f)
  have delivered := taken.trans (.of_touches (deliver_touches_of_gate (taken.role_eq.trans h) f))
  unfold State.applyFrame
  dsimp only
  rw [noticeChanges_of_gate (delivered.role_eq.trans h)]
  exact delivered

theorem takeOne_atGate {s : State} (h : s.role = .gate) : FrameAtGate s s.takeOne := by
  have applied (x : State) (f : Frame) (hx : FrameAtGate s x) : FrameAtGate s (x.applyFrame f) :=
    hx.trans (applyFrame_atGate (hx.role_eq.trans h) f)
  unfold State.takeOne
  split
  · exact .refl _
  next f rest _ =>
    have dropped := FrameAtGate.of_touches ((dropOldest_touches rest s).mono (by decide))
    unfold State.takeChecked
    split
    · split
      · exact dropped.trans (.of_touches ((bump_touches _ _).mono (by decide)))
      · exact applied _ f (dropped.trans (.of_touches ((passControl_touches f _).mono (by decide))))
    · exact applied _ f (dropped.trans (.of_touches ((passState_touches f _).mono (by decide))))
    · exact applied _ f dropped

theorem takeFrames_atGate (n : Nat) {s : State} (h : s.role = .gate) :
    FrameAtGate s (s.takeFrames n) := by
  induction n generalizing s with
  | zero => exact .refl _
  | succ n ih =>
    have taken := takeOne_atGate h
    exact taken.trans (ih (taken.role_eq.trans h))

end Sys2Proof.Machine
end


section
/-! # The blocks of a unit that does not run (O6)

Outside the running states the sides of a CAR, the record of a BERTH and the ticket of a GATE are at rest, and
every command leaves them so. -/

namespace Sys2Proof.Machine

open Sys2Proof

theorem enqueue_of_not_running {s : State} (h : s.running = false) (p : Payload) : s.enqueue p = s := by
  unfold State.enqueue
  rw [if_neg (Bool.not_eq_true _ ▸ h)]

theorem reform_touches_of_not_running {s : State} (h : s.running = false) :
    Touches [.effective] s s.reform := by
  have raised := setEffective_touches s.formedLevel s
  unfold State.reform State.levelChanged
  refine .ite (fun _ => .refl _ _) (fun _ => .ite (fun hr => ?_) (fun _ => raised))
  rw [raised.running_eq, h] at hr
  cases hr

theorem raise_touches_of_not_running {s : State} (h : s.running = false) (c : Cause) (level : Nat) :
    Touches [.demands, .judged, .records, .effective] s (s.raise c level) := by
  have judged : Touches [.demands, .judged, .records, .effective] s
      ((s.latch c level).setBrake ({ · with
        judged := (s.latch c level).highestOwn, raised := [] })) := fun p hp => by
    cases p <;> first | rfl | exact absurd (by decide) hp
  unfold State.raise State.judgeRise
  refine .ite (fun _ => ?_) (fun _ => judged)
  split
  · next cause _ _ =>
    unfold State.queueOrder
    rw [enqueue_of_not_running (judged.running_eq.trans h)]
    have written := judged.trans
      ((writeRecord_touches cause (s.latch c level).highestOwn _).mono (by decide))
    exact written.trans ((reform_touches_of_not_running (written.running_eq.trans h)).mono (by decide))
  · exact judged.trans
      ((reform_touches_of_not_running (judged.running_eq.trans h)).mono (by decide))

/-- `t` has the blocks that rest outside the running states as `s` has them, but for places whose admission
has been reported. -/
structure RestsAs (s t : State) : Prop where
  left : t.door.left = s.door.left
  right : t.door.right = s.door.right
  grant : t.grant = s.grant
  ticket : s.gate.ticket = .none → t.gate.ticket = .none
  places : s.gate.ticket = .none → PlacesFall s t

namespace RestsAs

variable {s t u : State} {X : List Part}

theorem of_touches (h : Touches X s t)
    (hX : ∀ p ∈ [Part.sides, .grant, .ticket, .places], p ∉ X := by decide) : RestsAs s t where
  left := h.left_eq (hX _ (by decide))
  right := h.right_eq (hX _ (by decide))
  grant := h.grant_eq (hX _ (by decide))
  ticket hn := (h.ticket_eq (hX _ (by decide))).trans hn
  places _ := .of_touches h (hX _ (by decide))

theorem trans (h : RestsAs s t) (g : RestsAs t u) : RestsAs s u where
  left := g.left.trans h.left
  right := g.right.trans h.right
  grant := g.grant.trans h.grant
  ticket hn := g.ticket (h.ticket hn)
  places hn := (h.places hn).trans (g.places (h.ticket hn))

theorem refl (s : State) : RestsAs s s := of_touches (.refl [] s)

end RestsAs

theorem redecide_unheld {s : State} (h : s.gate.ticket = .none) : s.redecide = s := by
  unfold State.redecide
  rw [h]
  split <;> rfl

/-- A ticket that is not held is not decided anew, so only the frames it would have been decided on could move
the places. -/
theorem redecide_restsAs (s : State) : RestsAs s s.redecide := by
  have ht : Touches (.ticket :: .replies :: .red :: .places :: gateFrameParts) s s.redecide := by
    unfold State.redecide
    refine .ite (fun hg => ?_) (fun _ => .refl _ _)
    split
    · have role : s.role = .gate := by simpa using hg
      exact ((takeFrames_atGate _ role).touches.mono (by decide)).trans
        ((decideAgain_touches _).mono (by decide))
    · exact .refl _ _
  exact ⟨ht.left_eq, ht.right_eq, ht.grant_eq, fun hn => by rw [redecide_unheld hn, hn],
    fun hn => by rw [redecide_unheld hn]; exact .refl _⟩

theorem reportSent_places (a : AdmissionReport) (s : State) : PlacesFall s (s.reportSent a) := by
  unfold State.reportSent
  split
  · exact ⟨rfl, List.filter_sublist⟩
  · exact .refl _

theorem reportSent_restsAs (a : AdmissionReport) (s : State) : RestsAs s (s.reportSent a) := by
  have ht := reportSent_touches a s
  exact ⟨ht.left_eq, ht.right_eq, ht.grant_eq, fun hn => ht.ticket_eq.trans hn,
    fun _ => reportSent_places a s⟩

/-- At a DRIVE an accepted reset leaves the other blocks alone, outside the running states. -/
theorem acceptReset_restsAs {s : State} (hrun : s.running = false) (hrole : s.role = .drive)
    (number : Nat) : RestsAs s (s.acceptReset number) := by
  have reset := resetDemands_touches number s
  have formed := reset.comp (reform_touches_of_not_running (reset.running_eq.trans hrun))
  have told : Touches tripParts (s.resetDemands number).reform
      (s.resetDemands number).reform.tellReset := by
    unfold State.tellReset
    rw [formed.role_eq.trans hrole]
    exact ((tripReset_touches _).trans (.ite (fun _ => (tripRise_touches _ _).mono (by decide))
      (fun _ => .refl _ _))).trans ((authorityReset_touches _).mono (by decide))
  rw [acceptReset_eq]
  exact .of_touches ((formed.comp told).comp (reOrder_touches _)) (by decide)

theorem tellSent_restsAs {s : State} (hrun : s.running = false) (p : Payload) :
    RestsAs s (s.tellSent p) := by
  unfold State.tellSent
  split
  · split
    · exact (reportSent_restsAs _ _).trans (redecide_restsAs _)
    · exact .refl _
  · split
    · next hrole =>
      unfold State.judgeReset
      split
      · exact .of_touches (bump_touches _ _)
      · split
        · exact acceptReset_restsAs hrun (by simpa using hrole) _
        · exact .of_touches (bump_touches _ _)
    · exact .refl _
  · exact .refl _

theorem sent_restsAs {s : State} (hrun : s.running = false) : RestsAs s s.sent := by
  have counted := (bump_touches .framesSent s).comp (setConflictRun_touches 0 _)
  unfold State.sent
  split
  · dsimp only
    split
    · have ended := (counted.comp (removeOnBus_touches _)).comp (endAttempt_touches _)
      exact (RestsAs.of_touches ended).trans (tellSent_restsAs (ended.running_eq.trans hrun) _)
    · exact .of_touches (counted.comp (endAttempt_touches _))
  · exact .refl _

/-- What a bit error touches before a conflict is judged. -/
def bitErrorParts : List Part := [.counts, .abortPlaced, .conflictRun] ++ attemptParts

/-- A bit error touches the attempt alone, or enters ADDRESS_CONFLICT after that (R58). -/
theorem bitError_cases (field : BitField) (s : State) :
    Touches bitErrorParts s (s.bitError field) ∨
      ∃ x, Touches bitErrorParts s x ∧ s.bitError field = x.enterConflict := by
  have aborted (x : State) : Touches [.abortPlaced] x (x.setBus ({ · with abortPlaced := true })) :=
    fun p hp => by cases p <;> first | rfl | exact absurd (by decide) hp
  have failed := (((bump_touches .bitErrors s).comp (aborted _)).comp (failAttempt_touches _)).mono
    (Y := bitErrorParts) (by decide)
  unfold State.bitError
  split
  · generalize ((s.bump .bitErrors).setBus ({ · with abortPlaced := true })).failAttempt = y at failed
    unfold State.conflictError
    split
    · have run := failed.trans ((setConflictRun_touches (min 3 (y.bus.conflictRun + 1)) y).mono
        (by decide))
      dsimp only
      split
      · exact .inr ⟨_, run, rfl⟩
      · exact .inl run
    · exact .inl failed
  · exact .inl (.refl _ _)

theorem enterConflict_running (s : State) : s.enterConflict.running = true := by
  unfold State.enterConflict
  rw [((((raise_touches .addressConflict 2 _).comp (removeControls_touches _)).comp
    (redecide_touches _)).running_eq)]
  rfl

/-- A bit error leaves a unit that does not run at rest, or enters ADDRESS_CONFLICT (R58). -/
theorem bitError_restsAs {s : State} (field : BitField) (h : (s.bitError field).running = false) :
    RestsAs s (s.bitError field) := by
  rcases bitError_cases field s with ht | ⟨x, -, he⟩
  · exact .of_touches ht
  · rw [he, enterConflict_running] at h
    cases h

/-- An accepted image leads to a unit that runs (R184). -/
theorem enterListening_running (reading : BitVec 16) (s : State) :
    (s.enterListening reading).running = true := by
  unfold State.enterListening State.raiseStart
  rw [((((raise_touches .start 2 _).comp (queueAllStates_touches _)).comp
    (startDebounce_touches _)).comp (sample_touches reading _)).running_eq]
  rfl

theorem configRead_restsAs {s : State} (i : Image) (reading : BitVec 16)
    (h : (s.configRead i reading).running = false) : RestsAs s (s.configRead i reading) := by
  have fault (f : CheckFailure) : RestsAs s (s.enterConfigFault f) := by
    have entered : Touches [.phase, .failure] s
        { s with phase := .configured .configFault, failure := some f } := fun p hp => by
      cases p <;> first | rfl | exact absurd (by decide) hp
    exact .of_touches (entered.comp (raise_touches_of_not_running rfl .start 2))
  unfold State.configRead at h ⊢
  split
  · next id hc hi =>
    rw [hc, hi] at h
    exact absurd ((enterListening_running _ _).symm.trans h) (by decide)
  · exact fault _
  · exact fault _

/-! ## Commands that leave the blocks of a role alone -/

/-- The parts that the laws of the doors, the grant and the places read. -/
def keyParts : List Part :=
  [.sides, .standstill, .peers, .effective, .cfg, .phase, .grant, .debounced, .ticket, .places]

/-- What any other command can touch. -/
def unkeyedParts : List Part := runParts.filter (fun p => !keyParts.contains p)

/-- The commands that can touch a part that these laws read. -/
def movesKeys : Instr → Bool
  | .configurationReadComplete _ _ _ | .listeningTimerExpiry _ | .sampleEvent _ _
  | .zeroTimerExpiry _ _ | .illegalTransitionLimit _ _ | .disagreementTimerExpiry _
  | .agreementTimerExpiry _ | .standstillTimerExpiry _ | .ropeSlipTimerExpiry _ | .bitError _ _
  | .frameSent _ | .takeFrame _ | .staleTimerExpiry _ _ | .lostTimerExpiry _ _
  | .brakeProofTimerExpiry _ | .debounceTimerExpiry _ _ | .repeatTimerExpiry _
  | .confirmationTimerExpiry _ | .discardTimerExpiry _ | .ticketRecord _ _ | .lineNoise _ _
  | .holdTimerExpiry _ | .passageTimerExpiry _ | .status _ | .peer _ _ | .counts _ | .brakeRecords _
  | .cycle _ | .clearCounts _ | .referenceRestore _ | .unknownCommand _ => true
  | _ => false

theorem markEdge_parts (s : State) : Touches [.position, .marks, .counts] s s.markEdge := by
  have counted : Touches [.position, .marks, .counts] s (s.bump .unexpectedMarks) :=
    (bump_touches _ s).mono (by decide)
  unfold State.markEdge
  split
  · split
    · refine .ite (fun _ => ?_) (fun _ => counted)
      exact fun p hp => by cases p <;> first | rfl | exact absurd (by decide) hp
    · exact counted
  · exact counted

theorem breakFraming_parts (s : State) : Touches [.reader, .replies, .red, .counts] s s.breakFraming :=
  (setAssembling_touches [] s).comp (replyFormat_touches _)

theorem effect_quiet {c : Instr} (hc : isResetCommand c = false) (hm : movesKeys c = false)
    (n : State) : Touches unkeyedParts n (effect c n) := by
  have idle : Touches unkeyedParts n n := .refl _ _
  unfold effect
  split
  case h_7 => exact .ite (fun _ => (transition_touches _ _ n).mono (by decide)) (fun _ => idle)
  case h_8 => exact .ite (fun _ => (setChannel_touches _ _ n).mono (by decide)) (fun _ => idle)
  case h_16 => exact .ite (fun _ => (markEdge_parts n).mono (by decide)) (fun _ => idle)
  case h_17 => exact (offer_touches n).mono (by decide)
  case h_18 => exact (loseArbitration_touches n).mono (by decide)
  case h_21 => exact (noAck_touches n).mono (by decide)
  case h_22 => exact .ite (fun _ => (complete_touches _ n).mono (by decide)) (fun _ => idle)
  case h_23 => exact .ite (fun _ => (takeError_touches _ n).mono (by decide)) (fun _ => idle)
  case h_25 => exact .ite (fun _ => (queueState_touches _ n).mono (by decide)) (fun _ => idle)
  case h_29 => exact (rawChange_touches _ _ n).mono (by decide)
  case h_31 => exact .ite (fun _ => (dwellExpiry_touches n).mono (by decide)) (fun _ => idle)
  case h_32 => exact .ite (fun _ => (doorCloseTimeout_touches n).mono (by decide)) (fun _ => idle)
  case h_33 => exact .ite (fun _ => (enterDoorClosing_touches n).mono (by decide)) (fun _ => idle)
  case h_34 => exact .ite (fun _ => (torqueTimeout_touches n).mono (by decide)) (fun _ => idle)
  case h_39 => exact .ite (fun _ => (breakFraming_parts n).mono (by decide)) (fun _ => idle)
  case h_43 =>
    exact .ite (fun _ => fun p hp => by cases p <;> first | rfl | exact absurd (by decide) hp)
      (fun _ => idle)
  case h_44 => exact .ite (fun _ => (expirePassback_touches n).mono (by decide)) (fun _ => idle)
  case h_45 =>
    exact .ite (fun _ => fun p hp => by cases p <;> first | rfl | exact absurd (by decide) hp)
      (fun _ => idle)
  case h_54 => exact fun p hp => by cases p <;> first | rfl | exact absurd (by decide) hp
  case h_55 => exact (busIdle_touches n).mono (by decide)
  case h_1 | h_2 | h_3 | h_4 => exact Bool.noConfusion hc
  all_goals exact Bool.noConfusion hm

/-- Outside the running states a command that can touch those parts acts in five cases alone. -/
theorem effect_moves_of_not_running {c : Instr} {n : State} (hrun : n.running = false)
    (hm : movesKeys c = true) :
    effect c n = n ∨ (∃ i reading, effect c n = n.configRead i reading) ∨
      (∃ field, effect c n = n.bitError field) ∨ effect c n = n.sent ∨
      ∃ k, effect c n = n.command k := by
  have hlisten : n.phase ≠ .configured .listening := fun h => by simp [State.running, h] at hrun
  have guarded (b : Bool) (x : State) : (if n.running && b then x else n) = n := by
    rw [hrun, Bool.false_and]
    rfl
  unfold effect
  split
  case h_5 =>
    split
    · exact .inr (.inl ⟨_, _, rfl⟩)
    · exact .inl rfl
  case h_6 =>
    refine .inl (if_neg fun h => ?_)
    simp only [Bool.and_eq_true, beq_iff_eq] at h
    exact hlisten h.1
  case h_9 => exact .inl (guarded _ _)
  case h_10 | h_11 | h_12 | h_13 | h_14 | h_15 =>
    exact .inl (onLatestSample_of_not_running hrun _)
  case h_19 => exact .inr (.inr (.inl ⟨_, rfl⟩))
  case h_20 => exact .inr (.inr (.inr (.inl rfl)))
  case h_24 => exact .inl (guarded _ _)
  case h_26 => exact .inl (by rw [hrun]; rfl)
  case h_27 => exact .inl (by rw [hrun]; rfl)
  case h_28 =>
    refine .inl ?_
    split
    · exact guarded _ _
    · rfl
  case h_30 => exact .inl (guarded _ _)
  case h_35 => exact .inl (guarded _ _)
  case h_36 => exact .inl (guarded _ _)
  case h_37 => exact .inl (guarded _ _)
  case h_38 => exact .inl (by unfold State.readsReader; exact guarded _ _)
  case h_40 => exact .inl (by unfold State.readsReader; exact guarded _ _)
  case h_41 => exact .inl (guarded _ _)
  case h_42 => exact .inl (guarded _ _)
  case h_46 | h_47 | h_48 | h_49 | h_50 | h_51 | h_52 | h_53 =>
    exact .inr (.inr (.inr (.inr ⟨_, rfl⟩)))
  all_goals exact Bool.noConfusion hm

/-- What a command leaves of the blocks at rest, where the unit does not run after it. -/
theorem effect_restsAs {c : Instr} {n : State} (hc : isResetCommand c = false)
    (hrun : n.running = false) (h : (effect c n).running = false) : RestsAs n (effect c n) := by
  cases hm : movesKeys c with
  | false => exact .of_touches (effect_quiet hc hm n)
  | true =>
    rcases effect_moves_of_not_running hrun hm with he | ⟨i, reading, he⟩ | ⟨field, he⟩ | he |
      ⟨k, he⟩
    · rw [he]
      exact .refl _
    · rw [he] at h ⊢
      exact configRead_restsAs i reading h
    · rw [he] at h ⊢
      exact bitError_restsAs field h
    · rw [he]
      exact sent_restsAs hrun
    · rw [he]
      exact .of_touches (command_touches k n)

end Sys2Proof.Machine
end


section
/-! # A record of a BERTH is GRANTED only with presence (O6, R142, R149) -/

namespace Sys2Proof.Machine

open Sys2Proof

/-- A grant stands only with the presence input active. -/
def GrantHolds (s : State) : Prop := s.grant.state = .granted → s.presenceInput = true

theorem presenceInput_congr {s t : State} (h : t.term.debounced = s.term.debounced) :
    t.presenceInput = s.presenceInput := by
  unfold State.presenceInput State.input
  rw [h]

namespace GrantHolds

variable {s t : State} {X : List Part}

theorem of_ungranted (h : s.grant.state ≠ .granted) : GrantHolds s := fun hg => absurd hg h

theorem of_touches (h : GrantHolds s) (ht : Touches X s t)
    (hX : ∀ p ∈ [Part.grant, .debounced], p ∉ X := by decide) : GrantHolds t := fun hg => by
  rw [presenceInput_congr (ht .debounced (hX _ (by decide)))]
  exact h ((congrArg GrantTable.state (ht.grant_eq (hX _ (by decide)))).symm.trans hg)

theorem enqueue (h : GrantHolds s) (p : Payload) : GrantHolds (s.enqueue p) :=
  h.of_touches (enqueue_touches p s)

theorem bump (h : GrantHolds s) (c : Count) : GrantHolds (s.bump c) := h.of_touches (bump_touches c s)

theorem refuseRequest (h : GrantHolds s) (c : CarId) (n : Nat) (r : RefusalReason) :
    GrantHolds (s.refuseRequest c n r) := (h.enqueue _).bump _

theorem dropRecord (s : State) : GrantHolds s.dropRecord := of_ungranted nofun

theorem waitForGrant (s : State) : GrantHolds s.waitForGrant := of_ungranted nofun

theorem startWithdrawing (r : WithdrawReason) (s : State) : GrantHolds (s.startWithdrawing r) :=
  of_ungranted nofun

/-- The grant conditions name the presence input (R142). -/
theorem issueGrant {c : CarId} (h : s.grantConditions c = true) : GrantHolds s.issueGrant := by
  have presence : s.presenceInput = true := by
    unfold State.grantConditions at h
    exact (Bool.and_eq_true_iff.mp (Bool.and_eq_true_iff.mp h).1).1
  have granted : GrantHolds (s.setGrant (fun g => { g with
      counter := g.grantId, state := .granted, discardDue := none })) := fun _ => presence
  exact (granted.enqueue _).bump _

theorem leaveWithdrawing (h : GrantHolds s) : GrantHolds s.leaveWithdrawing := by
  unfold State.leaveWithdrawing
  split
  · exact dropRecord s
  · exact h

theorem newRequest (h : GrantHolds s) (c : CarId) (side : DoorSide) (n : Nat) :
    GrantHolds (s.newRequest c side n) := by
  unfold State.newRequest
  split
  · exact h.refuseRequest _ _ _
  · dsimp only
    split
    · next hc => exact issueGrant hc
    · exact waitForGrant _

theorem repeatRequest (h : GrantHolds s) (c : CarId) (side : DoorSide) (n : Nat) :
    GrantHolds (s.repeatRequest c side n) := by
  unfold State.repeatRequest
  split
  · exact h.enqueue _
  · exact h.enqueue _
  · split
    · exact (dropRecord s).refuseRequest _ _ _
    · exact waitForGrant _
  · split
    · exact (dropRecord s).refuseRequest _ _ _
    · split
      · next hc => exact issueGrant hc
      · exact waitForGrant _
  · exact h

theorem takeRequest (h : GrantHolds s) (c : CarId) (side : DoorSide) (n : Nat) :
    GrantHolds (s.takeRequest c side n) := by
  unfold State.takeRequest
  split
  · exact h.repeatRequest c side n
  · split
    · exact (((startWithdrawing .superseded s).enqueue _).newRequest c side n).leaveWithdrawing
    · exact h.newRequest c side n

theorem takeCarWithdrawal (h : GrantHolds s) (c : CarId) (g : Nat) (r : WithdrawReason) :
    GrantHolds (s.takeCarWithdrawal c g r) := by
  unfold State.takeCarWithdrawal
  split
  · exact (startWithdrawing r s).leaveWithdrawing
  · exact h.bump _

/-- A record judged is GRANTED only with presence, whatever it was (R149). -/
theorem judgeGrant (s : State) : GrantHolds s.judgeGrant := by
  unfold State.judgeGrant
  split
  · split
    · exact of_ungranted nofun
    · next hs _ => exact of_ungranted fun h => nomatch hs.symm.trans h
  · split
    · next hs _ => exact of_ungranted fun h => nomatch hs.symm.trans h
    · exact of_ungranted nofun
  · unfold State.judgeGranted
    split
    · refine leaveWithdrawing ?_
      exact (((startWithdrawing .presenceLost s).enqueue _).bump _).of_touches (raise_touches _ _ _)
    · next hp =>
      split
      · exact ((startWithdrawing .carNotStanding s).enqueue _).leaveWithdrawing
      · exact fun _ => by simpa using hp
  · next hs => exact leaveWithdrawing (of_ungranted fun h => nomatch hs.symm.trans h)
  · next hs => exact of_ungranted fun h => nomatch hs.symm.trans h

theorem discardExpiry (h : GrantHolds s) : GrantHolds s.discardExpiry := by
  unfold State.discardExpiry
  split
  · exact (dropRecord s).bump _
  · exact (dropRecord s).bump _
  · exact h

/-! ## Frames -/

theorem route (h : GrantHolds s) (source : Nat) (id : Identity) {f : State → State}
    (hf : GrantHolds (f s)) : GrantHolds (s.route source id f) := by
  unfold State.route
  split
  · exact hf
  · exact h.bump _

theorem routeWithdrawal (h : GrantHolds s) (source b : Nat) (c : CarId) (g : Nat)
    (r : WithdrawReason) : GrantHolds (s.routeWithdrawal source b c g r) := by
  unfold State.routeWithdrawal
  dsimp only
  split
  · split
    · exact h.route _ _ (h.takeCarWithdrawal c g r)
    · exact h
  · split
    · exact h.route _ _ (h.of_touches (takeBerthWithdrawal_touches b g s))
    · exact h
  · split
    · exact h.bump _
    · exact h

theorem deliver (h : GrantHolds s) (f : Frame) : GrantHolds (s.deliver f) := by
  have addressed (b : Bool) (id : Identity) (g : State → State) (hg : GrantHolds (g s)) :
      GrantHolds (if b then s.route f.source id g else s) := by
    split
    · exact h.route _ _ hg
    · exact h
  unfold State.deliver
  dsimp only
  split
  · exact h.route _ _ (h.of_touches (judgeReset_touches _ s))
  · exact addressed _ _ _ (h.of_touches (takeNotice_touches _ s))
  · exact addressed _ _ _ (h.of_touches (takeEvacuation_touches _ s))
  · exact addressed _ _ _ (h.of_touches (recordReply_touches _ _ _ s))
  · exact addressed _ _ _ (h.takeRequest _ _ _)
  · exact addressed _ _ _ (h.of_touches (takeGrant_touches _ _ _ _ s))
  · exact addressed _ _ _ (h.of_touches (takeRefusal_touches _ _ _ s))
  · exact h.routeWithdrawal _ _ _ _ _
  · exact h

theorem takeRecord (h : GrantHolds s) (f : Frame) : GrantHolds (s.takeRecord f) := by
  unfold State.takeRecord
  dsimp only
  split
  · split
    · exact h.of_touches (takeDriveMotion_touches _ s)
    · exact h
  · split
    · exact h.of_touches (judgeLoadReport_touches _ _ s)
    · exact h
  · exact h.of_touches (judgeDoorState_touches _ _ _ s)
  · split
    · exact h.of_touches (takeAdmission_touches _ _ s)
    · exact h
  · exact h

theorem notice (h : GrantHolds s) (id : Identity) : GrantHolds (s.notice id) := by
  unfold State.notice
  split
  · exact h.of_touches (judgeClosing_touches s)
  · split
    · exact h.of_touches (judgeClosing_touches s)
    · exact h
  · exact h.of_touches (doorDriveNotice_touches s)
  · split
    · exact h.of_touches (doorBerthNotice_touches s)
    · exact h
  · split
    · exact judgeGrant s
    · exact h
  · exact h

theorem noticeChanges (h : GrantHolds s) (before : List PeerEntry) (stored : List Identity) :
    GrantHolds (s.noticeChanges before stored) := by
  have fold (l : List Identity) (t : State) (ht : GrantHolds t) :
      GrantHolds (l.foldl (fun t id => t.notice id) t) := by
    induction l generalizing t with
    | nil => exact ht
    | cons id l ih => exact ih _ (ht.notice id)
  exact fold _ s h

theorem applyFrame (h : GrantHolds s) (f : Frame) : GrantHolds (s.applyFrame f) := by
  have stored : GrantHolds ((s.renewEntry f).setEntry f.source (·.store f.payload)) :=
    h.of_touches ((renewEntry_touches f s).comp (setEntry_touches _ _ _))
  exact (((stored.of_touches (passBrake_touches f _)).takeRecord f).deliver f).noticeChanges _ _

theorem takeOne (h : GrantHolds s) : GrantHolds s.takeOne := by
  unfold State.takeOne
  split
  · exact h
  · next f rest _ =>
    have dropped := h.of_touches (dropOldest_touches rest s)
    unfold State.takeChecked
    split
    · split
      · exact dropped.bump _
      · exact (dropped.of_touches (passControl_touches f _)).applyFrame f
    · exact (dropped.of_touches (passState_touches f _)).applyFrame f
    · exact dropped.applyFrame f

theorem takeFrames (n : Nat) {s : State} (h : GrantHolds s) : GrantHolds (s.takeFrames n) := by
  induction n generalizing s with
  | zero => exact h
  | succ n ih => exact ih h.takeOne

theorem redecide (h : GrantHolds s) : GrantHolds s.redecide := by
  unfold State.redecide
  split
  · split
    · exact (takeFrames _ h).of_touches (decideAgain_touches _)
    · exact h
  · exact h

theorem goStale (h : GrantHolds s) (addr : Nat) : GrantHolds (s.goStale addr) :=
  (h.of_touches (setEntry_touches _ _ s)).noticeChanges _ _

theorem goLost (h : GrantHolds s) (addr : Nat) : GrantHolds (s.goLost addr) := by
  have lost := h.of_touches (((setEntry_touches addr ({ · with freshness := .lost }) s).trans
    (endConflicts_touches _)).comp (countEntered_touches s.peers _))
  unfold State.goLost
  refine noticeChanges ?_ _ _
  split
  · have cleared := lost.of_touches (clearHeld_touches _)
    dsimp only
    split
    · exact cleared.of_touches (emptyNotice_touches _)
    · exact cleared
  · exact lost

theorem sent (h : GrantHolds s) : GrantHolds s.sent := by
  have counted := (bump_touches .framesSent s).comp (setConflictRun_touches 0 _)
  have told (x : State) (hx : GrantHolds x) (p : Payload) : GrantHolds (x.tellSent p) := by
    unfold State.tellSent
    split
    · split
      · exact (hx.of_touches (reportSent_touches _ x)).redecide
      · exact hx
    · split
      · exact hx.of_touches (judgeReset_touches _ x)
      · exact hx
    · exact hx
  unfold State.sent
  split
  · dsimp only
    split
    · exact told _ (h.of_touches ((counted.comp (removeOnBus_touches _)).comp (endAttempt_touches _))) _
    · exact h.of_touches (counted.comp (endAttempt_touches _))
  · exact h

theorem bitError (h : GrantHolds s) (field : BitField) : GrantHolds (s.bitError field) := by
  rcases bitError_cases field s with ht | ⟨x, hx, he⟩
  · exact h.of_touches ht
  · rw [he]
    unfold State.enterConflict
    exact ((h.of_touches hx).of_touches (((setPhase_touches _ x).comp (raise_touches _ _ _)).comp
      (removeControls_touches _))).redecide

/-- A change of the presence input of a BERTH is followed by the judgement of its record (R149). -/
theorem debounce (h : GrantHolds s) (hrole : s.role = .berth) (i : Nat) : GrantHolds (s.debounce i) := by
  unfold State.debounce
  dsimp only
  set x := s.setTerm (fun t => { t with
    debounced := t.debounced.set i (s.rawActive i), debounceDue := t.debounceDue.set i none }) with hx
  have kept (hi : i ≠ 0) : GrantHolds x := fun hg => by
    have same : x.presenceInput = s.presenceInput := by
      show (s.term.debounced.set i (s.rawActive i)).getD 0 false = s.term.debounced.getD 0 false
      rw [List.getD_eq_getElem?_getD, List.getD_eq_getElem?_getD, List.getElem?_set_ne hi]
    rw [same]
    exact h hg
  unfold State.inputChanged
  rw [show x.role = .berth from hrole]
  split
  case h_13 => exact judgeGrant x
  case h_14 => exact judgeGrant x
  case h_15 =>
    split
    · exact (kept (by decide)).of_touches (raise_touches _ _ _)
    · exact kept (by decide)
  case h_17 => exact kept fun hi => ‹Role.berth = Role.berth → _ = 0 → False› rfl hi
  all_goals contradiction

end GrantHolds

/-! ## Samples of a unit without supervision -/

/-- A sample of a BERTH or GATE measures, and does nothing for the role. -/
theorem sample_parts_of_unsupervised {s : State} (h : s.role = .berth ∨ s.role = .gate)
    (reading : BitVec 16) :
    Touches ([.hold, .analogIn, .sampleDue, .queue, .periods] ++ measParts ++ riseParts) s
      (s.sample reading) := by
  have measured := (restartSample_touches reading s).comp
    (sampleMeasurement_touches reading (s.restartSample reading))
  have blocks : s.sampleBlocks reading = (s.restartSample reading).sampleMeasurement reading := by
    refine if_neg ?_
    unfold State.supervises
    rw [measured.role_eq]
    rcases h with h | h <;> rw [h] <;> decide
  rw [sample_eq, blocks]
  generalize (s.restartSample reading).sampleMeasurement reading = m at measured ⊢
  have plays : m.roleSample s.owedNotice = m := by
    unfold State.roleSample
    rw [measured.role_eq]
    rcases h with h | h <;> rw [h]
  rw [plays]
  exact ((measured.comp (judgeRise_touches _)).comp (queueMotion_touches _)).mono (by decide)

/-- What a judgement on the latest sample can touch. -/
def latestParts : List Part := measParts ++ [.supervision, .authority] ++ riseParts

/-- The judgements on the latest sample, but that of standstill. -/
theorem onLatest_parts {f : Nat → State → State} {s : State}
    (h : ∀ t, Touches latestParts s (f t s)) : Touches latestParts s (s.onLatestSample f) :=
  onLatestSample_touches f s (by decide) h

theorem starting_of_not_running {s : State} (h : s.running = true) : (s.phase == .starting) = false := by
  by_contra hp
  rw [Bool.not_eq_false, beq_iff_eq] at hp
  rw [State.running, hp] at h
  exact absurd h (by decide)

/-- Every command of a running BERTH keeps a grant to the presence input (R149). -/
theorem effect_grantHolds {c : Instr} {n : State} (hc : isResetCommand c = false)
    (hrun : n.running = true) (hrole : n.role = .berth) (h : GrantHolds n) :
    GrantHolds (effect c n) := by
  cases hm : movesKeys c with
  | false => exact h.of_touches (effect_quiet hc hm n)
  | true =>
    unfold effect
    split
    case h_5 => rw [starting_of_not_running hrun]; exact h
    case h_6 =>
      have listened : Touches [.phase, .listenDue] n
          { n with phase := .configured .operating, listenDue := none } := fun p hp => by
        cases p <;> first | rfl | exact absurd (by decide) hp
      exact h.of_touches (.ite (fun _ => listened) (fun _ => .refl _ _))
    case h_9 =>
      split
      · exact h.of_touches (sample_parts_of_unsupervised (.inl hrole) _)
      · exact h
    case h_10 | h_11 =>
      exact h.of_touches (onLatest_parts fun _ =>
        .ite (fun _ => (judgeLoss_touches _ _ n).mono (by decide)) (fun _ => .refl _ _))
    case h_12 =>
      exact h.of_touches (onLatest_parts fun _ =>
        .ite (fun _ => (judgeDisagree_touches _ n).mono (by decide)) (fun _ => .refl _ _))
    case h_13 =>
      exact h.of_touches (onLatest_parts fun _ =>
        .ite (fun _ => (judgeAgree_touches _ n).mono (by decide)) (fun _ => .refl _ _))
    case h_14 =>
      exact h.of_touches (onLatest_parts fun _ => (judgeStandstill_touches _ n).mono (by decide))
    case h_15 =>
      exact h.of_touches (onLatest_parts fun _ => (judgeSlip_touches _ n).mono (by decide))
    case h_19 => exact h.bitError _
    case h_20 => exact h.sent
    case h_24 =>
      split
      · exact h.takeOne.redecide
      · exact h
    case h_26 =>
      split
      · exact h.goStale _
      · exact h
    case h_27 =>
      split
      · exact h.goLost _
      · exact h
    case h_28 =>
      split
      · exact h.of_touches (.ite (fun _ => judgeProof_touches _ n) (fun _ => .refl _ _))
      · exact h
    case h_30 =>
      split
      · exact h.debounce hrole _
      · exact h
    case h_35 => exact h.of_touches (.ite (fun _ => repeatExpiry_touches n) (fun _ => .refl _ _))
    case h_36 =>
      exact h.of_touches (.ite (fun _ => (judgeHold_touches n).trans (lockClosing_touches _))
        (fun _ => .refl _ _))
    case h_37 =>
      split
      · exact h.discardExpiry
      · exact h
    case h_38 | h_40 =>
      rw [readsReader_of_not_gate (by rw [hrole]; decide)]
      exact h
    case h_41 => exact h.of_touches (.ite (fun _ => holdTimeout_touches n) (fun _ => .refl _ _))
    case h_42 => exact h.of_touches (.ite (fun _ => passageTimeout_touches n) (fun _ => .refl _ _))
    case h_46 | h_47 | h_48 | h_49 | h_50 | h_51 | h_52 | h_53 =>
      exact h.of_touches (command_touches _ n)
    case h_1 | h_2 | h_3 | h_4 => exact Bool.noConfusion hc
    all_goals exact Bool.noConfusion hm

end Sys2Proof.Machine
end


section
/-! # Which commands make a unit run (O6) -/

namespace Sys2Proof.Machine

open Sys2Proof

/-- A running unit runs on, in its role. -/
structure RunsOn (s t : State) : Prop where
  running : t.running = s.running
  cfg : t.cfg = s.cfg

namespace RunsOn

variable {s t u : State} {X : List Part}

theorem of_touches (h : Touches X s t) (hX : ∀ p ∈ [Part.phase, .cfg], p ∉ X := by decide) :
    RunsOn s t := ⟨h.running_eq (hX _ (by decide)), h.cfg_eq (hX _ (by decide))⟩

theorem refl (s : State) : RunsOn s s := ⟨rfl, rfl⟩

theorem role_eq (h : RunsOn s t) : t.role = s.role := by
  unfold State.role State.conf
  rw [h.cfg]

end RunsOn

/-- Every command leaves a running unit running, in its role. -/
theorem effect_runsOn {c : Instr} {n : State} (hc : isResetCommand c = false)
    (hrun : n.running = true) : RunsOn n (effect c n) := by
  cases hm : movesKeys c with
  | false => exact .of_touches (effect_quiet hc hm n)
  | true =>
    have cond {b : Bool} {X : List Part} {x : State} (h : Touches X n x)
        (hX : ∀ p ∈ [Part.phase, .cfg], p ∉ X := by decide) : RunsOn n (if b then x else n) :=
      .of_touches (.ite (fun _ => h) (fun _ => .refl _ _)) hX
    have latest {f : Nat → State → State} (h : ∀ t, Touches latestParts n (f t n)) :
        RunsOn n (n.onLatestSample f) := .of_touches (onLatest_parts h)
    unfold effect
    split
    case h_5 => rw [starting_of_not_running hrun]; exact .refl n
    case h_6 =>
      split
      · exact ⟨by rw [hrun]; rfl, rfl⟩
      · exact .refl n
    case h_9 => exact cond (sample_touches _ n)
    case h_10 | h_11 =>
      exact latest fun _ => .ite (fun _ => (judgeLoss_touches _ _ n).mono (by decide))
        (fun _ => .refl _ _)
    case h_12 =>
      exact latest fun _ => .ite (fun _ => (judgeDisagree_touches _ n).mono (by decide))
        (fun _ => .refl _ _)
    case h_13 =>
      exact latest fun _ => .ite (fun _ => (judgeAgree_touches _ n).mono (by decide))
        (fun _ => .refl _ _)
    case h_14 => exact latest fun _ => (judgeStandstill_touches _ n).mono (by decide)
    case h_15 => exact latest fun _ => (judgeSlip_touches _ n).mono (by decide)
    case h_19 field =>
      rcases bitError_cases field n with ht | ⟨x, hx, he⟩
      · exact .of_touches ht
      · have cfg : x.enterConflict.cfg = n.cfg := (hx.comp (enterConflict_touches x)).cfg_eq
        rw [he]
        exact ⟨(enterConflict_running x).trans hrun.symm, cfg⟩
    case h_20 => exact .of_touches (sent_touches n)
    case h_24 => exact cond ((takeOne_touches n).comp (redecide_touches _))
    case h_26 => exact cond (goStale_touches _ n)
    case h_27 => exact cond (goLost_touches _ n)
    case h_28 =>
      split
      · exact cond (judgeProof_touches _ n)
      · exact .refl n
    case h_30 => exact cond (debounce_touches _ n)
    case h_35 => exact cond (repeatExpiry_touches n)
    case h_36 => exact cond ((judgeHold_touches n).trans (lockClosing_touches _))
    case h_37 => exact cond (discardExpiry_touches n)
    case h_38 => exact cond (readerChars_touches _ n)
    case h_40 => exact cond (readerChar_touches _ n)
    case h_41 => exact cond (holdTimeout_touches n)
    case h_42 => exact cond (passageTimeout_touches n)
    case h_46 | h_47 | h_48 | h_49 | h_50 | h_51 | h_52 | h_53 =>
      exact .of_touches (command_touches _ n)
    case h_1 | h_2 | h_3 | h_4 => exact Bool.noConfusion hc
    all_goals exact Bool.noConfusion hm

/-- A unit that runs after a command ran before it, or has taken its image, or has met an address conflict. -/
theorem effect_running_cases {c : Instr} {n : State} (hc : isResetCommand c = false)
    (ht : (effect c n).running = true) :
    n.running = true ∧ (effect c n).role = n.role ∨
      n.running = false ∧ ((∃ i reading, effect c n = n.configRead i reading) ∨
        ∃ field, effect c n = n.bitError field) := by
  cases hrun : n.running with
  | true => exact .inl ⟨rfl, (effect_runsOn hc hrun).role_eq⟩
  | false =>
    have same {X : List Part} (h : Touches X n (effect c n))
        (hX : Part.phase ∉ X := by decide) : False := by
      rw [h.running_eq hX, hrun] at ht
      cases ht
    refine .inr ⟨rfl, ?_⟩
    cases hm : movesKeys c with
    | false => exact (same (effect_quiet hc hm n)).elim
    | true =>
      rcases effect_moves_of_not_running hrun hm with he | hread | herr | he | ⟨k, he⟩
      · rw [he, hrun] at ht
        cases ht
      · exact .inl hread
      · exact .inr herr
      · exact (same (by rw [he]; exact sent_touches n)).elim
      · exact (same (by rw [he]; exact command_touches k n)).elim

/-- What entering LISTENING touches at a unit that does not supervise. -/
def listenParts : List Part :=
  [.phase, .listenDue, .debounceDue, .hold, .analogIn, .sampleDue, .queue, .periods] ++ measParts ++
    raiseParts

theorem enterListening_parts {s : State} (h : s.role = .berth ∨ s.role = .gate)
    (reading : BitVec 16) : Touches listenParts s (s.enterListening reading) := by
  have entered : Touches [.phase, .listenDue] s { s with
      phase := .configured .listening, listenDue := some (s.after 500) } := fun p hp => by
    cases p <;> first | rfl | exact absurd (by decide) hp
  have started := ((entered.comp (raise_touches .start 2 _)).comp (queueAllStates_touches _)).comp
    (startDebounce_touches _)
  exact (started.comp (sample_parts_of_unsupervised (by rw [started.role_eq]; exact h) reading)).mono
    (by decide)

/-- What taking an image touches at a unit that does not supervise by it. -/
theorem configRead_parts {s : State} {i : Image} {reading : BitVec 16}
    (hrun : (s.configRead i reading).running = true)
    (hrole : (s.configRead i reading).role = .berth ∨ (s.configRead i reading).role = .gate) :
    Touches ([.cfg, .profile, .channels, .reference] ++ listenParts) s (s.configRead i reading) := by
  have fault (f : CheckFailure) : (s.enterConfigFault f).running = false :=
    (raise_touches_of_not_running (s := { s with
      phase := .configured .configFault, failure := some f }) rfl .start 2).running_eq
  unfold State.configRead at hrun hrole ⊢
  split
  · next id hc hi =>
    rw [hc, hi] at hrole
    have taken := takeConfig_touches (imageConfig i id) s
    refine taken.comp (enterListening_parts ?_ reading)
    have role : ((s.takeConfig (imageConfig i id)).enterListening reading).role =
        (s.takeConfig (imageConfig i id)).role := by
      have entered : Touches [.phase, .listenDue] (s.takeConfig (imageConfig i id)) {
          s.takeConfig (imageConfig i id) with
          phase := .configured .listening
          listenDue := some ((s.takeConfig (imageConfig i id)).after 500) } := fun p hp => by
        cases p <;> first | rfl | exact absurd (by decide) hp
      exact ((((entered.comp (raise_touches .start 2 _)).comp (queueAllStates_touches _)).comp
        (startDebounce_touches _)).comp (sample_touches reading _)).role_eq
    rw [← role]
    exact hrole
  · next f hc =>
    rw [hc] at hrun
    exact absurd (hrun.symm.trans (fault _)) (by decide)
  · next hc hi =>
    rw [hc, hi] at hrun
    exact absurd (hrun.symm.trans (fault _)) (by decide)

/-! ## The grant law -/

/-- Every command but a reset keeps the grant law (R142, R149). -/
theorem effect_grantLaw {c : Instr} {n : State} (hc : isResetCommand c = false) (h : GrantLaw n) :
    GrantLaw (effect c n) := by
  obtain ⟨rest, holds⟩ := h
  refine ⟨fun ht => ?_, fun ht hrole => ?_⟩
  · cases hrun : n.running with
    | true => exact absurd ((effect_runsOn hc hrun).running.symm.trans ht) (by rw [hrun]; decide)
    | false => exact (congrArg GrantTable.state (effect_restsAs hc hrun ht).grant).trans (rest hrun)
  · show GrantHolds (effect c n)
    rcases effect_running_cases hc ht with ⟨hrun, hsame⟩ | ⟨hrun, ⟨i, reading, he⟩ | ⟨field, he⟩⟩
    · have berth := hsame.symm.trans hrole
      exact effect_grantHolds hc hrun berth (holds hrun berth)
    · have before : GrantHolds n := .of_ungranted (by rw [rest hrun]; decide)
      rw [he] at ht hrole ⊢
      exact before.of_touches (configRead_parts ht (.inl hrole))
    · have before : GrantHolds n := .of_ungranted (by rw [rest hrun]; decide)
      rw [he]
      exact before.bitError field

end Sys2Proof.Machine
end


section
/-! # The places of a GATE lie within its allowance (O6, R163 to R166) -/

namespace Sys2Proof.Machine

open Sys2Proof

/-- The pending places are those of the ticket that awaits its passage, and with the unannounced ones they
lie within the allowance. -/
structure PlacesLaw (s : State) : Prop where
  pending : s.gate.cycle.pending = s.awaitedPlaces
  within : s.gate.cycle.unannouncedPlaces + s.gate.cycle.pending ≤ s.allowance

theorem unannouncedPlaces_eq (c : BoardingCycle) :
    c.unannouncedPlaces = (c.unannounced.map (·.places)).sum := by
  unfold BoardingCycle.unannouncedPlaces
  rw [List.sum_eq_foldl, List.foldl_map]

theorem PlacesFall.unannouncedPlaces_le {s t : State} (h : PlacesFall s t) :
    t.gate.cycle.unannouncedPlaces ≤ s.gate.cycle.unannouncedPlaces := by
  rw [unannouncedPlaces_eq, unannouncedPlaces_eq]
  exact (h.unannounced.map _).sum_le_sum (fun _ _ => Nat.zero_le _)

theorem allowance_congr {s t : State} (h : t.conf = s.conf) : t.allowance = s.allowance := by
  unfold State.allowance State.gateBerth
  rw [h]

theorem awaitedPlaces_congr {s t : State} (h : t.gate.ticket = s.gate.ticket) :
    t.awaitedPlaces = s.awaitedPlaces := by
  unfold State.awaitedPlaces
  rw [h]

namespace PlacesLaw

variable {s t : State} {X : List Part}

theorem fall (h : PlacesLaw s) (hp : PlacesFall s t) (ht : t.gate.ticket = s.gate.ticket)
    (hc : t.conf = s.conf) : PlacesLaw t where
  pending := by rw [hp.pending, h.pending, awaitedPlaces_congr ht]
  within := by
    rw [hp.pending, allowance_congr hc]
    exact (Nat.add_le_add_right hp.unannouncedPlaces_le _).trans h.within

theorem of_touches (h : PlacesLaw s) (ht : Touches X s t)
    (hX : ∀ p ∈ [Part.ticket, .places, .cfg], p ∉ X := by decide) : PlacesLaw t :=
  h.fall (.of_touches ht (hX _ (by decide))) (ht.ticket_eq (hX _ (by decide)))
    (ht.conf_eq (hX _ (by decide)))

theorem frame (h : PlacesLaw s) (ht : FrameAtGate s t) : PlacesLaw t :=
  h.fall ht.places ht.touches.ticket_eq ht.touches.conf_eq

/-- Without places awaited none are pending. -/
theorem pending_zero (h : PlacesLaw s) (hw : s.awaitedPlaces = 0) : s.gate.cycle.pending = 0 :=
  h.pending.trans hw

/-- A ticket that leaves without having been admitted leaves the places as they are. -/
theorem setTicket (h : PlacesLaw s) (hw : s.awaitedPlaces = 0) {x : TicketState}
    (hx : (s.setTicket x).awaitedPlaces = 0) : PlacesLaw (s.setTicket x) where
  pending := (h.pending_zero hw).trans hx.symm
  within := h.within

theorem settleTicket (h : PlacesLaw s) (hw : s.awaitedPlaces = 0) (r : Reply) :
    PlacesLaw (s.settleTicket r) := (h.setTicket (x := .none) hw rfl).of_touches (reply_touches r _)

/-- A ticket is admitted only where its places fit the allowance beside those counted (R163, R165). -/
theorem admitTicket (h : PlacesLaw s) (hw : s.awaitedPlaces = 0) {x : Ticket}
    (hfit : s.mustHold x = false) : PlacesLaw (s.admitTicket x) := by
  have fits : s.gate.cycle.unannouncedPlaces + s.gate.cycle.pending + x.places ≤ s.allowance := by
    unfold State.mustHold at hfit
    rw [Bool.or_eq_false_iff] at hfit
    exact Nat.not_lt.mp (of_decide_eq_false hfit.1)
  have zero := h.pending_zero hw
  have awaiting : PlacesLaw (((s.setCycle (fun c => { c with pending := c.pending + x.places })).passback
      x.id .ownTentative).setTicket (.awaitingPassage x (s.after (1000 * s.k .passageTime)))) := by
    refine ⟨?_, ?_⟩
    · show s.gate.cycle.pending + x.places = x.places
      omega
    · show s.gate.cycle.unannouncedPlaces + (s.gate.cycle.pending + x.places) ≤ s.allowance
      omega
  exact (awaiting.of_touches (reply_touches .accept _)).of_touches (bump_touches .admissions _)

theorem decideTicket (h : PlacesLaw s) (hw : s.awaitedPlaces = 0) (x : Ticket) (due : Nat) :
    PlacesLaw (s.decideTicket x due) := by
  unfold State.decideTicket
  split
  · exact h.settleTicket hw _
  · split
    · exact h.setTicket hw rfl
    · next hm =>
      split
      · exact h.admitTicket hw (Bool.not_eq_true _ |>.mp hm)
      · exact h.settleTicket hw _

theorem decideAgain (h : PlacesLaw s) : PlacesLaw s.decideAgain := by
  unfold State.decideAgain
  split
  · next x due hs => exact h.decideTicket (by unfold State.awaitedPlaces; rw [hs]) x due
  · exact h

theorem redecide (h : PlacesLaw s) : PlacesLaw s.redecide := by
  unfold State.redecide
  split
  · next hrole =>
    split
    · exact (h.frame (takeFrames_atGate _ (by simpa using hrole))).decideAgain
    · exact h
  · exact h

theorem present (h : PlacesLaw s) (hrole : s.role = .gate) (x : Ticket) : PlacesLaw (s.present x) := by
  unfold State.present
  split
  · next hs =>
    have taken := takeFrames_atGate s.bus.rx.length hrole
    refine (h.frame taken).decideTicket ?_ x _
    unfold State.awaitedPlaces
    rw [taken.touches.ticket_eq, hs]
  · exact h.of_touches (reply_touches _ s)

theorem readerChar (h : PlacesLaw s) (hrole : s.role = .gate) (c : ReaderChar) :
    PlacesLaw (s.readerChar c) := by
  have outside (x : State) (hx : PlacesLaw x) : PlacesLaw (x.outsideChar c) := by
    unfold State.outsideChar
    split
    · exact hx.of_touches (setAssembling_touches _ x)
    · exact hx.of_touches (bump_touches _ x)
  unfold State.readerChar
  split
  · exact outside s h
  · split
    · exact outside _ (h.of_touches (breakFraming_parts s))
    · unfold State.joinChar
      dsimp only
      split
      · exact h.of_touches (setAssembling_touches _ s)
      · have emptied := setAssembling_touches [] s
        have cleared := h.of_touches emptied
        unfold State.deliverRecord
        split
        · exact cleared.present (emptied.role_eq.trans hrole) _
        · exact cleared.of_touches (replyFormat_touches _)

theorem readerChars (h : PlacesLaw s) (hrole : s.role = .gate) (l : List ReaderChar) :
    PlacesLaw (l.foldl (fun t c => t.readerChar c) s) := by
  induction l generalizing s with
  | nil => exact h
  | cons c l ih => exact ih (h.readerChar hrole c) ((readerChar_touches c s).role_eq.trans hrole)

/-- A passage turns pending places into as many unannounced ones (R166). -/
theorem passage (h : PlacesLaw s) : PlacesLaw s.passage := by
  unfold State.passage
  split
  · next x due hs =>
    have awaited : s.gate.cycle.pending = x.places := by
      rw [h.pending, State.awaitedPlaces, hs]
    have within := h.within
    refine ⟨?_, ?_⟩
    · show s.gate.cycle.pending - x.places = 0
      omega
    · show BoardingCycle.unannouncedPlaces { s.gate.cycle with
          pending := s.gate.cycle.pending - x.places
          unannounced := s.gate.cycle.unannounced ++ [_] } + (s.gate.cycle.pending - x.places) ≤
        s.allowance
      rw [unannouncedPlaces_eq] at within ⊢
      rw [List.map_append, List.sum_append, List.map_singleton, List.sum_singleton]
      dsimp only
      omega
  · exact h.of_touches (bump_touches _ s)

theorem passageTimeout (h : PlacesLaw s) : PlacesLaw s.passageTimeout := by
  unfold State.passageTimeout
  split
  · next x due hs =>
    have awaited : s.gate.cycle.pending = x.places := by
      rw [h.pending, State.awaitedPlaces, hs]
    have gone : PlacesLaw (((s.setCycle (fun c => { c with pending := c.pending - x.places })).setGate
        (fun g => { g with passback := g.passback.filter (fun e =>
          !(e.ticket == x.id && e.source == .ownTentative)) })).setTicket .none) := by
      refine ⟨?_, (Nat.add_le_add_left (Nat.sub_le _ _) _).trans h.within⟩
      show s.gate.cycle.pending - x.places = 0
      omega
    exact (gone.of_touches (reply_touches _ _)).of_touches (bump_touches _ _)
  · exact h

theorem holdTimeout (h : PlacesLaw s) : PlacesLaw s.holdTimeout := by
  unfold State.holdTimeout
  split
  · next hs => exact h.settleTicket (by unfold State.awaitedPlaces; rw [hs]) _
  · exact h

theorem goStale (h : PlacesLaw s) (hrole : s.role = .gate) (addr : Nat) :
    PlacesLaw (s.goStale addr) := by
  unfold State.goStale
  rw [noticeChanges_of_gate ((setEntry_touches _ _ s).role_eq.trans hrole)]
  exact h.of_touches (setEntry_touches _ _ s)

theorem goLost (h : PlacesLaw s) (hrole : s.role = .gate) (addr : Nat) : PlacesLaw (s.goLost addr) := by
  have lost := ((setEntry_touches addr ({ · with freshness := .lost }) s).trans
    (endConflicts_touches _)).comp (countEntered_touches s.peers _)
  have cleared := lost.comp (clearHeld_touches _)
  unfold State.goLost
  dsimp only
  split
  · split
    · rw [noticeChanges_of_gate ((cleared.comp (emptyNotice_touches _)).role_eq.trans hrole)]
      exact h.of_touches (cleared.comp (emptyNotice_touches _))
    · rw [noticeChanges_of_gate (cleared.role_eq.trans hrole)]
      exact h.of_touches cleared
  · rw [noticeChanges_of_gate (lost.role_eq.trans hrole)]
    exact h.of_touches lost

theorem sent (h : PlacesLaw s) (hrole : s.role = .gate) : PlacesLaw s.sent := by
  have counted := (bump_touches .framesSent s).comp (setConflictRun_touches 0 _)
  have told (x : State) (hx : PlacesLaw x) (p : Payload) (hr : x.role = .gate) :
      PlacesLaw (x.tellSent p) := by
    unfold State.tellSent
    split
    · split
      · next a _ =>
        have reported := reportSent_touches a x
        exact (hx.fall (reportSent_places a x) reported.ticket_eq reported.conf_eq).redecide
      · exact hx
    · rw [hr]
      exact hx
    · exact hx
  unfold State.sent
  split
  · dsimp only
    split
    · have ended := (counted.comp (removeOnBus_touches _)).comp (endAttempt_touches _)
      exact told _ (h.of_touches ended) _ (ended.role_eq.trans hrole)
    · exact h.of_touches (counted.comp (endAttempt_touches _))
  · exact h

theorem bitError (h : PlacesLaw s) (field : BitField) : PlacesLaw (s.bitError field) := by
  rcases bitError_cases field s with ht | ⟨x, hx, he⟩
  · exact h.of_touches ht
  · rw [he]
    unfold State.enterConflict
    exact ((h.of_touches hx).of_touches (((setPhase_touches _ x).comp (raise_touches _ _ _)).comp
      (removeControls_touches _))).redecide

theorem debounce (h : PlacesLaw s) (hrole : s.role = .gate) (i : Nat) : PlacesLaw (s.debounce i) := by
  have set := h.of_touches (t := s.setTerm (fun t => { t with
    debounced := t.debounced.set i (s.rawActive i), debounceDue := t.debounceDue.set i none }))
    (X := [.debounced, .debounceDue]) (fun p hp => by
      cases p <;> first | rfl | exact absurd (by decide) hp)
  unfold State.debounce State.inputChanged
  dsimp only
  rw [show (s.setTerm _).role = .gate from hrole]
  split
  case h_16 =>
    split
    · exact set.passage
    · exact set
  case h_17 => exact set
  all_goals contradiction

end PlacesLaw

end Sys2Proof.Machine
end


section
/-! # Every command keeps the places of a GATE within its allowance (O6, R163 to R166, R173) -/

namespace Sys2Proof.Machine

open Sys2Proof

/-- Every command of a running GATE keeps its places within the allowance. -/
theorem effect_placesLaw {c : Instr} {n : State} (hc : isResetCommand c = false)
    (hrun : n.running = true) (hrole : n.role = .gate) (h : PlacesLaw n) : PlacesLaw (effect c n) := by
  cases hm : movesKeys c with
  | false => exact h.of_touches (effect_quiet hc hm n)
  | true =>
    unfold effect
    split
    case h_5 => rw [starting_of_not_running hrun]; exact h
    case h_6 =>
      have listened : Touches [.phase, .listenDue] n
          { n with phase := .configured .operating, listenDue := none } := fun p hp => by
        cases p <;> first | rfl | exact absurd (by decide) hp
      exact h.of_touches (.ite (fun _ => listened) (fun _ => .refl _ _))
    case h_9 =>
      split
      · exact h.of_touches (sample_parts_of_unsupervised (.inr hrole) _)
      · exact h
    case h_10 | h_11 =>
      exact h.of_touches (onLatest_parts fun _ =>
        .ite (fun _ => (judgeLoss_touches _ _ n).mono (by decide)) (fun _ => .refl _ _))
    case h_12 =>
      exact h.of_touches (onLatest_parts fun _ =>
        .ite (fun _ => (judgeDisagree_touches _ n).mono (by decide)) (fun _ => .refl _ _))
    case h_13 =>
      exact h.of_touches (onLatest_parts fun _ =>
        .ite (fun _ => (judgeAgree_touches _ n).mono (by decide)) (fun _ => .refl _ _))
    case h_14 =>
      exact h.of_touches (onLatest_parts fun _ => (judgeStandstill_touches _ n).mono (by decide))
    case h_15 =>
      exact h.of_touches (onLatest_parts fun _ => (judgeSlip_touches _ n).mono (by decide))
    case h_19 => exact h.bitError _
    case h_20 => exact h.sent hrole
    case h_24 =>
      split
      · exact (h.frame (takeOne_atGate hrole)).redecide
      · exact h
    case h_26 =>
      split
      · exact h.goStale hrole _
      · exact h
    case h_27 =>
      split
      · exact h.goLost hrole _
      · exact h
    case h_28 =>
      split
      · exact h.of_touches (.ite (fun _ => judgeProof_touches _ n) (fun _ => .refl _ _))
      · exact h
    case h_30 =>
      split
      · exact h.debounce hrole _
      · exact h
    case h_35 => exact h.of_touches (.ite (fun _ => repeatExpiry_touches n) (fun _ => .refl _ _))
    case h_36 =>
      exact h.of_touches (.ite (fun _ => (judgeHold_touches n).trans (lockClosing_touches _))
        (fun _ => .refl _ _))
    case h_37 => exact h.of_touches (.ite (fun _ => discardExpiry_touches n) (fun _ => .refl _ _))
    case h_38 =>
      split
      · exact h.readerChars hrole _
      · exact h
    case h_40 =>
      split
      · exact h.readerChar hrole _
      · exact h
    case h_41 =>
      split
      · exact h.holdTimeout
      · exact h
    case h_42 =>
      split
      · exact h.passageTimeout
      · exact h
    case h_46 | h_47 | h_48 | h_49 | h_50 | h_51 | h_52 | h_53 =>
      exact h.of_touches (command_touches _ n)
    case h_1 | h_2 | h_3 | h_4 => exact Bool.noConfusion hc
    all_goals exact Bool.noConfusion hm

/-- Without a ticket and without places the law holds whatever the allowance is. -/
theorem PlacesLaw.of_rest {s : State} (ht : s.gate.ticket = .none) (hp : s.gate.cycle.pending = 0)
    (hu : s.gate.cycle.unannounced = []) : PlacesLaw s where
  pending := by rw [hp, State.awaitedPlaces, ht]
  within := by
    rw [hp, unannouncedPlaces_eq, hu]
    exact Nat.zero_le _

/-- Every command but a reset keeps the gate law (R163, R165, R166, R173). -/
theorem effect_gateLaw {c : Instr} {n : State} (hc : isResetCommand c = false) (h : GateLaw n) :
    GateLaw (effect c n) := by
  obtain ⟨rest, holds⟩ := h
  refine ⟨fun ht => ?_, fun ht hrole => ?_⟩
  · cases hrun : n.running with
    | true => exact absurd ((effect_runsOn hc hrun).running.symm.trans ht) (by rw [hrun]; decide)
    | false =>
      obtain ⟨noTicket, noPending, noPlaces⟩ := rest hrun
      have as := effect_restsAs hc hrun ht
      have fall := as.places noTicket
      exact ⟨as.ticket noTicket, fall.pending.trans noPending,
        List.sublist_nil.mp (noPlaces ▸ fall.unannounced)⟩
  · suffices PlacesLaw (effect c n) from ⟨this.pending, this.within⟩
    rcases effect_running_cases hc ht with ⟨hrun, hsame⟩ | ⟨hrun, ⟨i, reading, he⟩ | ⟨field, he⟩⟩
    · have gate := hsame.symm.trans hrole
      obtain ⟨pending, within⟩ := holds hrun gate
      exact effect_placesLaw hc hrun gate ⟨pending, within⟩
    · obtain ⟨noTicket, noPending, noPlaces⟩ := rest hrun
      rw [he] at ht hrole ⊢
      have read := configRead_parts ht (.inr hrole)
      exact .of_rest (read.ticket_eq.trans noTicket) (read.pending_eq.trans noPending)
        (read.unannounced_eq.trans noPlaces)
    · obtain ⟨noTicket, noPending, noPlaces⟩ := rest hrun
      rw [he]
      exact (PlacesLaw.of_rest noTicket noPending noPlaces).bitError field

end Sys2Proof.Machine
end


section
/-! # What holds of the sides of a running CAR (O6, R139 to R152)

`DoorKept` is the running half of the door law, said side by side. Two of its clauses can be open for a while:
with `moved` the standstill may have ended and not yet been judged (R146, R152), and a stop berth among the
identities `owed` may have changed without its notice having been given (R73). -/

namespace Sys2Proof.Machine

open Sys2Proof

structure DoorKept (moved : Bool) (owed : List Identity) (s : State) : Prop where
  running : s.running = true
  car : s.role = .car
  still : moved = false → ∀ d, s.releaseAsked d = true → s.meas.standstill = true
  braked : ∀ d, (s.side d).state = .evacuation → 2 ≤ s.brake.effective
  shown : ∀ d, (s.side d).state = .released → (s.side d).confirmed = true →
    s.heldGrantShown = true ∨ ∃ b, s.door.stopBerth = some b ∧ .berth b ∈ owed
  alone : ∀ d d', (s.side d).state = .released → (s.side d').state ≠ .requesting
  flagged : ∀ d d', (s.side d).withdrawAtLock = true →
    (s.side d').state ≠ .released ∧ (s.side d').state ≠ .requesting

/-- A side has at most left a release, an evacuation or a request, or lost its flag. -/
structure Leaves (c c' : DoorSideContext) : Prop where
  released : c'.state = .released → c.state = .released ∧ c'.confirmed = c.confirmed
  evacuation : c'.state = .evacuation → c.state = .evacuation
  requesting : c'.state = .requesting → c.state = .requesting
  flag : c'.withdrawAtLock = true → c.withdrawAtLock = true

/-- The states in which a side is at rest or closes. -/
def isIdle : ReleaseState → Bool
  | .released | .evacuation | .requesting => false
  | _ => true

namespace Leaves

variable {c c' : DoorSideContext}

theorem refl (c : DoorSideContext) : Leaves c c := ⟨fun h => ⟨h, rfl⟩, id, id, id⟩

theorem of_idle (h : isIdle c'.state = true) (hf : c'.withdrawAtLock = true → c.withdrawAtLock = true) :
    Leaves c c' where
  released hs := by rw [hs] at h; exact Bool.noConfusion h
  evacuation hs := by rw [hs] at h; exact Bool.noConfusion h
  requesting hs := by rw [hs] at h; exact Bool.noConfusion h
  flag := hf

theorem ite {b : Bool} {x : DoorSideContext} (h : b = true → Leaves c x) :
    Leaves c (if b then x else c) := by
  split
  · exact h ‹_›
  · exact refl c

end Leaves

/-! ## Reading the sides -/

theorem side_eq_of_touches {X : List Part} {s t : State} (h : Touches X s t)
    (hX : Part.sides ∉ X := by decide) (d : Side) : t.side d = s.side d := by
  cases d with
  | left => exact h.left_eq hX
  | right => exact h.right_eq hX

theorem side_mapSides (f : Side → DoorSideContext → DoorSideContext) (s : State) (d : Side) :
    (s.mapSides f).side d = f d (s.side d) := by
  cases d <;> rfl

theorem anySide_iff (s : State) (x : ReleaseState) :
    s.anySide x = true ↔ ∃ d, (s.side d).state = x := by
  unfold State.anySide
  rw [Bool.or_eq_true, beq_iff_eq, beq_iff_eq]
  constructor
  · rintro (h | h)
    · exact ⟨.left, h⟩
    · exact ⟨.right, h⟩
  · rintro ⟨_ | _, h⟩
    · exact .inl h
    · exact .inr h

theorem anySide_eq_false_iff (s : State) (x : ReleaseState) :
    s.anySide x = false ↔ ∀ d, (s.side d).state ≠ x := by
  rw [← Bool.not_eq_true, anySide_iff]
  exact not_exists

theorem fresh_congr {s t : State} (h : t.peers = s.peers) (id : Identity) : t.fresh id = s.fresh id := by
  unfold State.fresh
  rw [h]

theorem heldGrantShown_congr {s t : State} (hc : t.conf = s.conf)
    (hb : t.door.stopBerth = s.door.stopBerth) (hg : t.door.grantId = s.door.grantId)
    (hp : ∀ b, s.door.stopBerth = some b → t.berthSummary b = s.berthSummary b) :
    t.heldGrantShown = s.heldGrantShown := by
  unfold State.heldGrantShown State.grantShown
  rw [hb, hg, hc]
  split
  · next b g hs _ => rw [hp b hs]
  · rfl

theorem berthSummary_congr {s t : State} (h : t.peers = s.peers) (b : Nat) :
    t.berthSummary b = s.berthSummary b := by
  unfold State.berthSummary
  rw [fresh_congr h]

theorem releaseAsked_iff (s : State) (d : Side) : s.releaseAsked d = true ↔
    (s.side d).state = .released ∧ (s.side d).confirmed = true ∨
      (s.side d).state = .evacuation := by
  refine ⟨releaseAsked_cases, ?_⟩
  unfold State.releaseAsked
  rintro (⟨hs, hc⟩ | hs)
  · rw [hs]
    exact hc
  · rw [hs]

theorem of_ite_some {α : Type} {p : Prop} [Decidable p] {a : α} {x : Option α}
    (h : (if p then some a else x) = none) : ¬p ∧ x = none := by
  split at h
  · cases h
  · exact ⟨‹_›, h⟩

/-- The RELEASED sides become confirmed (R145). -/
def State.confirmSides (s : State) : State :=
  (s.mapSides (fun _ c => if c.state == .released then { c with confirmed := true } else c)).setDoor
    ({ · with confirmDue := none })

theorem confirmSides_touches (s : State) : Touches [.sides, .door] s s.confirmSides :=
  ((mapSides_touches _ s).comp (setDoor_touches _ _)).mono (by decide)

theorem confirmSides_side (s : State) (d : Side) : s.confirmSides.side d =
    if (s.side d).state == .released then { s.side d with confirmed := true } else s.side d := by
  cases d <;> rfl

theorem dropRelease_side (s : State) (d : Side) : s.dropRelease.side d =
    if (s.side d).state == .released then { s.side d with state := .closing } else s.side d := by
  cases d <;> rfl

theorem dropRelease_unreleased (s : State) (d : Side) : (s.dropRelease.side d).state ≠ .released := by
  rw [dropRelease_side]
  split
  · nofun
  · next hs => exact fun h => hs (beq_iff_eq.mpr h)

namespace DoorKept

variable {moved : Bool} {owed : List Identity} {s t : State} {X : List Part}

/-- What an operation that only leaves sides keeps. The held grant matters only beside a RELEASED side. -/
theorem of_leaves (h : DoorKept moved owed s) (ht : Touches X s t)
    (hl : ∀ d, Leaves (s.side d) (t.side d))
    (hh : ∀ d, (t.side d).state = .released →
      t.door.stopBerth = s.door.stopBerth ∧ t.door.grantId = s.door.grantId)
    (hX : ∀ p ∈ [Part.phase, .cfg, .standstill, .effective, .peers], p ∉ X := by decide) :
    DoorKept moved owed t where
  running := (ht.running_eq (hX _ (by decide))).trans h.running
  car := (ht.role_eq (hX _ (by decide))).trans h.car
  still hm d ha := by
    rw [ht.standstill_eq (hX _ (by decide))]
    refine h.still hm d ((releaseAsked_iff s d).mpr ?_)
    rcases (releaseAsked_iff t d).mp ha with ⟨hs, hc⟩ | hs
    · obtain ⟨was, confirmed⟩ := (hl d).released hs
      exact .inl ⟨was, confirmed ▸ hc⟩
    · exact .inr ((hl d).evacuation hs)
  braked d hs := by
    rw [ht.effective_eq (hX _ (by decide))]
    exact h.braked d ((hl d).evacuation hs)
  shown d hs hc := by
    obtain ⟨was, confirmed⟩ := (hl d).released hs
    obtain ⟨berth, grant⟩ := hh d hs
    rw [heldGrantShown_congr (ht.conf_eq (hX _ (by decide))) berth grant
      (fun b _ => berthSummary_congr (ht.peers_eq (hX _ (by decide))) b), berth]
    exact h.shown d was (confirmed ▸ hc)
  alone d d' hs hr := h.alone d d' ((hl d).released hs).1 ((hl d').requesting hr)
  flagged d d' hf := by
    obtain ⟨released, requesting⟩ := h.flagged d d' ((hl d).flag hf)
    exact ⟨fun hs => released ((hl d').released hs).1, fun hs => requesting ((hl d').requesting hs)⟩

theorem of_touches (h : DoorKept moved owed s) (ht : Touches X s t)
    (hX : ∀ p ∈ [Part.sides, .phase, .cfg, .standstill, .effective, .peers], p ∉ X := by decide) :
    DoorKept moved owed t :=
  h.of_leaves ht (fun d => side_eq_of_touches ht (hX _ (by decide)) d ▸ .refl _)
    (fun _ _ => ⟨ht.stopBerth_eq (hX _ (by decide)), ht.grantId_eq (hX _ (by decide))⟩)
    (fun p hp => hX p (List.mem_cons_of_mem _ hp))

/-- A measurement may end the standstill (R22). -/
theorem measured (h : DoorKept moved owed s) (ht : Touches X s t)
    (hX : ∀ p ∈ [Part.sides, .phase, .cfg, .effective, .peers], p ∉ X := by decide) :
    DoorKept true owed t := by
  have side := side_eq_of_touches ht (hX _ (by decide))
  have berth := ht.stopBerth_eq (hX _ (by decide))
  have held := heldGrantShown_congr (ht.conf_eq (hX _ (by decide))) berth
    (ht.grantId_eq (hX _ (by decide)))
    (fun b _ => berthSummary_congr (ht.peers_eq (hX _ (by decide))) b)
  have effective := ht.effective_eq (hX _ (by decide))
  refine ⟨(ht.running_eq (hX _ (by decide))).trans h.running,
    (ht.role_eq (hX _ (by decide))).trans h.car, nofun, ?_, ?_, ?_, ?_⟩ <;>
    simp only [side, berth, held, effective]
  · exact h.braked
  · exact h.shown
  · exact h.alone
  · exact h.flagged

/-- At rest the sides meet every clause. -/
theorem of_locked (hrun : s.running = true) (hcar : s.role = .car)
    (hl : ∀ d, (s.side d).state = .locked ∧ (s.side d).withdrawAtLock = false) :
    DoorKept moved owed s where
  running := hrun
  car := hcar
  still _ d ha := by
    rcases releaseAsked_cases ha with ⟨hs, -⟩ | hs
    · exact nomatch (hl d).1.symm.trans hs
    · exact nomatch (hl d).1.symm.trans hs
  braked d hs := nomatch (hl d).1.symm.trans hs
  shown d hs := nomatch (hl d).1.symm.trans hs
  alone d _ hs := nomatch (hl d).1.symm.trans hs
  flagged d _ hf := absurd ((hl d).2.symm.trans hf) nofun

theorem mono {ids : List Identity} (h : DoorKept moved owed s) (hids : owed ⊆ ids) :
    DoorKept moved ids s where
  running := h.running
  car := h.car
  still := h.still
  braked := h.braked
  shown d hs hc := (h.shown d hs hc).imp_right fun ⟨b, hb, hm⟩ => ⟨b, hb, hids hm⟩
  alone := h.alone
  flagged := h.flagged

theorem enqueue (h : DoorKept moved owed s) (p : Payload) : DoorKept moved owed (s.enqueue p) :=
  h.of_touches (enqueue_touches p s)

theorem bump (h : DoorKept moved owed s) (c : Count) : DoorKept moved owed (s.bump c) :=
  h.of_touches (bump_touches c s)

theorem carWithdraw (h : DoorKept moved owed s) (b g : Nat) (r : WithdrawReason) :
    DoorKept moved owed (s.carWithdraw b g r) := h.of_touches (carWithdraw_touches b g r s)

/-- Sides that leave, the held grant staying as it is. -/
theorem mapSides (h : DoorKept moved owed s) {f : Side → DoorSideContext → DoorSideContext}
    (hf : ∀ d, Leaves (s.side d) (f d (s.side d))) : DoorKept moved owed (s.mapSides f) :=
  h.of_leaves (mapSides_touches f s) (fun d => side_mapSides f s d ▸ hf d) (fun _ _ => ⟨rfl, rfl⟩)

theorem setDoor (h : DoorKept moved owed s) {f : DoorBlock → DoorBlock}
    (hf : Touches [.door] s (s.setDoor f)) : DoorKept moved owed (s.setDoor f) := h.of_touches hf

/-! ## Closing and locking (R148) -/

theorem lockSides (h : DoorKept moved owed s) : DoorKept moved owed s.lockSides :=
  h.mapSides fun _ => .ite fun _ => .of_idle rfl id

/-- A side that waits to withdraw at the lock stands beside no RELEASED one, so the grant let go is held by
none. -/
theorem withdrawLocked (h : DoorKept moved owed s) : DoorKept moved owed s.withdrawLocked := by
  unfold State.withdrawLocked
  dsimp only
  split
  · exact h
  · next hflag =>
    have unreleased (d : Side) : (s.side d).state ≠ .released := by
      have flag : ∃ d, (s.side d).withdrawAtLock = true := by
        by_contra hnone
        have none (d : Side) : (s.side d).withdrawAtLock = false :=
          Bool.not_eq_true _ |>.mp fun hd => hnone ⟨d, hd⟩
        refine hflag (Bool.or_eq_true_iff.mpr (.inl ?_))
        rw [List.filter_cons_of_neg (by rw [show s.door.left = s.side .left from rfl, none]; nofun),
          List.filter_cons_of_neg (by rw [show s.door.right = s.side .right from rfl, none]; nofun)]
        rfl
      obtain ⟨d', hd'⟩ := flag
      exact (h.flagged d' d hd').1
    have withdrawn (x : State) (hx : DoorKept moved owed x)
        (hn : ∀ d, (x.side d).state ≠ .released) :
        DoorKept moved owed ((x.mapSides (fun _ c => { c with withdrawAtLock := false })).setDoor
          ({ · with grantId := none })) := by
      have side (d : Side) : ((x.mapSides (fun _ c => { c with withdrawAtLock := false })).setDoor
          ({ · with grantId := none })).side d = { x.side d with withdrawAtLock := false } := by
        cases d <;> rfl
      refine hx.of_leaves (((mapSides_touches _ x).comp (setDoor_touches _ _)).mono
        (Y := [.sides, .door]) (by decide)) (fun d => ?_) (fun d hd => ?_)
      · rw [side]
        exact ⟨fun hs => ⟨hs, rfl⟩, id, id, nofun⟩
      · rw [side] at hd
        exact absurd hd (hn d)
    split
    · exact withdrawn _ (h.carWithdraw _ _ _) fun d => by
        rw [side_eq_of_touches (carWithdraw_touches _ _ _ s)]
        exact unreleased d
    · exact withdrawn _ h unreleased

theorem lockClosing (h : DoorKept moved owed s) : DoorKept moved owed s.lockClosing :=
  h.lockSides.withdrawLocked

/-! ## Requests (R139 to R141) -/

theorem requestSides_side (b : Berth) (s : State) (d : Side) : (s.requestSides b).side d =
    { state :=
        if namesSide b.side d then .requesting
        else if (s.side d).state == .released then .closing else (s.side d).state
      confirmed := false, withdrawAtLock := false } := by
  cases d <;> rfl

/-- A request that starts leaves no side RELEASED and none with a flag (R139). -/
theorem startRequest (h : DoorKept moved owed s) (b : Berth) : DoorKept moved owed (s.startRequest b) := by
  have ht : Touches [.sides, .door] s (s.requestSides b) :=
    ((mapSides_touches _ s).comp (setDoor_touches _ _)).mono (by decide)
  have unreleased (d : Side) : ((s.requestSides b).side d).state ≠ .released := by
    rw [requestSides_side]
    dsimp only
    split
    · nofun
    · split
      · nofun
      · next hs => exact fun hr => hs (beq_iff_eq.mpr hr)
  have evacuating (d : Side) (hd : ((s.requestSides b).side d).state = .evacuation) :
      (s.side d).state = .evacuation := by
    rw [requestSides_side] at hd
    dsimp only at hd
    split at hd
    · cases hd
    · split at hd
      · cases hd
      · exact hd
  have requested : DoorKept moved owed (s.requestSides b) := {
    running := ht.running_eq.trans h.running
    car := ht.role_eq.trans h.car
    still hm d ha := by
      rcases releaseAsked_cases ha with ⟨hs, -⟩ | hs
      · exact absurd hs (unreleased d)
      · rw [ht.standstill_eq]
        exact h.still hm d ((releaseAsked_iff s d).mpr (.inr (evacuating d hs)))
    braked d hs := by
      rw [ht.effective_eq]
      exact h.braked d (evacuating d hs)
    shown d hs := absurd hs (unreleased d)
    alone d _ hs := absurd hs (unreleased d)
    flagged d d' hf := by
      rw [requestSides_side] at hf
      cases hf }
  rw [startRequest_eq]
  exact requested.enqueue _

theorem abandonRequest (h : DoorKept moved owed s) : DoorKept moved owed s.abandonRequest := by
  have asked : DoorKept moved owed (s.mapSides (fun d c => if c.state == .requesting then
      { c with state := if s.doorLocked d then .locked else .closing } else c)) :=
    h.mapSides fun d => .ite fun _ => .of_idle (by dsimp only; split <;> rfl) id
  exact asked.setDoor fun p hp => by cases p <;> first | rfl | exact absurd (by decide) hp

theorem judgeRequest (h : DoorKept moved owed s) : DoorKept moved owed s.judgeRequest := by
  unfold State.judgeRequest
  split
  · exact h.abandonRequest
  · split
    · split
      · exact h.startRequest _
      · exact h
    · exact h

theorem repeatExpiry (h : DoorKept moved owed s) : DoorKept moved owed s.repeatExpiry := by
  unfold State.repeatExpiry
  split
  · exact h.setDoor fun p hp => by cases p <;> first | rfl | exact absurd (by decide) hp
  · split
    · have counted : DoorKept moved owed (s.setDoor (fun d => { d with
          retryCount := d.retryCount + 1, repeatDue := some (s.after 250) })) :=
        h.setDoor fun p hp => by cases p <;> first | rfl | exact absurd (by decide) hp
      dsimp only
      split
      · exact counted.enqueue _
      · exact counted
    · have faulted : DoorKept moved owed (s.mapSides (fun _ c =>
          if c.state == .requesting then { c with state := .fault } else c)) :=
        h.mapSides fun _ => .ite fun _ => .of_idle rfl id
      exact (faulted.setDoor fun p hp => by
        cases p <;> first | rfl | exact absurd (by decide) hp).bump _

theorem takeRefusal (h : DoorKept moved owed s) (b n : Nat) (r : RefusalReason) :
    DoorKept moved owed (s.takeRefusal b n r) := by
  unfold State.takeRefusal
  split
  · exact (h.setDoor fun p hp => by cases p <;> first | rfl | exact absurd (by decide) hp).bump _
  · exact h.bump _

/-! ## Holding a grant (R145 to R147) -/

/-- Confirmation waits for the berth to show the grant (R145). -/
theorem judgeConfirm (h : DoorKept moved owed s)
    (hstill : moved = false → s.anySide .released = true → s.meas.standstill = true) :
    DoorKept moved owed s.judgeConfirm := by
  unfold State.judgeConfirm
  split
  · next hc =>
    obtain ⟨someReleased, held⟩ := Bool.and_eq_true_iff.mp hc
    have ht := confirmSides_touches s
    have side := confirmSides_side s
    have state (d : Side) : (s.confirmSides.side d).state = (s.side d).state := by
      rw [side]
      split <;> rfl
    have flag (d : Side) : (s.confirmSides.side d).withdrawAtLock = (s.side d).withdrawAtLock := by
      rw [side]
      split <;> rfl
    show DoorKept moved owed s.confirmSides
    exact {
      running := ht.running_eq.trans h.running
      car := ht.role_eq.trans h.car
      still := fun hm _ _ => hstill hm someReleased
      braked := fun d hs => h.braked d ((state d).symm.trans hs)
      shown := fun _ _ _ => .inl held
      alone := fun d d' hs => state d' ▸ h.alone d d' ((state d).symm.trans hs)
      flagged := fun d d' hf => state d' ▸ h.flagged d d' ((flag d).symm.trans hf) }
  · exact h

theorem moves (h : DoorKept moved owed s) : DoorKept true owed s := { h with still := nofun }

/-- With no side RELEASED the berth owes nothing, and only the evacuating sides need the standstill. -/
theorem of_unreleased (h : DoorKept moved owed s) (hr : ∀ d, (s.side d).state ≠ .released)
    (hev : ∀ d, (s.side d).state = .evacuation → s.meas.standstill = true) : DoorKept false [] s :=
  { h with
    still := fun _ d ha => by
      rcases releaseAsked_cases ha with ⟨hs, -⟩ | hs
      · exact absurd hs (hr d)
      · exact hev d hs
    shown := fun d hs => absurd hs (hr d) }

/-- Every RELEASED side closes (R146). -/
theorem dropRelease (h : DoorKept moved owed s) : DoorKept moved owed s.dropRelease := by
  refine h.of_leaves (dropRelease_touches s) (fun d => ?_) (fun d hd => ?_)
  · rw [dropRelease_side]
    exact .ite fun _ => .of_idle rfl id
  · exact absurd hd (dropRelease_unreleased s d)

/-- A RELEASED side that stands after the judgement is held: at standstill, and shown where it is confirmed
(R146). -/
theorem holds_of_no_failure {d : Side} (h : s.holdFailure = none) (hs : (s.side d).state = .released) :
    s.meas.standstill = true ∧ ((s.side d).confirmed = true → s.heldGrantShown = true) := by
  unfold State.holdFailure at h
  obtain ⟨hstill, h⟩ := of_ite_some h
  obtain ⟨-, h⟩ := of_ite_some h
  obtain ⟨hshown, -⟩ := of_ite_some h
  refine ⟨by simpa using hstill, fun hc => ?_⟩
  have confirmed : ((s.door.left.state == .released && s.door.left.confirmed)
      || (s.door.right.state == .released && s.door.right.confirmed)) = true := by
    cases d with
    | left =>
      rw [show s.door.left.state = .released from hs, show s.door.left.confirmed = true from hc]
      rfl
    | right =>
      rw [show s.door.right.state = .released from hs, show s.door.right.confirmed = true from hc]
      exact Bool.or_true _
  rw [confirmed, Bool.true_and, Bool.not_eq_true', Bool.not_eq_false] at hshown
  exact hshown

/-- The judgement of the hold settles what standstill and the berth have left open (R146). -/
theorem judgeHold (h : DoorKept moved owed s)
    (hev : ∀ d, (s.side d).state = .evacuation → s.meas.standstill = true) :
    DoorKept false [] s.judgeHold := by
  have dropped : DoorKept false [] s.dropRelease := by
    refine h.dropRelease.of_unreleased (dropRelease_unreleased s) fun d hd => ?_
    rw [(dropRelease_touches s).standstill_eq]
    rw [dropRelease_side] at hd
    split at hd
    · cases hd
    · exact hev d hd
  unfold State.judgeHold
  split
  · split
    · split
      · exact dropped.carWithdraw _ _ _
      · exact dropped
    · next hf =>
      exact { h with
        still := fun _ d ha => by
          rcases releaseAsked_cases ha with ⟨hs, -⟩ | hs
          · exact (holds_of_no_failure hf hs).1
          · exact hev d hs
        shown := fun d hs hc => .inl ((holds_of_no_failure hf hs).2 hc) }
  · next hr =>
    exact h.of_unreleased ((anySide_eq_false_iff s _).mp (Bool.not_eq_true _ |>.mp hr)) hev

theorem evacuation_still (h : DoorKept false owed s) (d : Side) (hs : (s.side d).state = .evacuation) :
    s.meas.standstill = true := h.still rfl d ((releaseAsked_iff s d).mpr (.inr hs))

theorem judgeRelease (h : DoorKept moved owed s)
    (hev : ∀ d, (s.side d).state = .evacuation → s.meas.standstill = true) :
    DoorKept false [] s.judgeRelease := by
  refine (h.moves.judgeConfirm nofun).judgeHold fun d hd => ?_
  rw [(judgeConfirm_touches s).standstill_eq]
  refine hev d ?_
  unfold State.judgeConfirm at hd
  split at hd
  · have confirmed : (s.confirmSides.side d).state = .evacuation := hd
    rw [confirmSides_side] at confirmed
    split at confirmed <;> exact confirmed
  · exact hd

theorem judgeStanding (h : DoorKept moved owed s) : DoorKept moved owed s.judgeStanding := by
  unfold State.judgeStanding
  split
  · split
    · split
      · exact h.carWithdraw _ _ _
      · exact h
    · exact h
  · exact h

end DoorKept

end Sys2Proof.Machine
end


section
/-! # Every operation of the door block, and the effective level, keep the sides (O6, R105, R139 to R152) -/

namespace Sys2Proof.Machine

open Sys2Proof

theorem takeRelease_side (b g : Nat) (s : State) (d : Side) : (s.takeRelease b g).side d =
    if (s.side d).state == .requesting then
      { s.side d with state := .released, confirmed := false } else s.side d := by
  cases d <;> rfl

/-- A side at a departure, by its door locked input (R148). -/
def departSide (locked : Bool) (c : DoorSideContext) : DoorSideContext :=
  match c.state with
  | .released => { c with state := .closing, withdrawAtLock := true }
  | .requesting => { c with state := if locked then .locked else .closing }
  | .fault => { c with state := .closing }
  | _ => c

/-- The sides of a departure, before those that can lock have (R148). -/
def State.departSides (s : State) : State :=
  (s.mapSides (fun d c => departSide (s.doorLocked d) c)).setDoor (fun d => { d with
    repeatDue := if s.anySide .requesting then none else d.repeatDue
    confirmDue := none })

theorem departureNotice_eq (s : State) : s.departureNotice = s.departSides.lockClosing := rfl

theorem departSides_side (s : State) (d : Side) :
    s.departSides.side d = departSide (s.doorLocked d) (s.side d) := by
  cases d <;> rfl

theorem departSide_unrequested (locked : Bool) (c : DoorSideContext) :
    (departSide locked c).state ≠ .released ∧ (departSide locked c).state ≠ .requesting := by
  obtain ⟨state, confirmed, flag⟩ := c
  cases state <;> cases locked <;> exact ⟨nofun, nofun⟩

theorem evacuation_of_departSide {locked : Bool} {c : DoorSideContext}
    (h : (departSide locked c).state = .evacuation) : c.state = .evacuation := by
  obtain ⟨state, confirmed, flag⟩ := c
  cases state <;> cases locked <;> first | rfl | exact nomatch h

/-- The sides after an evacuation order that is accepted (R151). -/
def State.evacuateSides (side : DoorSide) (s : State) : State :=
  s.mapSides (fun d c =>
    if namesSide side d && !(c.state == .released) then { c with state := .evacuation } else c)

theorem evacuateSides_side (side : DoorSide) (s : State) (d : Side) :
    (s.evacuateSides side).side d =
      if namesSide side d && !((s.side d).state == .released) then
        { s.side d with state := .evacuation } else s.side d := by
  cases d <;> rfl

/-- The sides after the end of an evacuation release, before those that can lock have (R152). -/
def State.endedSides (s : State) : State :=
  s.mapSides (fun _ c => if c.state == .evacuation then { c with state := .closing } else c)

theorem endedSides_side (s : State) (d : Side) : s.endedSides.side d =
    if (s.side d).state == .evacuation then { s.side d with state := .closing } else s.side d := by
  cases d <;> rfl

theorem endEvacuation_eq (s : State) :
    s.endEvacuation = if s.anySide .evacuation then s.endedSides.lockClosing else s := rfl

theorem endedSides_leaves (s : State) (d : Side) : Leaves (s.side d) (s.endedSides.side d) := by
  rw [endedSides_side]
  exact .ite fun _ => .of_idle rfl id

theorem endedSides_unevacuated (s : State) (d : Side) :
    (s.endedSides.side d).state ≠ .evacuation := by
  rw [endedSides_side]
  split
  · nofun
  · next hs => exact fun he => hs (beq_iff_eq.mpr he)

namespace DoorKept

variable {moved : Bool} {owed : List Identity} {s t : State} {X : List Part}

/-- After an operation that leaves no side RELEASED or REQUESTING the flags are free. -/
theorem of_unrequested (h : DoorKept moved owed s) (ht : Touches X s t)
    (hr : ∀ d, (t.side d).state ≠ .released ∧ (t.side d).state ≠ .requesting)
    (hev : ∀ d, (t.side d).state = .evacuation → (s.side d).state = .evacuation)
    (hX : ∀ p ∈ [Part.phase, .cfg, .standstill, .effective, .peers], p ∉ X := by decide) :
    DoorKept moved owed t where
  running := (ht.running_eq (hX _ (by decide))).trans h.running
  car := (ht.role_eq (hX _ (by decide))).trans h.car
  still hm d ha := by
    rw [ht.standstill_eq (hX _ (by decide))]
    rcases releaseAsked_cases ha with ⟨hs, -⟩ | hs
    · exact absurd hs (hr d).1
    · exact h.still hm d ((releaseAsked_iff s d).mpr (.inr (hev d hs)))
  braked d hs := by
    rw [ht.effective_eq (hX _ (by decide))]
    exact h.braked d (hev d hs)
  shown d hs := absurd hs (hr d).1
  alone d _ hs := absurd hs (hr d).1
  flagged _ d' _ := hr d'

/-! ## Grants and departures -/

/-- The grant accepted releases the REQUESTING sides, beside which no side was RELEASED (R145). -/
theorem takeRelease (h : DoorKept moved owed s) (hreq : s.anySide .requesting = true) (b g : Nat) :
    DoorKept moved owed (s.takeRelease b g) := by
  obtain ⟨q, hq⟩ := (anySide_iff s _).mp hreq
  have ht : Touches [.sides, .door] s (s.takeRelease b g) :=
    ((mapSides_touches _ s).comp (setDoor_touches _ _)).mono (by decide)
  have side := takeRelease_side b g s
  have unconfirmed (d : Side) (hs : ((s.takeRelease b g).side d).state = .released) :
      ((s.takeRelease b g).side d).confirmed = false := by
    rw [side] at hs ⊢
    split at hs
    · next hr =>
      rw [if_pos hr]
    · exact absurd hq (h.alone d q hs)
  have evacuating (d : Side) (hs : ((s.takeRelease b g).side d).state = .evacuation) :
      (s.side d).state = .evacuation := by
    rw [side] at hs
    split at hs
    · cases hs
    · exact hs
  have unrequested (d : Side) : ((s.takeRelease b g).side d).state ≠ .requesting := by
    rw [side]
    split
    · nofun
    · next hr => exact fun hs => hr (beq_iff_eq.mpr hs)
  have flag (d : Side) : ((s.takeRelease b g).side d).withdrawAtLock = (s.side d).withdrawAtLock := by
    rw [side]
    split <;> rfl
  exact {
    running := ht.running_eq.trans h.running
    car := ht.role_eq.trans h.car
    still := fun hm d ha => by
      rw [ht.standstill_eq]
      rcases releaseAsked_cases ha with ⟨hs, hc⟩ | hs
      · rw [unconfirmed d hs] at hc
        cases hc
      · exact h.still hm d ((releaseAsked_iff s d).mpr (.inr (evacuating d hs)))
    braked := fun d hs => by
      rw [ht.effective_eq]
      exact h.braked d (evacuating d hs)
    shown := fun d hs hc => by
      rw [unconfirmed d hs] at hc
      cases hc
    alone := fun _ d' _ => unrequested d'
    flagged := fun d d' hf => absurd hq (h.flagged d q ((flag d).symm.trans hf)).2 }

theorem takeGrant (h : DoorKept moved owed s) (b : Nat) (side : DoorSide) (n g : Nat) :
    DoorKept moved owed (s.takeGrant b side n g) := by
  by_cases hheld : s.door.grantId = some g ∧ s.door.stopBerth = some b
  · unfold State.takeGrant
    rw [if_pos hheld]
    exact h
  · cases haccept : s.grantAccepted b n side with
    | false =>
      rw [takeGrant_rejects hheld haccept]
      exact (h.carWithdraw _ _ _).bump _
    | true =>
      rw [takeGrant_accepts hheld haccept]
      obtain ⟨-, -, -, hreq, hstill⟩ := (grantAccepted_iff s b n side).mp haccept
      exact (h.takeRelease hreq b g).judgeConfirm fun _ _ => hstill

theorem takeBerthWithdrawal (h : DoorKept moved owed s) (b g : Nat) :
    DoorKept moved owed (s.takeBerthWithdrawal b g) := by
  unfold State.takeBerthWithdrawal
  split
  · exact h.dropRelease.lockClosing
  · exact h

theorem departureNotice (h : DoorKept moved owed s) : DoorKept moved owed s.departureNotice := by
  have ht : Touches [.sides, .door] s s.departSides :=
    ((mapSides_touches _ s).comp (setDoor_touches _ _)).mono (by decide)
  rw [departureNotice_eq]
  refine lockClosing (h.of_unrequested ht (fun d => ?_) fun d hd => ?_)
  · rw [departSides_side]
    exact departSide_unrequested _ _
  · rw [departSides_side] at hd
    exact evacuation_of_departSide hd

theorem doorDriveMotion (h : DoorKept moved owed s) (st : Haulage) :
    DoorKept moved owed (s.doorDriveMotion st) := by
  have noted : DoorKept moved owed (s.setDoor (fun d => { d with
      armed := st == .atStop && (d.armed || !(d.lastDriveState == some .atStop))
      lastDriveState := some st })) :=
    h.setDoor fun p hp => by cases p <;> first | rfl | exact absurd (by decide) hp
  unfold State.doorDriveMotion
  dsimp only
  split
  · exact noted.departureNotice
  · exact noted

theorem takeDriveMotion (h : DoorKept moved owed s) (m : Motion) :
    DoorKept moved owed (s.takeDriveMotion m) := by
  have emptied : DoorKept moved owed (if emptiesNotice m s.prof.notice then s.emptyNotice else s) :=
    h.of_touches (.ite (fun _ => emptyNotice_touches s) (fun _ => .refl _ _))
  unfold State.takeDriveMotion
  dsimp only
  split
  · exact emptied.doorDriveMotion _
  · exact emptied

theorem doorButton (h : DoorKept moved owed s) : DoorKept moved owed s.doorButton := by
  unfold State.doorButton
  split
  · exact h
  · exact h.setDoor fun p hp => by cases p <;> first | rfl | exact absurd (by decide) hp

/-! ## Evacuation release (R151, R152) -/

/-- An evacuation order is accepted only at standstill and at level 2 or more (R151). -/
theorem takeEvacuation (h : DoorKept moved owed s) (side : DoorSide) :
    DoorKept moved owed (s.takeEvacuation side) := by
  unfold State.takeEvacuation
  split
  · next hres =>
    obtain ⟨hlevel, ⟨hstill, -⟩, -⟩ := (evacuationResult_accepted_iff s side).mp hres
    have ht := mapSides_touches (fun d c =>
      if namesSide side d && !(c.state == .released) then { c with state := .evacuation } else c) s
    have leaves (d : Side) : ((s.evacuateSides side).side d).state = .evacuation ∨
        (s.evacuateSides side).side d = s.side d := by
      rw [evacuateSides_side]
      split
      · exact .inl rfl
      · exact .inr rfl
    have flag (d : Side) : ((s.evacuateSides side).side d).withdrawAtLock =
        (s.side d).withdrawAtLock := by
      rw [evacuateSides_side]
      split <;> rfl
    have released (d : Side) (hs : ((s.evacuateSides side).side d).state = .released) :
        (s.evacuateSides side).side d = s.side d :=
      (leaves d).resolve_left fun he => nomatch hs.symm.trans he
    have requesting (d : Side) (hs : ((s.evacuateSides side).side d).state = .requesting) :
        (s.side d).state = .requesting := by
      rw [← (leaves d).resolve_left fun he => nomatch hs.symm.trans he]
      exact hs
    have evacuated : DoorKept moved owed (s.evacuateSides side) := {
      running := ht.running_eq.trans h.running
      car := ht.role_eq.trans h.car
      still := fun _ _ _ => hstill
      braked := fun _ _ => hlevel
      shown := fun d hs hc => by
        have same := released d hs
        rw [same] at hs hc
        exact h.shown d hs hc
      alone := fun d d' hs hr => h.alone d d' (released d hs ▸ hs) (requesting d' hr)
      flagged := fun d d' hf => by
        obtain ⟨notReleased, notRequesting⟩ := h.flagged d d' ((flag d).symm.trans hf)
        exact ⟨fun hs => notReleased (released d' hs ▸ hs),
          fun hs => notRequesting (requesting d' hs)⟩ }
    exact evacuated.enqueue _
  · exact (h.enqueue _).bump _

theorem endEvacuation (h : DoorKept moved owed s) : DoorKept moved owed s.endEvacuation := by
  have ended : DoorKept moved owed s.endedSides :=
    h.of_leaves (mapSides_touches _ s) (endedSides_leaves s) fun _ _ => ⟨rfl, rfl⟩
  rw [endEvacuation_eq]
  split
  · exact ended.lockClosing
  · exact h

/-- The effective level falls below 2, and no evacuation release stands (R105, R152). -/
theorem endEvacuation_of_fallen (h : DoorKept moved owed s) (ht : Touches X s t)
    (hX : ∀ p ∈ [Part.sides, .phase, .cfg, .standstill, .peers], p ∉ X := by decide) :
    DoorKept moved owed t.endEvacuation := by
  have side := side_eq_of_touches ht (hX _ (by decide))
  have berth := ht.stopBerth_eq (hX _ (by decide))
  have kept (u : State) (hu : Touches [.sides] t u)
      (hl : ∀ d, Leaves (t.side d) (u.side d)) (hh : u.door.stopBerth = t.door.stopBerth ∧
        u.door.grantId = t.door.grantId) (hn : ∀ d, (u.side d).state ≠ .evacuation) :
      DoorKept moved owed u := by
    have held : u.heldGrantShown = s.heldGrantShown :=
      heldGrantShown_congr (hu.conf_eq.trans (ht.conf_eq (hX _ (by decide)))) (hh.1.trans berth)
        (hh.2.trans (ht.grantId_eq (hX _ (by decide))))
        (fun b _ => berthSummary_congr (hu.peers_eq.trans (ht.peers_eq (hX _ (by decide)))) b)
    have leaves (d : Side) : Leaves (s.side d) (u.side d) := side d ▸ hl d
    exact {
      running := (hu.running_eq.trans (ht.running_eq (hX _ (by decide)))).trans h.running
      car := (hu.role_eq.trans (ht.role_eq (hX _ (by decide)))).trans h.car
      still := fun hm d ha => by
        rw [hu.standstill_eq, ht.standstill_eq (hX _ (by decide))]
        rcases releaseAsked_cases ha with ⟨hs, hc⟩ | hs
        · obtain ⟨was, confirmed⟩ := (leaves d).released hs
          exact h.still hm d ((releaseAsked_iff s d).mpr (.inl ⟨was, confirmed ▸ hc⟩))
        · exact absurd hs (hn d)
      braked := fun d hs => absurd hs (hn d)
      shown := fun d hs hc => by
        obtain ⟨was, confirmed⟩ := (leaves d).released hs
        rw [held, hh.1, berth]
        exact h.shown d was (confirmed ▸ hc)
      alone := fun d d' hs hr => h.alone d d' ((leaves d).released hs).1 ((leaves d').requesting hr)
      flagged := fun d d' hf => by
        obtain ⟨released, requesting⟩ := h.flagged d d' ((leaves d).flag hf)
        exact ⟨fun hs => released ((leaves d').released hs).1,
          fun hs => requesting ((leaves d').requesting hs)⟩ }
  rw [endEvacuation_eq]
  split
  · exact lockClosing (kept t.endedSides (mapSides_touches _ t) (endedSides_leaves t) ⟨rfl, rfl⟩
      (endedSides_unevacuated t))
  · next hev =>
    exact kept t (.refl _ _) (fun d => .refl _) ⟨rfl, rfl⟩
      ((anySide_eq_false_iff t _).mp (Bool.not_eq_true _ |>.mp hev))

/-! ## The effective level (R100, R105, R111) -/

/-- A CAR ends its evacuation releases where the level falls below 2 (R105, R152). -/
theorem reform (h : DoorKept moved owed s) : DoorKept moved owed s.reform := by
  unfold State.reform State.levelChanged
  dsimp only
  split
  · exact h
  · have raised := setEffective_touches s.formedLevel s
    rw [if_pos (raised.running_eq.trans h.running)]
    have proved := raised.comp (proofAtChange_touches s.brake.effective _)
    generalize ((s.setBrake _).proofAtChange _) = t at proved
    have told : DoorKept moved owed (t.tellLevel s.brake.effective) := by
      unfold State.tellLevel
      rw [proved.role_eq.trans h.car]
      dsimp only
      split
      · exact h.endEvacuation_of_fallen proved
      · next hlow =>
        have side := side_eq_of_touches proved
        have held : t.heldGrantShown = s.heldGrantShown :=
          heldGrantShown_congr proved.conf_eq proved.stopBerth_eq proved.grantId_eq
            (fun b _ => berthSummary_congr proved.peers_eq b)
        refine ⟨proved.running_eq.trans h.running, proved.role_eq.trans h.car, fun hm d ha => ?_,
          fun _ _ => Nat.not_lt.mp hlow, ?_, ?_, ?_⟩
        · rw [proved.standstill_eq]
          rw [releaseAsked_iff, side, ← releaseAsked_iff] at ha
          exact h.still hm d ha
        · simp only [side, held, proved.stopBerth_eq]
          exact h.shown
        · simp only [side]
          exact h.alone
        · simp only [side]
          exact h.flagged
    exact told.of_touches (queueAllStates_touches _)

theorem judgeRise (h : DoorKept moved owed s) : DoorKept moved owed s.judgeRise := by
  have judged : DoorKept moved owed (s.setBrake ({ · with judged := s.highestOwn, raised := [] })) :=
    h.of_touches (X := [.judged]) fun p hp => by
      cases p <;> first | rfl | exact absurd (by decide) hp
  unfold State.judgeRise
  dsimp only
  split
  · split
    · exact (judged.of_touches ((queueOrder_touches _ _ _).comp (writeRecord_touches _ _ _))).reform
    · exact judged.reform
  · exact judged

theorem latch (h : DoorKept moved owed s) (c : Cause) (level : Nat) :
    DoorKept moved owed (s.latch c level) := h.of_touches (latch_touches c level s)

theorem raise (h : DoorKept moved owed s) (c : Cause) (level : Nat) :
    DoorKept moved owed (s.raise c level) := (h.latch c level).judgeRise

theorem takeOrder (h : DoorKept moved owed s) (addr level : Nat) (c : Cause) (hp : Option Nat)
    (n : Nat) : DoorKept moved owed (s.takeOrder addr level c hp n) := by
  unfold State.takeOrder
  dsimp only
  refine reform (of_touches (X := [.rows]) (s := match s.brake.held with
    | some m => if m = n then s else s.bump .lateOrders
    | none => s) ?_ fun p hp => by cases p <;> first | rfl | exact absurd (by decide) hp)
  split
  · split
    · exact h
    · exact h.bump _
  · exact h

theorem takeAnnounced (h : DoorKept moved owed s) (addr level : Nat) :
    DoorKept moved owed (s.takeAnnounced addr level) :=
  reform (h.of_touches (X := [.rows]) fun p hp => by
    cases p <;> first | rfl | exact absurd (by decide) hp)

theorem passBrake (h : DoorKept moved owed s) (f : Frame) : DoorKept moved owed (s.passBrake f) := by
  unfold State.passBrake
  split
  · have ordered := fun a l c hp n => h.takeOrder a l c hp n
    dsimp only
    split
    · exact (ordered _ _ _ _ _).of_touches (clearHeld_touches _)
    · exact ordered _ _ _ _ _
  · split
    · exact h.takeAnnounced _ _
    · exact h

theorem judgeReset (h : DoorKept moved owed s) (n : Nat) : DoorKept moved owed (s.judgeReset n) := by
  unfold State.judgeReset
  split
  · exact h.bump _
  · split
    · have formed := (h.of_touches (resetDemands_touches n s)).reform
      rw [acceptReset_eq]
      generalize (s.resetDemands n).reform = t at formed
      have told : DoorKept moved owed t.tellReset := by
        unfold State.tellReset
        rw [formed.car]
        exact (formed.of_touches (authorityReset_touches t)).endEvacuation
      exact told.of_touches (reOrder_touches _)
    · exact h.bump _

theorem judgeProof (h : DoorKept moved owed s) (p : BrakeProof) :
    DoorKept moved owed (s.judgeProof p) := by
  have ended : DoorKept moved owed (s.setBrake ({ · with proof := none })) :=
    h.of_touches (X := [.proof]) fun p hp => by
      cases p <;> first | rfl | exact absurd (by decide) hp
  unfold State.judgeProof State.proofFailed
  dsimp only
  split
  · exact ended
  · split
    · exact (ended.bump _).raise _ _
    · exact (ended.bump _).raise _ _
    · exact ((ended.bump _).of_touches (writeRecord_touches _ _ _)).bump _
    · exact (ended.bump _).raise _ _

end DoorKept

end Sys2Proof.Machine
end


section
/-! # A change of the peer view, and the identities it owes a notice (O6, R62 to R65, R73) -/

namespace Sys2Proof.Machine

open Sys2Proof

/-- Entry by entry, what a reader of an identity's berth record sees is the same. -/
theorem find?_bind_congr {α β : Type} {p : α → Bool} {g : α → Option β} {l l' : List α}
    (hlen : l'.length = l.length)
    (h : ∀ (i : Nat) (e e' : α), l[i]? = some e → l'[i]? = some e' →
      p e' = p e ∧ (p e = true → g e' = g e)) :
    (l'.find? p).bind g = (l.find? p).bind g := by
  induction l generalizing l' with
  | nil => rw [List.length_eq_zero_iff.mp hlen]
  | cons a l ih =>
    cases l' with
    | nil => cases hlen
    | cons a' l' =>
      obtain ⟨same, value⟩ := h 0 a a' rfl rfl
      rw [List.find?_cons, List.find?_cons, same]
      split
      · next hp => exact value hp
      · exact ih (Nat.succ.inj hlen) fun i e e' he he' => h (i + 1) e e' he he'

/-- Entry by entry, the announcement and the berth record are the same, but in the entries excepted. -/
structure KeepsAnnounced (except : Nat → Prop) (l l' : List PeerEntry) : Prop where
  length : l'.length = l.length
  entries : ∀ (i : Nat) (e e' : PeerEntry), ¬except i → l[i]? = some e → l'[i]? = some e' →
    e'.announcement = e.announcement ∧ e'.berth = e.berth

namespace KeepsAnnounced

variable {except : Nat → Prop} {l l' l'' : List PeerEntry}

theorem refl (except : Nat → Prop) (l : List PeerEntry) : KeepsAnnounced except l l where
  length := rfl
  entries i e e' _ he he' := by
    obtain rfl := Option.some.inj (he.symm.trans he')
    exact ⟨rfl, rfl⟩

theorem trans (h : KeepsAnnounced except l l') (g : KeepsAnnounced except l' l'') :
    KeepsAnnounced except l l'' where
  length := g.length.trans h.length
  entries i e e'' hi he he'' := by
    obtain ⟨e', he'⟩ : ∃ e', l'[i]? = some e' := by
      have bound := (List.getElem?_eq_some_iff.mp he).1
      exact ⟨_, List.getElem?_eq_getElem (h.length.symm ▸ bound)⟩
    obtain ⟨announced, berth⟩ := h.entries i e e' hi he he'
    obtain ⟨announced', berth'⟩ := g.entries i e' e'' hi he' he''
    exact ⟨announced'.trans announced, berth'.trans berth⟩

/-- An entry is changed alone, in what the relation does not name or where it is excepted. -/
theorem modify (except : Nat → Prop) (l : List PeerEntry) (addr : Nat) (f : PeerEntry → PeerEntry)
    (hf : ¬except addr → ∀ e, (f e).announcement = e.announcement ∧ (f e).berth = e.berth) :
    KeepsAnnounced except l (l.modify addr f) where
  length := List.length_modify ..
  entries i e e' hi he he' := by
    rw [List.getElem?_modify, he] at he'
    obtain rfl := Option.some.inj he'
    split
    · next ha =>
      subst ha
      exact hf hi e
    · exact ⟨rfl, rfl⟩

theorem map (except : Nat → Prop) (l : List PeerEntry) (f : PeerEntry → PeerEntry)
    (hf : ∀ e, (f e).announcement = e.announcement ∧ (f e).berth = e.berth) :
    KeepsAnnounced except l (l.map f) where
  length := List.length_map ..
  entries i e e' _ he he' := by
    rw [List.getElem?_map, he] at he'
    obtain rfl := Option.some.inj he'
    exact hf e

theorem map_zipIdx (except : Nat → Prop) (l : List PeerEntry) (f : PeerEntry × Nat → PeerEntry)
    (hf : ∀ e i, (f (e, i)).announcement = e.announcement ∧ (f (e, i)).berth = e.berth) :
    KeepsAnnounced except l (l.zipIdx.map f) where
  length := by rw [List.length_map, List.length_zipIdx]
  entries i e e' _ he he' := by
    rw [List.getElem?_map, List.getElem?_zipIdx, he] at he'
    obtain rfl := Option.some.inj he'
    exact hf _ _

end KeepsAnnounced

theorem mem_changedIdentities {l l' : List PeerEntry} {i : Nat} {e e' : PeerEntry} {id : Identity}
    (he : l[i]? = some e) (he' : l'[i]? = some e') (hf : e'.freshness ≠ e.freshness)
    (ha : e.announcement = some id ∨ e'.announcement = some id) :
    id ∈ changedIdentities l l' := by
  unfold changedIdentities
  refine List.mem_flatMap.mpr ⟨(e, e'), List.mem_filter.mpr ⟨?_, ?_⟩, ?_⟩
  · exact List.mem_iff_getElem?.mpr ⟨i, List.getElem?_zip_eq_some.mpr ⟨he, he'⟩⟩
  · exact Bool.not_eq_true' _ ▸ beq_eq_false_iff_ne.mpr hf.symm
  · rw [List.mem_append, Option.mem_toList, Option.mem_toList]
    exact ha

theorem believed_iff (e : PeerEntry) (id : Identity) :
    e.believed id = true ↔ e.freshness = .fresh ∧ e.announcement = some id := by
  unfold PeerEntry.believed
  rw [Bool.and_eq_true, beq_iff_eq, beq_iff_eq]

theorem berthSummary_of_entries {s t : State} {b : Nat} (hlen : t.peers.length = s.peers.length)
    (h : ∀ (i : Nat) (e e' : PeerEntry), s.peers[i]? = some e → t.peers[i]? = some e' →
      e'.believed (.berth b) = e.believed (.berth b) ∧
        (e.believed (.berth b) = true → e'.berth = e.berth)) :
    t.berthSummary b = s.berthSummary b := by
  have same : (t.fresh (.berth b)).bind (·.berth) = (s.fresh (.berth b)).bind (·.berth) :=
    find?_bind_congr hlen h
  unfold State.berthSummary
  rw [same]

/-- A berth that no notice is owed to shows what it showed: no entry that announces it, before or after, has
changed in freshness, and none is the entry whose record has been stored (R73). -/
theorem berthSummary_of_unowed {s t : State} {except : Nat → Prop} {b : Nat}
    (hk : KeepsAnnounced except s.peers t.peers)
    (hc : .berth b ∉ changedIdentities s.peers t.peers)
    (hx : ∀ (i : Nat) (e e' : PeerEntry), except i → s.peers[i]? = some e → t.peers[i]? = some e' →
      e.announcement ≠ some (.berth b) ∧ e'.announcement ≠ some (.berth b)) :
    t.berthSummary b = s.berthSummary b := by
  refine berthSummary_of_entries hk.length fun i e e' he he' => ?_
  have silent (hn : e.announcement ≠ some (.berth b)) (hn' : e'.announcement ≠ some (.berth b)) :
      e'.believed (.berth b) = e.believed (.berth b) ∧
        (e.believed (.berth b) = true → e'.berth = e.berth) := by
    have before : e.believed (.berth b) = false :=
      Bool.not_eq_true _ |>.mp fun hb => hn ((believed_iff _ _).mp hb).2
    have after : e'.believed (.berth b) = false :=
      Bool.not_eq_true _ |>.mp fun hb => hn' ((believed_iff _ _).mp hb).2
    rw [before, after]
    exact ⟨rfl, nofun⟩
  by_cases hi : except i
  · obtain ⟨hn, hn'⟩ := hx i e e' hi he he'
    exact silent hn hn'
  · obtain ⟨announced, berth⟩ := hk.entries i e e' hi he he'
    by_cases hf : e'.freshness = e.freshness
    · unfold PeerEntry.believed
      rw [hf, announced]
      exact ⟨rfl, fun _ => berth⟩
    · exact silent (fun ha => hc (mem_changedIdentities he he' hf (.inl ha)))
        (fun ha => hc (mem_changedIdentities he he' hf (.inr ha)))

/-! ## The operations of the peer view -/

theorem spreadConflict_announced (except : Nat → Prop) (addr : Nat) (s : State) :
    KeepsAnnounced except s.peers (s.spreadConflict addr).peers := by
  unfold State.spreadConflict
  split
  · exact .map _ _ _ fun e => by split <;> exact ⟨rfl, rfl⟩
  · exact .refl _ _

theorem endConflicts_announced (except : Nat → Prop) (s : State) :
    KeepsAnnounced except s.peers s.endConflicts.peers := by
  refine .map_zipIdx _ _ _ fun e i => ?_
  dsimp only
  split
  · split <;> exact ⟨rfl, rfl⟩
  · exact ⟨rfl, rfl⟩

/-- A frame recorded changes the announcement and the berth record of its source at most, and of no entry where
it carries no STATE common part. -/
theorem recorded_announced (f : Frame) (s : State) :
    KeepsAnnounced (fun i => i = f.source ∧ f.payload.common.isSome = true) s.peers
      (s.recorded f).peers := by
  have excepted (h : ¬(f.source = f.source ∧ f.payload.common.isSome = true)) :
      f.payload.common = none := by
    rw [← Option.not_isSome_iff_eq_none]
    exact fun hs => h ⟨rfl, hs⟩
  have heard := KeepsAnnounced.modify (fun i => i = f.source ∧ f.payload.common.isSome = true)
    s.peers f.source (renewed f s.unitTime) fun h e => by
      unfold renewed
      rw [excepted h]
      exact ⟨rfl, rfl⟩
  have stored (l : List PeerEntry) := KeepsAnnounced.modify
    (fun i => i = f.source ∧ f.payload.common.isSome = true) l f.source (·.store f.payload)
    fun h e => by
      have none := excepted h
      refine ⟨(store_announced e _).1, ?_⟩
      unfold PeerEntry.store
      split <;> first | rfl | (next hp => rw [hp] at none; cases none)
  refine KeepsAnnounced.trans ?_ (stored _)
  rw [renewEntry_eq, (countEntered_touches s.peers _).peers_eq]
  refine heard.trans (.trans (.trans ?_ (spreadConflict_announced _ _ _)) (endConflicts_announced _ _))
  exact .modify _ _ _ _ fun _ e => ⟨rfl, rfl⟩

theorem entry_of_getElem? {s : State} {i : Nat} {e : PeerEntry} (h : s.peers[i]? = some e) :
    s.entry i = e := by
  rw [State.entry, List.getD_eq_getElem?_getD, h]
  rfl

/-- A berth whose record or freshness a frame changes is among the identities the frame owes a notice. -/
theorem berthSummary_recorded {f : Frame} {s : State} {b : Nat}
    (hb : .berth b ∉ storedIdentities f (s.entry f.source) ++
      changedIdentities s.peers (s.recorded f).peers) :
    (s.recorded f).berthSummary b = s.berthSummary b := by
  rw [List.mem_append, not_or] at hb
  obtain ⟨hstored, hchanged⟩ := hb
  refine berthSummary_of_unowed (recorded_announced f s) hchanged ?_
  rintro i e e' ⟨rfl, hcommon⟩ he he'
  obtain ⟨c, hc⟩ := Option.isSome_iff_exists.mp hcommon
  unfold storedIdentities at hstored
  rw [hc, List.mem_append, not_or, entry_of_getElem? he, Option.mem_toList] at hstored
  obtain ⟨before, announced⟩ := hstored
  refine ⟨before, fun ha => announced ?_⟩
  obtain ⟨fr, rejoins, entry, -⟩ := recorded_entry (List.getElem?_eq_some_iff.mp he).1
  rw [← entry_of_getElem? he', entry, (store_announced _ _).1] at ha
  have own : some c.identity = some (.berth b) := by
    rw [← ha]
    unfold renewed
    rw [hc]
  exact List.mem_singleton.mpr (Option.some.inj own).symm

/-- An entry that changes in neither freshness, announcement nor berth record changes no summary. -/
theorem berthSummary_setEntry {f : PeerEntry → PeerEntry}
    (hf : ∀ e, (f e).freshness = e.freshness ∧ (f e).announcement = e.announcement ∧
      (f e).berth = e.berth) (s : State) (addr b : Nat) :
    (s.setEntry addr f).berthSummary b = s.berthSummary b := by
  refine berthSummary_of_entries (List.length_modify ..) fun i e e' he he' => ?_
  rw [State.setEntry_peers, List.getElem?_modify, he] at he'
  obtain rfl := Option.some.inj he'
  unfold PeerEntry.believed
  split
  · obtain ⟨freshness, announcement, berth⟩ := hf e
    rw [freshness, announcement, berth]
    exact ⟨rfl, fun _ => rfl⟩
  · exact ⟨rfl, fun _ => rfl⟩

/-- Going STALE, an entry owes its announcement a notice. -/
theorem berthSummary_goneStale {s : State} {addr b : Nat}
    (hb : .berth b ∉ changedIdentities s.peers
      (s.setEntry addr ({ · with freshness := .stale })).peers) :
    (s.setEntry addr ({ · with freshness := .stale })).berthSummary b = s.berthSummary b :=
  berthSummary_of_unowed (except := fun _ => False) (.modify _ _ _ _ fun _ _ => ⟨rfl, rfl⟩) hb
    (fun _ _ _ h => h.elim)

/-- The state in which an entry is LOST, before any block has acted on it. -/
def State.lost (addr : Nat) (s : State) : State :=
  ((s.setEntry addr ({ · with freshness := .lost })).endConflicts).countEntered s.peers

theorem lost_touches (addr : Nat) (s : State) : Touches [.peers, .counts] s (s.lost addr) :=
  ((setEntry_touches addr ({ · with freshness := .lost }) s).trans
    (endConflicts_touches _)).comp (countEntered_touches s.peers _)

theorem berthSummary_lost {s : State} {addr b : Nat}
    (hb : .berth b ∉ changedIdentities s.peers (s.lost addr).peers) :
    (s.lost addr).berthSummary b = s.berthSummary b := by
  refine berthSummary_of_unowed (except := fun _ => False) ?_ hb (fun _ _ _ h => h.elim)
  rw [State.lost, (countEntered_touches s.peers _).peers_eq]
  exact .trans (KeepsAnnounced.modify _ _ addr ({ · with freshness := .lost }) fun _ _ => ⟨rfl, rfl⟩)
    (endConflicts_announced _ (s.setEntry addr ({ · with freshness := .lost })))

theorem berthSummary_clearAllCounts (s : State) (b : Nat) :
    s.clearAllCounts.berthSummary b = s.berthSummary b := by
  refine berthSummary_of_entries (List.length_map _) fun i e e' he he' => ?_
  have mapped : (s.peers.map (fun e => { e with rejoins := 0 }))[i]? = some e' := he'
  rw [List.getElem?_map, he] at mapped
  obtain rfl := Option.some.inj mapped
  exact ⟨rfl, fun _ => rfl⟩

end Sys2Proof.Machine
end


section
/-! # Frames, silence and samples at a running CAR (O6) -/

namespace Sys2Proof.Machine

open Sys2Proof

/-- Locking brings no side into an evacuation release. -/
theorem evacuation_of_lockClosing {s : State} {d : Side}
    (h : (s.lockClosing.side d).state = .evacuation) : (s.side d).state = .evacuation := by
  have withdrawn (x : State) : (x.withdrawLocked.side d).state = (x.side d).state := by
    unfold State.withdrawLocked
    dsimp only
    split
    · rfl
    · have cleared (y : State) : (((y.mapSides (fun _ c => { c with withdrawAtLock := false })).setDoor
          ({ · with grantId := none })).side d).state = (y.side d).state := by
        cases d <;> rfl
      split
      · rw [cleared, side_eq_of_touches (carWithdraw_touches _ _ _ x)]
      · exact cleared x
  have locked : (s.lockSides.side d).state = .evacuation := (withdrawn s.lockSides).symm.trans h
  unfold State.lockSides at locked
  rw [side_mapSides] at locked
  split at locked
  · cases locked
  · exact locked

theorem endEvacuation_unevacuated (s : State) (d : Side) :
    (s.endEvacuation.side d).state ≠ .evacuation := by
  rw [endEvacuation_eq]
  split
  · exact fun h => endedSides_unevacuated s d (evacuation_of_lockClosing h)
  · next h => exact (anySide_eq_false_iff s _).mp (Bool.not_eq_true _ |>.mp h) d

theorem berthSummary_passControl (f : Frame) (s : State) (b : Nat) :
    (s.passControl f).berthSummary b = s.berthSummary b := by
  unfold State.passControl
  exact berthSummary_setEntry (f := fun e => { e with
    controlSeq := e.controlSeq.set (f.payload.kind.code - 1) (some (f.seq, s.unitTime)) })
    (fun _ => ⟨rfl, rfl, rfl⟩) s f.source b

theorem berthSummary_passState (f : Frame) (s : State) (b : Nat) :
    (s.passState f).berthSummary b = s.berthSummary b := by
  have kept := berthSummary_setEntry (f := fun e => { e with
    stateSeq := e.stateSeq.set (f.payload.kind.code - 9) (some f.seq) })
    (fun _ => ⟨rfl, rfl, rfl⟩) s f.source b
  unfold State.passState
  dsimp only
  split
  · exact kept
  · exact kept

/-- The commands of the service port change no berth record. -/
theorem berthSummary_command (c : ServiceCommand) (s : State) (b : Nat) :
    (s.command c).berthSummary b = s.berthSummary b := by
  unfold State.command State.carryOut State.judgeRestore
  split
  · rfl
  · split
    · rfl
    · split
      · rfl
      · split
        case h_6 => exact berthSummary_clearAllCounts s b
        case h_7 => split <;> first | rfl | (split <;> rfl)
        all_goals first | rfl | (split <;> rfl)

theorem judgeStandstill_rises (sample : Nat) (s : State) (h : s.meas.standstill = true) :
    (s.judgeStandstill sample).meas.standstill = true := by
  unfold State.judgeStandstill
  split
  · rfl
  · exact h

namespace DoorKept

variable {moved : Bool} {owed : List Identity} {s t : State} {X : List Part}

/-- A change of the peer view leaves a notice owed to every berth whose summary it may have changed (R73). -/
theorem owing (h : DoorKept moved [] s) (ht : Touches X s t)
    (hp : ∀ b, .berth b ∉ owed → t.berthSummary b = s.berthSummary b)
    (hX : ∀ p ∈ [Part.sides, .phase, .cfg, .standstill, .effective], p ∉ X := by decide) :
    DoorKept moved owed t := by
  have side := side_eq_of_touches ht (hX _ (by decide))
  have berth := ht.stopBerth_eq (hX _ (by decide))
  refine ⟨(ht.running_eq (hX _ (by decide))).trans h.running,
    (ht.role_eq (hX _ (by decide))).trans h.car, fun hm d ha => ?_, fun d hs => ?_,
    fun d hs hc => ?_, ?_, ?_⟩
  · rw [ht.standstill_eq (hX _ (by decide))]
    rw [releaseAsked_iff, side, ← releaseAsked_iff] at ha
    exact h.still hm d ha
  · rw [ht.effective_eq (hX _ (by decide))]
    exact h.braked d (side d ▸ hs)
  · rw [side] at hs hc
    rcases h.shown d hs hc with held | ⟨b, -, hb⟩
    · by_cases howed : ∃ b, s.door.stopBerth = some b ∧ .berth b ∈ owed
      · rw [berth]
        exact .inr howed
      · left
        rw [heldGrantShown_congr (ht.conf_eq (hX _ (by decide))) berth
          (ht.grantId_eq (hX _ (by decide))) fun b hb => hp b fun hm => howed ⟨b, hb, hm⟩]
        exact held
    · cases hb
  · simp only [side]
    exact h.alone
  · simp only [side]
    exact h.flagged

/-- A measurement that only shows standstill keeps every clause. -/
theorem standing (h : DoorKept false owed s) (ht : Touches X s t)
    (hs : s.meas.standstill = true → t.meas.standstill = true)
    (hX : ∀ p ∈ [Part.sides, .phase, .cfg, .effective, .peers], p ∉ X := by decide) :
    DoorKept false owed t :=
  { h.measured ht hX with
    still := fun _ d ha => by
      rw [releaseAsked_iff, side_eq_of_touches ht (hX _ (by decide)), ← releaseAsked_iff] at ha
      exact hs (h.still rfl d ha) }

/-! ## Notices (R73) -/

/-- A notice that the stop berth does not wait for is given up. -/
theorem strip {id : Identity} (h : DoorKept moved (id :: owed) s)
    (hid : ∀ b, s.door.stopBerth = some b → id ≠ .berth b) : DoorKept moved owed s :=
  { h with
    shown := fun d hs hc => (h.shown d hs hc).imp_right fun ⟨b, hb, hm⟩ =>
      ⟨b, hb, (List.mem_cons.mp hm).resolve_left fun he => hid b hb he.symm⟩ }

theorem doorBerthNotice (h : DoorKept false owed s) : DoorKept false [] s.doorBerthNotice :=
  (h.judgeRelease h.evacuation_still).judgeStanding.lockClosing

theorem doorDriveNotice (h : DoorKept moved owed s) : DoorKept moved owed s.doorDriveNotice :=
  h.judgeRequest.lockClosing

/-- The notice of an identity settles what it is owed (R73, R145, R146). -/
theorem notice {id : Identity} (h : DoorKept false (id :: owed) s) :
    DoorKept false owed (s.notice id) := by
  unfold State.notice
  rw [h.car]
  cases id with
  | drive => exact (h.strip fun _ _ => nofun).doorDriveNotice
  | berth n =>
    dsimp only
    split
    · exact h.doorBerthNotice.mono (List.nil_subset _)
    · next hn =>
      refine h.strip fun b hb he => hn ?_
      cases he
      unfold State.checkedBerth
      rw [hb]
      exact beq_self_eq_true _
  | car c => exact h.strip fun _ _ => nofun
  | gate b i => exact h.strip fun _ _ => nofun

theorem notices (l : List Identity) {s : State} (h : DoorKept false l s) :
    DoorKept false [] (l.foldl (fun t id => t.notice id) s) := by
  induction l generalizing s with
  | nil => exact h
  | cons id l ih => exact ih h.notice

theorem noticeChanges {before : List PeerEntry} {stored : List Identity}
    (h : DoorKept false (stored ++ changedIdentities before s.peers) s) :
    DoorKept false [] (s.noticeChanges before stored) :=
  notices _ (h.mono fun _ hid => List.mem_eraseDups.mpr hid)

/-! ## Taking a frame (R62, R71, R72) -/

theorem route (h : DoorKept moved owed s) (source : Nat) (id : Identity) {f : State → State}
    (hf : DoorKept moved owed (f s)) : DoorKept moved owed (s.route source id f) := by
  unfold State.route
  split
  · exact hf
  · exact h.bump _

theorem takeRecord (h : DoorKept moved owed s) (f : Frame) :
    DoorKept moved owed (s.takeRecord f) := by
  unfold State.takeRecord
  rw [h.car]
  dsimp only
  split
  case h_1 =>
    split
    · exact h.takeDriveMotion _
    · exact h
  case h_5 => exact h
  all_goals contradiction

theorem deliver (h : DoorKept moved owed s) (f : Frame) : DoorKept moved owed (s.deliver f) := by
  have addressed (b : Bool) (id : Identity) (g : State → State) (hg : DoorKept moved owed (g s)) :
      DoorKept moved owed (if b then s.route f.source id g else s) := by
    split
    · exact h.route _ _ hg
    · exact h
  have unaddressed {b : Bool} (hb : b = false) (x : State) :
      DoorKept moved owed (if b then x else s) := by
    rw [hb]
    exact h
  have notBerth := identity_ne_berth (s := s) (by rw [h.car]; decide)
  unfold State.deliver
  dsimp only
  split
  · exact h.route _ _ (h.judgeReset _)
  · exact addressed _ _ _ (h.of_touches (takeNotice_touches _ s))
  · exact addressed _ _ _ (h.takeEvacuation _)
  · exact unaddressed (identity_ne_drive (by rw [h.car]; decide)) _
  · exact unaddressed (notBerth _) _
  · exact addressed _ _ _ (h.takeGrant _ _ _ _)
  · exact addressed _ _ _ (h.takeRefusal _ _ _)
  · unfold State.routeWithdrawal
    dsimp only
    split
    · exact unaddressed (notBerth _) _
    · exact addressed _ _ _ (h.takeBerthWithdrawal _ _)
    · split
      · exact h.bump _
      · exact h
  · exact h

theorem applyFrame (h : DoorKept false [] s) (f : Frame) : DoorKept false [] (s.applyFrame f) := by
  have recorded : DoorKept false (storedIdentities f (s.entry f.source) ++
      changedIdentities s.peers (s.recorded f).peers) (s.recorded f) :=
    h.owing (recorded_touches f s) fun b hb => berthSummary_recorded hb
  have delivered := ((recorded.passBrake f).takeRecord f).deliver f
  rw [applyFrame_eq]
  refine noticeChanges ?_
  rw [deliver_peers, takeRecord_peers, (passBrake_touches f _).peers_eq]
  exact delivered

theorem takeOne (h : DoorKept false [] s) : DoorKept false [] s.takeOne := by
  unfold State.takeOne
  split
  · exact h
  · next f rest _ =>
    have dropped := h.of_touches (dropOldest_touches rest s)
    unfold State.takeChecked
    split
    · split
      · exact dropped.bump _
      · exact (dropped.owing (passControl_touches f _) fun b _ =>
          berthSummary_passControl f _ b).applyFrame f
    · exact (dropped.owing (passState_touches f _) fun b _ =>
        berthSummary_passState f _ b).applyFrame f
    · exact dropped.applyFrame f

/-! ## Silence (R64) -/

theorem goStale (h : DoorKept false [] s) (addr : Nat) : DoorKept false [] (s.goStale addr) :=
  noticeChanges (h.owing (setEntry_touches _ _ s) fun _ hb => berthSummary_goneStale hb)

theorem goLost (h : DoorKept false [] s) (addr : Nat) : DoorKept false [] (s.goLost addr) := by
  have lost : DoorKept false ([] ++ changedIdentities s.peers (s.lost addr).peers) (s.lost addr) :=
    h.owing (lost_touches addr s) fun _ hb => berthSummary_lost hb
  unfold State.goLost
  refine noticeChanges ?_
  dsimp only
  split
  · split
    · exact (lost.of_touches (clearHeld_touches _)).of_touches (emptyNotice_touches _)
    · exact lost.of_touches (clearHeld_touches _)
  · exact lost

/-! ## The bus -/

theorem sent (h : DoorKept false [] s) : DoorKept false [] s.sent := by
  have counted := (bump_touches .framesSent s).comp (setConflictRun_touches 0 _)
  have told (x : State) (hx : DoorKept false [] x) (p : Payload) : DoorKept false [] (x.tellSent p) := by
    unfold State.tellSent
    rw [hx.car]
    split <;> exact hx
  unfold State.sent
  split
  · dsimp only
    split
    · exact told _ (h.of_touches ((counted.comp (removeOnBus_touches _)).comp (endAttempt_touches _))) _
    · exact h.of_touches (counted.comp (endAttempt_touches _))
  · exact h

theorem enterConflict (h : DoorKept false [] { s with phase := .configured .addressConflict }) :
    DoorKept false [] s.enterConflict := by
  have entered := (h.raise .addressConflict 2).of_touches (removeControls_touches _)
  unfold State.enterConflict
  rw [redecide_of_not_gate (by rw [entered.car]; decide)]
  exact entered

theorem bitError (h : DoorKept false [] s) (field : BitField) :
    DoorKept false [] (s.bitError field) := by
  rcases bitError_cases field s with ht | ⟨x, hx, he⟩
  · exact h.of_touches ht
  · rw [he]
    exact enterConflict { h.of_touches hx with running := rfl }

/-! ## Samples -/

theorem doorSample (h : DoorKept true [] s) : DoorKept false [] s.doorSample := by
  have judged : DoorKept true [] s.judgeOpenMoving := h.of_touches (judgeOpenMoving_touches s)
  unfold State.doorSample
  dsimp only
  generalize s.judgeOpenMoving = x at judged
  have held : DoorKept false [] (if x.meas.standstill then x else x.endEvacuation).judgeRelease := by
    split
    · next hstill => exact judged.judgeRelease fun _ _ => hstill
    · exact judged.endEvacuation.judgeRelease fun d hd => absurd hd (endEvacuation_unevacuated x d)
  exact held.judgeRequest.judgeStanding.lockClosing

theorem sample (h : DoorKept false [] s) (reading : BitVec 16) :
    DoorKept false [] (s.sample reading) := by
  have blocks : DoorKept true [] (s.sampleBlocks reading) := h.measured (sampleBlocks_touches reading s)
  rw [sample_eq]
  generalize s.owedNotice = notice
  generalize s.sampleBlocks reading = x at blocks ⊢
  have requires (y : State) : Touches [.trackAsk] y (y.setBrake ({ · with trackAsk := true })) :=
    fun p hp => by cases p <;> first | rfl | exact absurd (by decide) hp
  have asked : DoorKept false [] (x.roleSample notice) := by
    unfold State.roleSample
    rw [blocks.car]
    exact blocks.doorSample.of_touches (requires _)
  exact asked.judgeRise.of_touches (queueMotion_touches _)

theorem onLatestSample (h : DoorKept false [] s) {f : Nat → State → State}
    (hf : ∀ t, DoorKept false [] (f t s)) : DoorKept false [] (s.onLatestSample f) := by
  unfold State.onLatestSample
  split
  · split
    · exact (hf _).judgeRise
    · exact h
  · exact h

/-! ## Inputs (R174, R175) -/

theorem debounce (h : DoorKept false [] s) (i : Nat) : DoorKept false [] (s.debounce i) := by
  have taken : DoorKept false [] (s.setTerm (fun t => { t with
      debounced := t.debounced.set i (s.rawActive i), debounceDue := t.debounceDue.set i none })) :=
    h.of_touches (setTerm_inputs_touches (·.set i (s.rawActive i)) (·.set i none) s)
  have locked (x : State) (hx : DoorKept false [] x) : DoorKept false [] x.doorLockedChange :=
    (hx.lockClosing.of_touches (judgeOpenMoving_touches _)).judgeRise
  unfold State.debounce State.inputChanged
  dsimp only
  rw [taken.car]
  split
  case h_9 | h_10 => exact locked _ taken
  case h_11 =>
    split
    · exact taken.doorButton
    · exact taken
  case h_12 =>
    split
    · exact taken.raise _ _
    · exact taken
  case h_17 => exact taken
  all_goals contradiction

end DoorKept

/-- Every command of a running CAR keeps its sides (R139 to R152). -/
theorem effect_doorKept {c : Instr} {n : State} (hc : isResetCommand c = false)
    (h : DoorKept false [] n) : DoorKept false [] (effect c n) := by
  cases hm : movesKeys c with
  | false => exact h.of_touches (effect_quiet hc hm n)
  | true =>
    unfold effect
    split
    case h_5 => rw [starting_of_not_running h.running]; exact h
    case h_6 =>
      split
      · exact ⟨rfl, h.car, h.still, h.braked, h.shown, h.alone, h.flagged⟩
      · exact h
    case h_9 =>
      split
      · exact h.sample _
      · exact h
    case h_10 | h_11 =>
      refine h.onLatestSample fun _ => ?_
      split
      · exact h.of_touches (judgeLoss_parts _ _ n)
      · exact h
    case h_12 =>
      refine h.onLatestSample fun _ => ?_
      split
      · exact h.of_touches (judgeDisagree_parts _ n)
      · exact h
    case h_13 =>
      refine h.onLatestSample fun _ => ?_
      split
      · exact h.of_touches (judgeAgree_parts _ n)
      · exact h
    case h_14 =>
      exact h.onLatestSample fun _ =>
        h.standing (judgeStandstill_touches _ n) (judgeStandstill_rises _ n)
    case h_15 => exact h.onLatestSample fun _ => h.of_touches (judgeSlip_touches _ n)
    case h_19 => exact h.bitError _
    case h_20 => exact h.sent
    case h_24 =>
      split
      · rw [redecide_of_not_gate (by rw [h.takeOne.car]; decide)]
        exact h.takeOne
      · exact h
    case h_26 =>
      split
      · exact h.goStale _
      · exact h
    case h_27 =>
      split
      · exact h.goLost _
      · exact h
    case h_28 =>
      split
      · split
        · exact h.judgeProof _
        · exact h
      · exact h
    case h_30 =>
      split
      · exact h.debounce _
      · exact h
    case h_35 =>
      split
      · exact h.repeatExpiry
      · exact h
    case h_36 =>
      split
      · exact (h.judgeHold h.evacuation_still).lockClosing
      · exact h
    case h_37 => exact h.of_touches (.ite (fun _ => discardExpiry_touches n) (fun _ => .refl _ _))
    case h_38 | h_40 =>
      rw [readsReader_of_not_gate (by rw [h.car]; decide)]
      exact h
    case h_41 => exact h.of_touches (.ite (fun _ => holdTimeout_touches n) (fun _ => .refl _ _))
    case h_42 => exact h.of_touches (.ite (fun _ => passageTimeout_touches n) (fun _ => .refl _ _))
    case h_46 | h_47 | h_48 | h_49 | h_50 | h_51 | h_52 | h_53 =>
      exact h.owing (command_touches _ n) fun b _ => berthSummary_command _ n b
    case h_1 | h_2 | h_3 | h_4 => exact Bool.noConfusion hc
    all_goals exact Bool.noConfusion hm

end Sys2Proof.Machine
end


section
/-! # The door law, and the laws of the device together (O6) -/

namespace Sys2Proof.Machine

open Sys2Proof

/-- Of a running CAR the door law says that its sides are kept, with nothing owed. -/
theorem doorKept_of_law {s : State} (h : DoorLaw s) (hrun : s.running = true) (hcar : s.role = .car) :
    DoorKept false [] s := by
  obtain ⟨-, running⟩ := h
  obtain ⟨asked, alone, flagged⟩ := running hrun hcar
  have mem (d : Side) : d ∈ [Side.left, .right] := by cases d <;> decide
  refine ⟨hrun, hcar, fun _ d ha => (asked d (mem d) ha).1, fun d hs => ?_, fun d hs hc => .inl ?_,
    fun d d' hs => ?_, fun d d' hf => ?_⟩
  · obtain ⟨-, ⟨hrel, -⟩ | ⟨-, hlevel⟩⟩ :=
      asked d (mem d) ((releaseAsked_iff s d).mpr (.inr hs))
    · exact nomatch hs.symm.trans hrel
    · exact hlevel
  · obtain ⟨-, ⟨-, hshown⟩ | ⟨hev, -⟩⟩ :=
      asked d (mem d) ((releaseAsked_iff s d).mpr (.inl ⟨hs, hc⟩))
    · exact hshown
    · exact nomatch hs.symm.trans hev
  · exact (anySide_eq_false_iff s _).mp (alone ((anySide_iff s _).mpr ⟨d, hs⟩)) d'
  · obtain ⟨released, requesting⟩ := flagged d (mem d) hf
    exact ⟨(anySide_eq_false_iff s _).mp released d', (anySide_eq_false_iff s _).mp requesting d'⟩

theorem DoorKept.law {s : State} (h : DoorKept false [] s) : DoorLaw s := by
  refine ⟨fun hrun => absurd (hrun.symm.trans h.running) nofun, fun _ _ => ⟨fun d _ ha => ?_, fun hr => ?_,
    fun d _ hf => ?_⟩⟩
  · refine ⟨h.still rfl d ha, ?_⟩
    rcases (releaseAsked_iff s d).mp ha with ⟨hs, hc⟩ | hs
    · rcases h.shown d hs hc with hshown | ⟨_, -, hb⟩
      · exact .inl ⟨hs, hshown⟩
      · cases hb
    · exact .inr ⟨hs, h.braked d hs⟩
  · obtain ⟨d, hd⟩ := (anySide_iff s _).mp hr
    exact (anySide_eq_false_iff s _).mpr fun d' => h.alone d d' hd
  · exact ⟨(anySide_eq_false_iff s _).mpr fun d' => (h.flagged d d' hf).1,
      (anySide_eq_false_iff s _).mpr fun d' => (h.flagged d d' hf).2⟩

/-- Outside the running states both sides are at rest. -/
def SidesRest (s : State) : Prop :=
  ∀ d, (s.side d).state = .locked ∧ (s.side d).withdrawAtLock = false

theorem SidesRest.of_touches {X : List Part} {s t : State} (h : SidesRest s) (ht : Touches X s t)
    (hX : Part.sides ∉ X := by decide) : SidesRest t := fun d => side_eq_of_touches ht hX d ▸ h d

theorem RestsAs.sidesRest {s t : State} (h : RestsAs s t) (hs : SidesRest s) : SidesRest t := fun d => by
  cases d with
  | left => exact (show t.side .left = s.side .left from h.left) ▸ hs .left
  | right => exact (show t.side .right = s.side .right from h.right) ▸ hs .right

/-- LISTENING finds the sides of a CAR at rest, and keeps them (R154, R184). -/
theorem enterListening_doorKept {x : State} (h : SidesRest x) (hcar : x.role = .car)
    (reading : BitVec 16) : DoorKept false [] (x.enterListening reading) := by
  have rests : DoorKept false [] { x with
      phase := .configured .listening, listenDue := some (x.after 500) } := .of_locked rfl hcar h
  have started := ((rests.raise .start 2).of_touches (queueAllStates_touches _)).of_touches
    (startDebounce_touches _)
  unfold State.enterListening State.raiseStart
  exact started.sample reading

theorem enterListening_role (x : State) (reading : BitVec 16) :
    (x.enterListening reading).role = x.role := by
  have entered : Touches [.phase, .listenDue] x { x with
      phase := .configured .listening, listenDue := some (x.after 500) } := fun p hp => by
    cases p <;> first | rfl | exact absurd (by decide) hp
  exact ((((entered.comp (raise_touches .start 2 _)).comp (queueAllStates_touches _)).comp
    (startDebounce_touches _)).comp (sample_touches reading _)).role_eq

/-- An accepted image starts a CAR with its sides at rest (R154, R184). -/
theorem configRead_doorKept {s : State} {i : Image} {reading : BitVec 16} (h : SidesRest s)
    (hrun : (s.configRead i reading).running = true) (hcar : (s.configRead i reading).role = .car) :
    DoorKept false [] (s.configRead i reading) := by
  have fault (f : CheckFailure) : (s.enterConfigFault f).running = false :=
    (raise_touches_of_not_running (s := { s with
      phase := .configured .configFault, failure := some f }) rfl .start 2).running_eq
  unfold State.configRead at hrun hcar ⊢
  split
  · next id hc hi =>
    rw [hc, hi] at hcar
    exact enterListening_doorKept (h.of_touches (takeConfig_touches (imageConfig i id) s))
      ((enterListening_role _ reading).symm.trans hcar) reading
  · next f hc =>
    rw [hc] at hrun
    exact absurd (hrun.symm.trans (fault _)) (by decide)
  · next hc hi =>
    rw [hc, hi] at hrun
    exact absurd (hrun.symm.trans (fault _)) (by decide)

/-- An address conflict finds the sides of a unit that did not run at rest (R58, R154). -/
theorem bitError_doorKept {s : State} {field : BitField} (h : SidesRest s) (hrest : s.running = false)
    (hrun : (s.bitError field).running = true) (hcar : (s.bitError field).role = .car) :
    DoorKept false [] (s.bitError field) := by
  rcases bitError_cases field s with ht | ⟨x, hx, he⟩
  · exact absurd (hrest.symm.trans (ht.running_eq.symm.trans hrun)) nofun
  · rw [he] at hcar ⊢
    have role := (enterConflict_touches x).role_eq
    exact DoorKept.enterConflict (.of_locked rfl (role.symm.trans hcar) (SidesRest.of_touches
      (s := x) (h.of_touches hx) (setPhase_touches (.configured .addressConflict) x)))

/-- Every command but a reset keeps the door law (R139 to R152, R154). -/
theorem effect_doorLaw {c : Instr} {n : State} (hc : isResetCommand c = false) (h : DoorLaw n) :
    DoorLaw (effect c n) := by
  have rests (hrun : n.running = false) : SidesRest n := fun d =>
    h.1 hrun d (by cases d <;> decide)
  cases ht : (effect c n).running with
  | false =>
    refine ⟨fun _ d _ => ?_, fun hrun => absurd (ht.symm.trans hrun) nofun⟩
    cases hrun : n.running with
    | true => exact absurd ((effect_runsOn hc hrun).running.symm.trans ht) (by rw [hrun]; decide)
    | false => exact (effect_restsAs hc hrun ht).sidesRest (rests hrun) d
  | true =>
    by_cases hcar : (effect c n).role = .car
    · refine DoorKept.law ?_
      rcases effect_running_cases hc ht with ⟨hrun, hsame⟩ | ⟨hrun, ⟨i, reading, he⟩ | ⟨field, he⟩⟩
      · exact effect_doorKept hc (doorKept_of_law h hrun (hsame.symm.trans hcar))
      · rw [he] at ht hcar ⊢
        exact configRead_doorKept (rests hrun) ht hcar
      · rw [he] at ht hcar ⊢
        exact bitError_doorKept (rests hrun) hrun ht hcar
    · exact ⟨fun hrun => absurd (ht.symm.trans hrun) nofun, fun _ hrole => absurd hrole hcar⟩

/-! ## The four laws over a step -/

/-- The parts that the laws of the doors, the grant and the gate read. -/
def lawParts : List Part :=
  [.phase, .cfg, .sides, .standstill, .peers, .effective, .grant, .debounced, .ticket, .places]

theorem DoorLaw.of_touches {X : List Part} {s t : State} (h : DoorLaw s) (ht : Touches X s t)
    (hX : ∀ p ∈ lawParts, p ∉ X) : DoorLaw t := by
  have running := ht.running_eq (hX _ (by decide))
  by_cases hcar : s.running = true ∧ s.role = .car
  · exact ((doorKept_of_law h hcar.1 hcar.2).of_touches ht fun p hp =>
      hX p (by revert p; decide)).law
  · refine ⟨fun hrun d hd => ?_, fun hrun hrole => ?_⟩
    · rw [side_eq_of_touches ht (hX _ (by decide))]
      exact h.1 (running.symm.trans hrun) d hd
    · exact absurd ⟨running.symm.trans hrun, (ht.role_eq (hX _ (by decide))).symm.trans hrole⟩ hcar

theorem GrantLaw.of_touches {X : List Part} {s t : State} (h : GrantLaw s) (ht : Touches X s t)
    (hX : ∀ p ∈ lawParts, p ∉ X) : GrantLaw t := by
  have running := ht.running_eq (hX _ (by decide))
  have grant := ht.grant_eq (hX _ (by decide))
  unfold GrantLaw
  rw [running, grant, ht.role_eq (hX _ (by decide)),
    presenceInput_congr (ht .debounced (hX _ (by decide)))]
  exact h

theorem GateLaw.of_touches {X : List Part} {s t : State} (h : GateLaw s) (ht : Touches X s t)
    (hX : ∀ p ∈ lawParts, p ∉ X) : GateLaw t := by
  have running := ht.running_eq (hX _ (by decide))
  have ticket := ht.ticket_eq (hX _ (by decide))
  unfold GateLaw BoardingCycle.unannouncedPlaces
  rw [running, ht.role_eq (hX _ (by decide)), awaitedPlaces_congr ticket, ticket,
    ht.pending_eq (hX _ (by decide)), ht.unannounced_eq (hX _ (by decide)),
    allowance_congr (ht.conf_eq (hX _ (by decide)))]
  exact h

/-- A law of those parts that a reset gives and every other command keeps is kept by every command. -/
theorem exec_keeps_law {P : State → Prop}
    (hreset : ∀ pending phase pin raw records,
      phase = .starting ∨ phase = .inReset ∨ phase = .unpowered →
        P (State.afterReset pending phase pin raw records))
    (htouch : ∀ {X : List Part} {s t : State}, P s → Touches X s t → (∀ p ∈ lawParts, p ∉ X) → P t)
    (heffect : ∀ {c : Instr} {n : State}, isResetCommand c = false → P n → P (effect c n))
    {c : Instr} {s t : State} (h : P s) (ht : exec c s = .next t) : P t := by
  have before : P (s.advance (commandTime c)) := htouch h (advance_touches _ _) (by decide)
  cases hc : isResetCommand c with
  | false =>
    rw [exec_of_not_reset hc] at ht
    cases ht
    exact htouch (heffect hc before) (settle_touches _) (by decide)
  | true =>
    rw [exec_of_reset hc] at ht
    cases ht
    have outcome := after_of_reset hc s
    generalize after c s = t at outcome
    cases outcome with
    | values _ _ _ _ hphase => exact hreset _ _ _ _ _ hphase
    | pin pin =>
      refine htouch (X := [.resetPin]) before (fun p hp => ?_) (by decide)
      cases p <;> first | rfl | exact absurd (by decide) hp

/-- The same of a step, which leaves the waiting commands out of account. -/
theorem step_keeps_law {P : State → Prop}
    (htouch : ∀ {X : List Part} {s t : State}, P s → Touches X s t → (∀ p ∈ lawParts, p ∉ X) → P t)
    (hexec : ∀ {c : Instr} {s t : State}, P s → exec c s = .next t → P t)
    {s t : State} (h : P s) (ht : step s = .next t) : P t := by
  rcases step_cases ht with ⟨-, rfl⟩ | ⟨c, rest, -, hc⟩
  · exact h
  · exact hexec (htouch h (pending_touches s rest) (by decide)) hc

theorem exec_keeps_outputLaw {c : Instr} {s t : State} (h : OutputLaw s) (ht : exec c s = .next t) :
    OutputLaw t := by
  cases hc : isResetCommand c with
  | false =>
    rw [exec_of_not_reset hc] at ht
    cases ht
    exact settle_outputLaw _
  | true =>
    rw [exec_of_reset hc] at ht
    cases ht
    have outcome := after_of_reset hc s
    generalize after c s = t at outcome
    cases outcome with
    | values _ _ _ _ hphase =>
      refine ⟨rfl, rfl, ?_⟩
      rcases hphase with rfl | rfl | rfl <;> rfl
    | pin pin => exact h

theorem step_keeps_outputLaw {s t : State} (h : OutputLaw s) (ht : step s = .next t) :
    OutputLaw t := by
  rcases step_cases ht with ⟨-, rfl⟩ | ⟨c, rest, -, hc⟩
  · exact h
  · exact exec_keeps_outputLaw (s := { s with pending := rest }) h hc

theorem afterReset_not_running {pending : List Instr} {phase : Phase} {pin : Bool} {raw : List Bool}
    {records : List BrakeRecord} (h : phase = .starting ∨ phase = .inReset ∨ phase = .unpowered) :
    (State.afterReset pending phase pin raw records).running = false := by
  rcases h with rfl | rfl | rfl <;> rfl

/-- Settles O6. -/
theorem stepKeepsOutputLaw : Obligations.StepKeepsOutputLaw := by
  have stopped {pending : List Instr} {phase : Phase} {pin : Bool} {raw : List Bool}
      {records : List BrakeRecord} (h : phase = .starting ∨ phase = .inReset ∨ phase = .unpowered)
      {q : Prop} (hrun : (State.afterReset pending phase pin raw records).running = true) : q :=
    absurd ((afterReset_not_running h).symm.trans hrun) nofun
  intro s t ht
  refine ⟨fun h => step_keeps_outputLaw h ht, fun h => ?_, fun h => ?_, fun h => ?_⟩
  · refine step_keeps_law .of_touches (exec_keeps_law (P := DoorLaw)
      (fun _ _ _ _ _ hp => ⟨fun _ d _ => ?_, stopped hp⟩) .of_touches effect_doorLaw) h ht
    cases d <;> exact ⟨rfl, rfl⟩
  · exact step_keeps_law .of_touches (exec_keeps_law (P := GrantLaw)
      (fun _ _ _ _ _ hp => ⟨fun _ => rfl, stopped hp⟩) .of_touches effect_grantLaw) h ht
  · exact step_keeps_law .of_touches (exec_keeps_law (P := GateLaw)
      (fun _ _ _ _ _ hp => ⟨fun _ => ⟨rfl, rfl, rfl⟩, stopped hp⟩) .of_touches effect_gateLaw) h ht

end Sys2Proof.Machine
end


section
/-! # The setpoint of a sample in RUNNING, RECOVERY and HOLDING (O27, R126, R127, R131) -/

namespace Sys2Proof.Machine

open Sys2Proof

theorem signedSetpoint_eq (d : Direction) (m : Nat) :
    signedSetpoint d m = if d = .up then (m : Int) else -(m : Int) := by
  cases d <;> rfl

theorem signedSetpoint_natAbs (d : Direction) (m : Nat) : (signedSetpoint d m).natAbs = m := by
  cases d
  · exact Int.natAbs_natCast m
  · exact (Int.natAbs_neg _).trans (Int.natAbs_natCast m)

/-- The held setpoint of a sample: the cap, the previous magnitude raised where nothing warns, and v_perm
(R126). -/
theorem runSetpoint_eq {s : State} {w : SupervisionResult} (hw : s.sup.result = some w)
    (r : TripRecord) : s.runSetpoint r =
      min (min (s.speedCap r * 1000) (if s.sup.warning = true then s.trip.setpoint.natAbs
        else s.trip.setpoint.natAbs + s.derate r
          (s.conf.setConstants (if r.set = 1 ∨ r.pending = true then 1 else 0)).accel *
            s.conf.samplePeriod)) (w.vPerm * 1000) := by
  unfold State.runSetpoint State.permitted
  rw [hw]
  dsimp only
  split <;> rfl

/-- The run of a trip to its target goes on while none of the three ends is met (R127). -/
theorem runEnds_target_iff {s : State} {r : TripRecord} {k : Nat} (ht : r.target = some k) :
    s.runEnds r = true ↔ s.dStop k r.direction ≤ s.k .stopTolerance ∨
      (s.dStop k r.direction ≤ s.k .creepDistance ∧ s.presenceAt k = true) ∨
        s.trip.setpoint = 0 := by
  unfold State.runEnds
  rw [ht]
  simp only [Bool.or_eq_true, Bool.and_eq_true, decide_eq_true_eq, beq_iff_eq, or_assoc]

/-- A trip without a target runs while no stop matches (R131). -/
theorem runEnds_untargeted_iff {s : State} {r : TripRecord} (ht : r.target = none) :
    s.runEnds r = true ↔ s.matchingStops ≠ [] := by
  unfold State.runEnds
  rw [ht]
  simp

/-- The state of a sample in RUNNING with its setpoint formed. -/
def State.runFormed (r : TripRecord) (s : State) : State :=
  s.setTrip ({ · with setpoint := signedSetpoint r.direction (s.runSetpoint r) })

theorem runSample_ends {s : State} {r : TripRecord} (ht : s.trip.trip = some r)
    (h : (s.runFormed r).runEnds r = true) :
    s.runSample = s.setTrip ({ · with haulage := .stopping, setpoint := 0 }) := by
  unfold State.runSample
  rw [ht]
  exact if_pos h

theorem runSample_goes_on {s : State} {r : TripRecord} (ht : s.trip.trip = some r)
    (h : ¬(s.runFormed r).runEnds r = true) : s.runSample = s.runFormed r := by
  unfold State.runSample
  rw [ht]
  exact if_neg h

/-- Near its target a trip creeps (R126). -/
theorem speedCap_creeps {s : State} {r : TripRecord} {k : Nat} (ht : r.target = some k)
    (h : s.dStop k r.direction ≤ s.k .creepDistance) : s.speedCap r = s.k .vCreep := by
  unfold State.speedCap
  rw [ht]
  exact if_pos h

/-- Elsewhere the cap is the least of its terms (R126). -/
theorem speedCap_least {s : State} {r : TripRecord} {k : Nat} (ht : r.target = some k)
    (h : ¬s.dStop k r.direction ≤ s.k .creepDistance) :
    let set := if r.set = 1 ∨ r.pending = true then 1 else 0
    let c := s.conf.setConstants set
    s.speedCap r ≤ s.tripCruise r ∧
      s.speedCap r ≤ curve (s.k .vCreep) c.service
        (s.dStop k r.direction - s.k .creepDistance).toNat ∧
      s.speedCap r ≤ (segmentAt s.prof.merged s.meas.h).limit set ∧
      (∀ p ∈ segmentPoints s.prof.merged set s.meas.h r.direction,
        s.speedCap r ≤ curve p.2 c.service (distance p.1 s.meas.h - s.meas.u)) ∧
      (s.speedCap r = s.tripCruise r ∨
        s.speedCap r = curve (s.k .vCreep) c.service
          (s.dStop k r.direction - s.k .creepDistance).toNat ∨
        s.speedCap r = (segmentAt s.prof.merged s.meas.h).limit set ∨
        ∃ p ∈ segmentPoints s.prof.merged set s.meas.h r.direction,
          s.speedCap r = curve p.2 c.service (distance p.1 s.meas.h - s.meas.u)) := by
  intro set c
  have cap : s.speedCap r = min (min (s.tripCruise r) (curve (s.k .vCreep) c.service
      (s.dStop k r.direction - s.k .creepDistance).toNat))
      (leastCurve ((segmentAt s.prof.merged s.meas.h).limit set) c.service s.meas.h s.meas.u
        (segmentPoints s.prof.merged set s.meas.h r.direction)) := by
    unfold State.speedCap
    rw [ht]
    exact if_neg h
  obtain ⟨bound, points, attained⟩ := foldl_min_least
    (fun p : Nat × Nat => curve p.2 c.service (distance p.1 s.meas.h - s.meas.u))
    (segmentPoints s.prof.merged set s.meas.h r.direction)
    ((segmentAt s.prof.merged s.meas.h).limit set)
  rw [cap]
  generalize s.tripCruise r = cruise
  generalize curve (s.k .vCreep) _ _ = creep
  have below : min (min cruise creep) (leastCurve ((segmentAt s.prof.merged s.meas.h).limit set)
      c.service s.meas.h s.meas.u (segmentPoints s.prof.merged set s.meas.h r.direction)) ≤
      leastCurve ((segmentAt s.prof.merged s.meas.h).limit set)
        c.service s.meas.h s.meas.u (segmentPoints s.prof.merged set s.meas.h r.direction) :=
    Nat.min_le_right _ _
  refine ⟨(Nat.min_le_left _ _).trans (Nat.min_le_left _ _),
    (Nat.min_le_left _ _).trans (Nat.min_le_right _ _), below.trans bound,
    fun p hp => below.trans (points p hp), ?_⟩
  rcases min_choice (min cruise creep) (leastCurve _ c.service s.meas.h s.meas.u _) with he | he
  · rcases min_choice cruise creep with hc | hc
    · exact .inl (he.trans hc)
    · exact .inr (.inl (he.trans hc))
  · rcases attained with ha | ⟨p, hp, ha⟩
    · exact .inr (.inr (.inl (he.trans ha)))
    · exact .inr (.inr (.inr ⟨p, hp, he.trans ha⟩))

/-- A trip without a target goes at the recovery speed within the line minimum (R131). -/
theorem speedCap_untargeted {s : State} {r : TripRecord} (ht : r.target = none) : s.speedCap r =
    min (s.tripCruise r)
      (lineMinimum s.prof.merged (if r.set = 1 ∨ r.pending = true then 1 else 0)) := by
  unfold State.speedCap
  rw [ht]
  rfl

theorem holdSample_moving {s : State} {r : TripRecord} {w : SupervisionResult}
    (ht : s.trip.trip = some r) (hw : s.sup.result = some w) (h : s.meas.standstill = false) :
    s.holdSample = s.setTrip (fun t => { t with
      setpoint := signedSetpoint r.direction (min (s.trip.setpoint.natAbs -
        (s.conf.setConstants (if r.set = 1 ∨ r.pending = true then 1 else 0)).service *
          s.conf.samplePeriod) (w.vPerm * 1000)) }) := by
  unfold State.holdSample State.permitted
  rw [h, ht, hw]
  rfl

theorem holdSample_standing {s : State} (h : s.meas.standstill = true) :
    s.holdSample = s.standHolding := if_pos h

/-- The setpoint without a target, as O27 says it. -/
theorem runs_untargeted {s : State} {r : TripRecord} {w : SupervisionResult}
    (ht : s.trip.trip = some r) (htarget : r.target = none) (hw : s.sup.result = some w) :
    let set := if r.set = 1 ∨ r.pending = true then 1 else 0
    let cap := s.speedCap r
    let previous := s.trip.setpoint.natAbs
    let risen := previous + s.derate r (s.conf.setConstants set).accel * s.conf.samplePeriod
    let magnitude := min (min (cap * 1000) (if s.sup.warning = true then previous else risen))
      (w.vPerm * 1000)
    let signed : Int := if r.direction = .up then magnitude else -magnitude
    cap = min (s.tripCruise r) (lineMinimum s.prof.merged set) ∧
    (r.recovery = true → s.tripCruise r = s.k .recoverySpeed) ∧
    (s.matchingStops ≠ [] →
      s.runSample = s.setTrip ({ · with haulage := .stopping, setpoint := 0 })) ∧
    (s.matchingStops = [] → s.runSample = s.setTrip ({ · with setpoint := signed })) := by
  intro set cap previous risen magnitude signed
  have formed : s.runFormed r = s.setTrip ({ · with setpoint := signed }) := by
    unfold State.runFormed
    rw [runSetpoint_eq hw, signedSetpoint_eq]
  have ends := runEnds_untargeted_iff (s := s.runFormed r) htarget
  refine ⟨speedCap_untargeted htarget, fun hr => if_pos hr, fun hm => ?_, fun hm => ?_⟩
  · exact runSample_ends ht (ends.mpr hm)
  · rw [runSample_goes_on ht (fun h => ends.mp h hm), formed]

/-- The setpoint toward a target, and in HOLDING, as O27 says it. -/
theorem runs_to_target {s : State} {r : TripRecord} {k : Nat} {w : SupervisionResult}
    (ht : s.trip.trip = some r) (htarget : r.target = some k) (hw : s.sup.result = some w) :
    let set := if r.set = 1 ∨ r.pending = true then 1 else 0
    let c := s.conf.setConstants set
    let d := s.dStop k r.direction
    let cap := s.speedCap r
    let previous := s.trip.setpoint.natAbs
    let risen := previous + s.derate r c.accel * s.conf.samplePeriod
    let magnitude := min (min (cap * 1000) (if s.sup.warning = true then previous else risen))
      (w.vPerm * 1000)
    let ends := d ≤ s.k .stopTolerance ∨ (d ≤ s.k .creepDistance ∧ s.presenceAt k = true) ∨
      magnitude = 0
    let signed : Int := if r.direction = .up then magnitude else -magnitude
    (d ≤ s.k .creepDistance → cap = s.k .vCreep) ∧
    (s.k .creepDistance < d → cap ≤ s.tripCruise r ∧
      cap ≤ curve (s.k .vCreep) c.service (d - s.k .creepDistance).toNat ∧
      cap ≤ (segmentAt s.prof.merged s.meas.h).limit set ∧
      (∀ p ∈ segmentPoints s.prof.merged set s.meas.h r.direction,
        cap ≤ curve p.2 c.service (distance p.1 s.meas.h - s.meas.u)) ∧
      (cap = s.tripCruise r ∨
        cap = curve (s.k .vCreep) c.service (d - s.k .creepDistance).toNat ∨
        cap = (segmentAt s.prof.merged s.meas.h).limit set ∨
        ∃ p ∈ segmentPoints s.prof.merged set s.meas.h r.direction,
          cap = curve p.2 c.service (distance p.1 s.meas.h - s.meas.u))) ∧
    (ends → s.runSample = s.setTrip ({ · with haulage := .stopping, setpoint := 0 })) ∧
    (¬ends → s.runSample = s.setTrip ({ · with setpoint := signed })) ∧
    (s.meas.standstill = false →
      (s.holdSample).trip.setpoint.natAbs =
        min (previous - c.service * s.conf.samplePeriod) (w.vPerm * 1000)) ∧
    (s.meas.standstill = true → s.holdSample = s.setTrip ({ · with
      haulage := .holding, setpoint := 0, askService := false, askEnable := false })) := by
  intro set c d cap previous risen magnitude ends signed
  have formed : s.runFormed r = s.setTrip ({ · with setpoint := signed }) := by
    unfold State.runFormed
    rw [runSetpoint_eq hw, signedSetpoint_eq]
  have zero : (s.runFormed r).trip.setpoint = 0 ↔ magnitude = 0 := by
    show signedSetpoint r.direction (s.runSetpoint r) = 0 ↔ _
    rw [← Int.natAbs_eq_zero, signedSetpoint_natAbs, runSetpoint_eq hw]
  have ends_iff : (s.runFormed r).runEnds r = true ↔ ends :=
    (runEnds_target_iff (s := s.runFormed r) htarget).trans
      (or_congr Iff.rfl (or_congr Iff.rfl zero))
  refine ⟨fun h => speedCap_creeps htarget h, fun h => speedCap_least htarget (Int.not_le.mpr h),
    fun h => runSample_ends ht (ends_iff.mpr h), fun h => ?_, fun h => ?_, fun h => ?_⟩
  · rw [runSample_goes_on ht fun he => h (ends_iff.mp he), formed]
  · rw [holdSample_moving ht hw h]
    exact signedSetpoint_natAbs _ _
  · exact holdSample_standing h

end Sys2Proof.Machine
end


section
/-! # What a supervision sample judges (O27, R77 to R95) -/

namespace Sys2Proof.Machine

open Sys2Proof

/-! ## The stages of the sample -/

/-- The state in which the sample is judged: set, authority and timers are renewed (R78, R90 to R92). -/
def State.judgedInputs (s : State) : State := s.supervisionInputs.supervisionTimers

/-- The result of the sample (R83). -/
def State.judgedResult (s : State) : SupervisionResult :=
  s.judgedInputs.sampleResult s.judgedInputs.sampleSetNumber

/-- The causes present at the sample (R85 to R95). -/
def State.judgedCauses (s : State) : List Cause :=
  (s.judgedInputs.takeResult s.judgedResult).presentCauses s.judgedResult

theorem supervisionSample_eq (s : State) : s.supervisionSample =
    (s.judgedInputs.takeResult s.judgedResult).takePresent s.judgedCauses := rfl

theorem takeResult_sup (r : SupervisionResult) (s : State) : (s.takeResult r).sup =
    { s.sup with result := some r, warning := decide (r.w < s.absV) } := by
  unfold State.takeResult
  dsimp only
  split <;> rfl

theorem takePresent_sup (l : List Cause) (s : State) :
    (s.takePresent l).sup = { s.sup with present := l } := by
  have raised (l : List Cause) (x : State) :
      (l.foldl (fun t c => t.raiseCause c) x).sup = x.sup :=
    (Touches.foldl (fun t c => raiseCause_touches c t) l x).sup_eq (by decide)
  exact raised _ _

theorem supervisionSample_sup (s : State) : s.supervisionSample.sup = { s.judgedInputs.sup with
    result := some s.judgedResult
    warning := decide (s.judgedResult.w < s.judgedInputs.absV)
    present := s.judgedCauses } := by
  rw [supervisionSample_eq, takePresent_sup, takeResult_sup]

/-- What the inputs of a sample can touch. -/
def inputParts : List Part := [.setInForce, .authority, .trip, .requeue, .queue, .counts]

theorem supervisionInputs_parts (s : State) : Touches inputParts s s.supervisionInputs := by
  unfold State.supervisionInputs
  split
  · have authority (x : State) : Touches [.authority] x
        (x.setSup ({ · with authority := x.carAuthority })) := fun p hp => by
      cases p <;> first | rfl | exact absurd (by decide) hp
    exact ((sampleSet_touches s).comp (authority _)).mono (by decide)
  · exact (judgeDeclaration_touches s).mono (by decide)

theorem judgedInputs_parts (s : State) :
    Touches (.supervision :: inputParts) s s.judgedInputs := by
  have timed (x : State) : Touches [.supervision] x x.supervisionTimers := fun p hp => by
    cases p <;> first | rfl | exact absurd (by decide) hp
  exact ((supervisionInputs_parts s).comp (timed _)).mono (by decide)

theorem supervisionInputs_sup (s : State) :
    s.supervisionInputs.sup = { s.sup with authority := s.supervisionInputs.sup.authority } := by
  unfold State.supervisionInputs
  split
  · rw [State.setSup_sup, (sampleSet_touches s).sup_eq (by decide)]
  · rw [(judgeDeclaration_touches s).sup_eq (by decide)]

theorem meas_of_judged (s : State) : s.judgedInputs.meas = s.meas :=
  (judgedInputs_parts s).meas_eq (by decide)

theorem absV_of_judged (s : State) : s.judgedInputs.absV = s.absV := by
  unfold State.absV
  rw [meas_of_judged]

/-- The authority, the last direction, the arming and the rope-slip timer of the sample (R78, R91, R92). -/
theorem judgedInputs_sup (s : State) : s.judgedInputs.sup = { s.sup with
    authority := s.supervisionInputs.sup.authority
    lastDir := if 20 ≤ s.absV then (if 0 < s.meas.v then .up else .down) else s.sup.lastDir
    armed := s.sup.armed || s.meas.standstill || decide (20 ≤ s.absV)
    slipSince := if s.role == .car && s.slipping then some (s.sup.slipSince.getD s.clock)
      else none } := by
  have inputs := supervisionInputs_parts s
  have meas : s.supervisionInputs.meas = s.meas := inputs.meas_eq (by decide)
  have slipping : s.supervisionInputs.slipping = s.slipping := by
    unfold State.slipping
    rw [driveMotion_congr inputs.peers_eq, meas, inputs.k_eq]
  unfold State.judgedInputs State.supervisionTimers State.absV
  rw [State.setSup_sup, meas, inputs.role_eq, slipping, inputs.clock_eq, supervisionInputs_sup]

theorem haulage_of_judged (s : State) : s.judgedInputs.trip.haulage = s.trip.haulage :=
  supervisionInputs_haulage s

/-! ## The causes present (R85 to R95) -/

theorem mem_filterMap_fst {α : Type} {l : List (Bool × α)} {a : α} :
    a ∈ (l.filter (·.1)).map (·.2) ↔ (true, a) ∈ l := by
  rw [List.mem_map]
  constructor
  · rintro ⟨⟨b, c⟩, hm, rfl⟩
    obtain ⟨hl, rfl⟩ := List.mem_filter.mp hm
    exact hl
  · exact fun h => ⟨(true, a), List.mem_filter.mpr ⟨h, rfl⟩, rfl⟩

variable {s : State} {r : SupervisionResult}

theorem mem_presentCauses (c : Cause) : c ∈ s.presentCauses r ↔
    (true, c) ∈ [(decide (r.s < s.absV), Cause.overspeedService),
      (decide (r.e < s.absV), .overspeedSafety),
      (decide (r.t < s.absV), .overspeedTrack),
      (s.overrun, .overrun),
      (s.rollback, .rollback),
      (s.role == .car && ranFor s.sup.slipSince s.clock (s.k .slipTime), .ropeSlip),
      (s.role == .car && s.positionDisagree, .positionDisagree),
      (s.role == .car && (s.sup.armed && !s.meas.standstill) && (s.fresh .drive).isNone,
        .driveSilent),
      (!(s.role == .car) && (s.sup.armed && !s.meas.standstill) &&
        !(s.carFresh .a && s.carFresh .b), .carSilent)] := mem_filterMap_fst

theorem overspeedService_present : .overspeedService ∈ s.presentCauses r ↔ r.s < s.absV := by
  rw [mem_presentCauses]
  simp

theorem overspeedSafety_present : .overspeedSafety ∈ s.presentCauses r ↔ r.e < s.absV := by
  rw [mem_presentCauses]
  simp

theorem overspeedTrack_present : .overspeedTrack ∈ s.presentCauses r ↔ r.t < s.absV := by
  rw [mem_presentCauses]
  simp

theorem overrun_present : .overrun ∈ s.presentCauses r ↔ ∃ a, s.sup.authority = some a ∧
    s.meas.known = true ∧ (a.direction = .up ∧ a.hEnd < s.meas.h ∨
      a.direction = .down ∧ s.meas.h < a.hEnd) := by
  have judged : .overrun ∈ s.presentCauses r ↔ s.overrun = true := by
    rw [mem_presentCauses]
    simp
  rw [judged]
  unfold State.overrun
  cases s.sup.authority with
  | none => simp
  | some a => cases hd : a.direction <;> simp [hd]

theorem rollback_present : .rollback ∈ s.presentCauses r ↔
    if s.role = .drive ∧ s.trip.haulage = .parked then 20 < s.absV
    else ∃ a, s.sup.authority = some a ∧ s.k .rollbackTolerance < s.absV ∧
      (a.direction = .up ∧ s.meas.v < 0 ∨ a.direction = .down ∧ 0 < s.meas.v) := by
  have judged : .rollback ∈ s.presentCauses r ↔ s.rollback = true := by
    rw [mem_presentCauses]
    simp
  rw [judged]
  unfold State.rollback
  by_cases hp : s.role = .drive ∧ s.trip.haulage = .parked
  · rw [if_pos hp, if_pos (by simp [hp]), decide_eq_true_eq]
  · rw [if_neg hp, if_neg (by simpa using hp)]
    cases s.sup.authority with
    | none => simp
    | some a => cases hd : a.direction <;> simp [hd]

theorem ranFor_iff {start : Option Nat} {now ms : Nat} : ranFor start now ms = true ↔
    ∃ since, start = some since ∧ since + 1000 * ms ≤ now := by
  unfold ranFor
  cases start <;> simp

theorem ropeSlip_present : .ropeSlip ∈ s.presentCauses r ↔ s.role = .car ∧
    ∃ since, s.sup.slipSince = some since ∧ since + 1000 * s.k .slipTime ≤ s.clock := by
  rw [← ranFor_iff, mem_presentCauses]
  simp

theorem positionDisagree_present : .positionDisagree ∈ s.presentCauses r ↔ s.role = .car ∧
    s.meas.known = true ∧ ∃ m h, s.driveMotion = some m ∧ m.h = some h ∧
      s.meas.u + m.u + s.k .ropeStretch < distance s.meas.h h := by
  have judged : .positionDisagree ∈ s.presentCauses r ↔
      s.role = .car ∧ s.positionDisagree = true := by
    rw [mem_presentCauses]
    simp
  rw [judged]
  unfold State.positionDisagree
  cases s.driveMotion with
  | none => simp
  | some m => cases hm : m.h <;> simp [hm]

theorem driveSilent_present : .driveSilent ∈ s.presentCauses r ↔ s.role = .car ∧
    s.sup.armed = true ∧ s.meas.standstill = false ∧ s.fresh .drive = none := by
  rw [mem_presentCauses]
  simp [and_assoc]

theorem carSilent_present : .carSilent ∈ s.presentCauses r ↔ s.role ≠ .car ∧
    s.sup.armed = true ∧ s.meas.standstill = false ∧
      ¬(s.carFresh .a = true ∧ s.carFresh .b = true) := by
  rw [mem_presentCauses]
  cases s.carFresh .a <;> simp [and_assoc]

end Sys2Proof.Machine
end


section
/-! # What a supervision sample raises, counts and takes in (O27, R14, R77, R90, R94) -/

namespace Sys2Proof.Machine

open Sys2Proof

/-! ## The causes raised (R77, R94) -/

/-- A number of causes are raised, in order. -/
def State.raiseCauses (l : List Cause) (s : State) : State := l.foldl (fun t c => t.raiseCause c) s

theorem takePresent_eq (l : List Cause) (s : State) : s.takePresent l =
    (s.setSup ({ · with present := l })).raiseCauses
      (l.filter (fun c => !s.sup.present.contains c)) := rfl

theorem raiseCause_demands (c : Cause) (s : State) :
    (s.raiseCause c).brake.demands = (s.latch c (supervisionLevel c)).brake.demands := by
  unfold State.raiseCause
  dsimp only
  split
  · exact requestProof_touches _ .demands (by decide)
  · rfl

theorem raiseCauses_latched_of_not_mem {l : List Cause} (hl : ∀ c ∈ l, c ∈ demandCauses) {d : Cause}
    (hd : d ∈ demandCauses) (hn : d ∉ l) (s : State) :
    (s.raiseCauses l).latched d = s.latched d := by
  induction l generalizing s with
  | nil => rfl
  | cons c l ih =>
    rw [List.mem_cons, not_or] at hn
    have one : (s.raiseCause c).latched d = s.latched d := by
      rw [latched_congr (raiseCause_demands c s)]
      exact latch_latched_ne (hl c (List.mem_cons_self ..)) hd hn.1 _
    exact (ih (fun c hc => hl c (List.mem_cons_of_mem _ hc)) hn.2 _).trans one

theorem raiseCauses_latching (l : List Cause) (s : State) : Latching s (s.raiseCauses l) := by
  have all (t : State) (h : Latching s t) : Latching s (t.raiseCauses l) := by
    induction l generalizing t with
    | nil => exact h
    | cons c l ih => exact ih _ (h.raiseCause c)
  exact all s (.refl s)

theorem level_le_raiseCauses {l : List Cause} {c : Cause} (hc : c ∈ l) (hd : c ∈ demandCauses)
    {s : State} (hlen : 20 ≤ s.brake.demands.length) :
    supervisionLevel c ≤ (s.raiseCauses l).latched c := by
  induction l generalizing s with
  | nil => cases hc
  | cons b l ih =>
    rcases List.mem_cons.mp hc with rfl | hc
    · have one : supervisionLevel c ≤ (s.raiseCause c).latched c := by
        rw [latched_congr (raiseCause_demands c s)]
        exact le_latched_latch hlen hd _
      exact one.trans ((raiseCauses_latching l _).latched_le c)
    · exact ih hc (hlen.trans (Latching.length_le ((Latching.refl s).raiseCause b)))

/-- DRIVE_SILENT asks for a proof where none is in progress (R94). -/
theorem raiseCauses_proof (l : List Cause) (s : State) : (s.raiseCauses l).brake.proof =
    if .driveSilent ∈ l ∧ s.brake.proof = none then
      some { level := 1, speed := s.absV, due := s.clock + 1000 * s.k .proofTime }
    else s.brake.proof := by
  induction l generalizing s with
  | nil => exact (if_neg (by simp)).symm
  | cons c l ih =>
    refine (ih (s.raiseCause c)).trans ?_
    by_cases hc : c = .driveSilent
    · subst hc
      cases hp : s.brake.proof with
      | none =>
        have asked : (s.raiseCause .driveSilent).brake.proof =
            some { level := 1, speed := s.absV, due := s.clock + 1000 * s.k .proofTime } := by
          show ((s.latch _ _).requestProof).brake.proof = _
          unfold State.requestProof
          rw [if_neg (by rw [show (s.latch _ _).brake.proof = s.brake.proof from rfl, hp]; nofun)]
          rfl
        rw [asked, if_neg (by simp), if_pos (by simp)]
      | some p =>
        have kept : (s.raiseCause .driveSilent).brake.proof = some p := by
          show ((s.latch _ _).requestProof).brake.proof = _
          unfold State.requestProof
          rw [if_pos (by rw [show (s.latch _ _).brake.proof = s.brake.proof from rfl, hp]; rfl)]
          exact hp
        rw [kept, if_neg (by simp), if_neg (by simp)]
    · have same : s.raiseCause c = s.latch c (supervisionLevel c) := if_neg hc
      rw [same]
      simp only [List.mem_cons, eq_comm (a := Cause.driveSilent), hc, false_or]
      rfl

theorem presentCauses_subset {s : State} {r : SupervisionResult} {c : Cause}
    (h : c ∈ s.presentCauses r) : c ∈ demandCauses := by
  have named := List.mem_map_of_mem (f := Prod.snd) ((mem_presentCauses c).mp h)
  exact (show [Cause.overspeedService, .overspeedSafety, .overspeedTrack, .overrun, .rollback,
    .ropeSlip, .positionDisagree, .driveSilent, .carSilent] ⊆ demandCauses by decide) named

/-! ## The demands and the proof after a sample -/

/-- The causes newly present at a sample. -/
def State.newCauses (s : State) : List Cause :=
  s.judgedCauses.filter (fun c => !s.sup.present.contains c)

theorem mem_newCauses {s : State} {c : Cause} : c ∈ s.newCauses ↔
    c ∈ s.supervisionSample.sup.present ∧ c ∉ s.sup.present := by
  rw [supervisionSample_sup]
  unfold State.newCauses
  simp

/-- The state in which the causes newly present are raised. -/
def State.beforeRaise (s : State) : State :=
  (s.judgedInputs.takeResult s.judgedResult).setSup ({ · with present := s.judgedCauses })

theorem supervisionSample_raises (s : State) :
    s.supervisionSample = s.beforeRaise.raiseCauses s.newCauses := by
  have present : (s.judgedInputs.takeResult s.judgedResult).sup.present = s.sup.present := by
    rw [takeResult_sup, judgedInputs_sup]
  rw [supervisionSample_eq, takePresent_eq, present]
  rfl

theorem beforeRaise_parts (s : State) : Touches (.supervision :: inputParts) s s.beforeRaise := by
  have presented (x : State) : Touches [.supervision] x
      (x.setSup ({ · with present := s.judgedCauses })) := fun p hp => by
    cases p <;> first | rfl | exact absurd (by decide) hp
  have resulted (x : State) (r : SupervisionResult) :
      Touches [.supervision, .counts] x (x.takeResult r) := by
    have set : Touches [.supervision, .counts] x
        (x.setSup ({ · with result := some r, warning := decide (r.w < x.absV) })) := fun p hp => by
      cases p <;> first | rfl | exact absurd (by decide) hp
    exact .ite (fun _ => set.trans ((bump_touches _ _).mono (by decide))) (fun _ => set)
  exact (((judgedInputs_parts s).comp (resulted _ _)).comp (presented _)).mono (by decide)

theorem newCauses_demands {s : State} {c : Cause} (h : c ∈ s.newCauses) : c ∈ demandCauses :=
  presentCauses_subset (List.mem_of_mem_filter h)

/-- A cause newly present is latched at its level at least, another is left (R77). -/
theorem supervisionSample_latched {s : State} (hlaw : BrakeLaw s) {c : Cause} (hc : c ∈ demandCauses) :
    (c ∈ s.newCauses → supervisionLevel c ≤ s.supervisionSample.latched c) ∧
      (c ∉ s.newCauses → s.supervisionSample.latched c = s.latched c) := by
  have demands : s.beforeRaise.brake.demands = s.brake.demands :=
    beforeRaise_parts s .demands (by decide)
  rw [supervisionSample_raises]
  refine ⟨fun h => level_le_raiseCauses h hc ?_, fun h => ?_⟩
  · rw [demands, hlaw.1]
  · rw [raiseCauses_latched_of_not_mem (fun _ => newCauses_demands) hc h, latched_congr demands]

theorem supervisionSample_proof (s : State) : s.supervisionSample.brake.proof =
    if .driveSilent ∈ s.newCauses ∧ s.brake.proof = none then
      some { level := 1, speed := s.absV, due := s.clock + 1000 * s.k .proofTime }
    else s.brake.proof := by
  have parts := beforeRaise_parts s
  have speed : s.beforeRaise.absV = s.absV := by
    unfold State.absV
    rw [parts.meas_eq (by decide)]
  have proof : s.beforeRaise.brake.proof = s.brake.proof := parts .proof (by decide)
  rw [supervisionSample_raises, raiseCauses_proof, proof, speed, parts.clock_eq,
    parts.k_eq]

/-! ## The inputs of the sample (R14, R78, R90) -/

/-- The authority of a CAR is judged as its stored notice and the DRIVE stand before the sample (R90). -/
theorem supervisionInputs_authority_car {s : State} (h : s.role = .car) :
    s.supervisionInputs.sup.authority = s.carAuthority := by
  have set := sampleSet_touches s
  have same : s.sampleSet.carAuthority = s.carAuthority := by
    unfold State.carAuthority State.driveTrip
    rw [fresh_congr set.peers_eq, driveMotion_congr set.peers_eq, set.sup_eq (by decide),
      show s.sampleSet.prof.notice = s.prof.notice from set .notice (by decide)]
  unfold State.supervisionInputs
  rw [h]
  exact same

theorem driveTrip_eq_none {s : State} (h : s.fresh .drive = none) : s.driveTrip = none := by
  unfold State.driveTrip State.driveMotion
  rw [h]
  rfl

/-- The table of R90. -/
theorem carAuthority_cases (s : State) :
    (s.fresh .drive = none → s.carAuthority = s.sup.authority) ∧
    (s.fresh .drive ≠ none → s.driveTrip = none → s.carAuthority = none) ∧
    ∀ x, s.driveTrip = some x →
      (∀ n, s.prof.notice = some n → n.number = x.number →
        s.carAuthority = some { hEnd := n.hEnd, direction := n.direction, trip := n.number }) ∧
      ((∀ n, s.prof.notice = some n → n.number ≠ x.number) →
        s.carAuthority = s.sup.authority.filter (fun a => a.trip == x.number)) := by
  unfold State.carAuthority
  cases hf : s.fresh .drive with
  | none => exact ⟨fun _ => rfl, fun h => absurd rfl h,
    fun x hx => nomatch (driveTrip_eq_none hf).symm.trans hx⟩
  | some e =>
    refine ⟨nofun, fun _ h => by rw [h], fun x hx => ?_⟩
    rw [hx]
    dsimp only
    cases s.prof.notice with
    | none => exact ⟨nofun, fun _ => rfl⟩
    | some n =>
      refine ⟨fun m hm he => ?_, fun h => ?_⟩
      · cases hm
        exact if_pos he
      · exact if_neg (h n rfl)

theorem queueNotice_trip (s : State) : s.queueNotice.trip.trip = s.trip.trip := by
  unfold State.queueNotice
  split
  · rw [enqueue_trip]
    rfl
  · rfl

/-- Set 1 is declared at the first sample within its v_perm (R14). -/
theorem judgeDeclaration_declares {s : State} {x : TripRecord} (ht : s.trip.trip = some x)
    (hp : x.pending = true) (hv : s.absV ≤ s.samplePermitted 1) :
    s.judgeDeclaration.trip.trip =
      some { x with set := 1, pending := false, revision := (x.revision + 1) % 16 } := by
  unfold State.judgeDeclaration State.declareSet1
  rw [ht]
  dsimp only
  rw [if_pos (by rw [hp, decide_eq_true hv]; rfl), queueNotice_trip]
  rfl

theorem judgeDeclaration_waits {s : State}
    (h : ∀ x, s.trip.trip = some x → x.pending = false ∨ s.samplePermitted 1 < s.absV) :
    s.judgeDeclaration = s := by
  unfold State.judgeDeclaration
  split
  · next x ht =>
    refine if_neg fun hd => ?_
    rw [Bool.and_eq_true, decide_eq_true_eq] at hd
    rcases h x ht with hp | hv
    · exact absurd (hp.symm.trans hd.1) nofun
    · exact absurd hd.2 (Nat.not_le.mpr hv)
  · rfl

theorem supervisionInputs_drive {s : State} (h : s.role = .drive) :
    s.supervisionInputs = s.judgeDeclaration := by
  unfold State.supervisionInputs
  rw [h]

/-! ## The speed warning (R84) -/

theorem judgedInputs_counts (s : State) : KeepsCounts s s.judgedInputs ∧
    s.judgedInputs.counts.length = s.counts.length := by
  have queued (x : State) : KeepsCounts x x.queueNotice ∧
      x.queueNotice.counts.length = x.counts.length := by
    unfold State.queueNotice
    split
    · next r _ =>
      have noted : KeepsCounts x (x.setTrip ({ · with requeue := false })) := .of_counts rfl
      exact ⟨noted.trans (.enqueue _ _), enqueue_counts_length _ _⟩
    · exact ⟨.of_counts rfl, rfl⟩
  have inputs : KeepsCounts s s.supervisionInputs ∧
      s.supervisionInputs.counts.length = s.counts.length := by
    unfold State.supervisionInputs
    split
    · have same : (s.sampleSet.setSup ({ · with authority := s.sampleSet.carAuthority })).counts =
          s.counts := (sampleSet_touches s).counts_eq
      exact ⟨.of_counts same, congrArg List.length same⟩
    · unfold State.judgeDeclaration State.declareSet1
      split
      · split
        · split
          · next x _ =>
            have declared : KeepsCounts s (s.setTrip ({ · with trip := some { x with
                set := 1, pending := false, revision := (x.revision + 1) % 16 } })) := .of_counts rfl
            exact ⟨declared.trans (queued _).1, (queued _).2⟩
          · exact ⟨.of_counts rfl, rfl⟩
        · exact ⟨.of_counts rfl, rfl⟩
      · exact ⟨.of_counts rfl, rfl⟩
  exact ⟨inputs.1.trans (.of_counts rfl), inputs.2⟩

theorem count_bump_eq (s : State) (c : Count) :
    (s.bump c).count c = if c.ctorIdx < s.counts.length then satInc (s.count c) else 0 := by
  split
  · next h => exact count_bump_self s c h
  · next h =>
    unfold State.count State.bump
    rw [List.getD_eq_getElem?_getD,
      List.getElem?_eq_none ((List.length_modify ..).le.trans (Nat.not_lt.mp h))]
    rfl

/-- The warning that begins at a sample is counted (R84). -/
theorem supervisionSample_warns {s : State} (hw : s.judgedResult.w < s.absV)
    (hs : s.sup.warning = false) :
    s.supervisionSample.count .speedWarnings = (s.bump .speedWarnings).count .speedWarnings := by
  have raised : s.supervisionSample.counts = (s.judgedInputs.takeResult s.judgedResult).counts := by
    rw [supervisionSample_raises]
    exact (Touches.foldl (fun t c => raiseCause_touches c t) s.newCauses s.beforeRaise).counts_eq
  have counted : s.judgedInputs.takeResult s.judgedResult =
      (s.judgedInputs.setSup ({ · with
        result := some s.judgedResult
        warning := decide (s.judgedResult.w < s.judgedInputs.absV) })).bump .speedWarnings := by
    refine if_pos ?_
    rw [absV_of_judged, decide_eq_true hw, judgedInputs_sup, hs]
    rfl
  obtain ⟨keeps, length⟩ := judgedInputs_counts s
  have before : s.judgedInputs.count .speedWarnings = s.count .speedWarnings :=
    keeps.of_bump (by decide)
  rw [count_congr raised, counted, count_bump_eq, count_bump_eq]
  show (if Count.speedWarnings.ctorIdx < s.judgedInputs.counts.length then
    satInc (s.judgedInputs.count .speedWarnings) else 0) = _
  rw [length, before]

end Sys2Proof.Machine
end


section
/-! # The supervision sample of a DRIVE or CAR, cause by cause (O27, R77 to R95) -/

namespace Sys2Proof.Machine

open Sys2Proof

/-- The state in which the causes of a sample are judged. -/
def State.resulted (s : State) : State := s.judgedInputs.takeResult s.judgedResult

theorem resulted_parts (s : State) : Touches (.supervision :: inputParts) s s.resulted := by
  have taken (x : State) (r : SupervisionResult) :
      Touches [.supervision, .counts] x (x.takeResult r) := by
    have set : Touches [.supervision, .counts] x
        (x.setSup ({ · with result := some r, warning := decide (r.w < x.absV) })) := fun p hp => by
      cases p <;> first | rfl | exact absurd (by decide) hp
    exact .ite (fun _ => set.trans ((bump_touches _ _).mono (by decide))) (fun _ => set)
  exact ((judgedInputs_parts s).comp (taken _ _)).mono (by decide)

@[simp] theorem resulted_meas (s : State) : s.resulted.meas = s.meas :=
  (resulted_parts s).meas_eq (by decide)

@[simp] theorem resulted_absV (s : State) : s.resulted.absV = s.absV := by
  unfold State.absV
  rw [resulted_meas]

@[simp] theorem resulted_role (s : State) : s.resulted.role = s.role := (resulted_parts s).role_eq

@[simp] theorem resulted_k (s : State) (n : ConstName) : s.resulted.k n = s.k n :=
  (resulted_parts s).k_eq (by decide) n

@[simp] theorem resulted_clock (s : State) : s.resulted.clock = s.clock := (resulted_parts s).clock_eq

@[simp] theorem resulted_fresh (s : State) (id : Identity) : s.resulted.fresh id = s.fresh id :=
  fresh_congr (resulted_parts s).peers_eq id

@[simp] theorem resulted_driveMotion (s : State) : s.resulted.driveMotion = s.driveMotion :=
  driveMotion_congr (resulted_parts s).peers_eq

@[simp] theorem resulted_carFresh (s : State) (c : CarId) : s.resulted.carFresh c = s.carFresh c := by
  unfold State.carFresh
  rw [resulted_fresh]

@[simp] theorem resulted_haulage (s : State) : s.resulted.trip.haulage = s.trip.haulage := by
  have taken : s.resulted.trip = s.judgedInputs.trip :=
    (takeResult_judgement s.judgedResult s.judgedInputs).trip_eq (by decide)
  rw [taken]
  exact haulage_of_judged s

/-- What the supervision block holds after a sample. -/
theorem supervisionSample_block (s : State) : s.supervisionSample.sup = { s.sup with
    result := some s.judgedResult
    warning := decide (s.judgedResult.w < s.absV)
    present := s.resulted.presentCauses s.judgedResult
    authority := s.supervisionInputs.sup.authority
    lastDir := if 20 ≤ s.absV then (if 0 < s.meas.v then .up else .down) else s.sup.lastDir
    armed := s.sup.armed || s.meas.standstill || decide (20 ≤ s.absV)
    slipSince := if s.role == .car && s.slipping then some (s.sup.slipSince.getD s.clock)
      else none } := by
  rw [supervisionSample_sup, judgedInputs_sup, absV_of_judged]
  rfl

/-- Up to its causes the sample judges in the block it leaves. -/
theorem resulted_sup (s : State) :
    s.resulted.sup = { s.supervisionSample.sup with present := s.sup.present } := by
  rw [supervisionSample_block]
  unfold State.resulted
  rw [takeResult_sup, judgedInputs_sup, absV_of_judged]

theorem present_iff (s : State) (c : Cause) : c ∈ s.supervisionSample.sup.present ↔
    c ∈ s.resulted.presentCauses s.judgedResult := by
  rw [supervisionSample_block]

theorem slipping_iff (s : State) : s.slipping = true ↔ ∃ m, s.driveMotion = some m ∧
    s.k .slipTolerance < (s.meas.v - m.v).natAbs := by
  unfold State.slipping
  cases s.driveMotion <;> simp

/-- v_perm reads the position, the profile and the block of supervision (R78). -/
theorem samplePermitted_congr {s t : State} (hm : t.meas = s.meas) (hp : t.prof.merged = s.prof.merged)
    (hc : t.conf = s.conf) (ha : t.sup.authority = s.sup.authority)
    (hd : t.sup.lastDir = s.sup.lastDir) (set : Nat) :
    t.samplePermitted set = s.samplePermitted set := by
  unfold State.samplePermitted State.sampleEnd State.sampleDirection State.absV
  rw [hm, hp, hc, ha, hd]

theorem judgedResult_vPerm (s : State) : s.judgedResult.vPerm =
    s.supervisionSample.samplePermitted s.judgedResult.set := by
  have before := judgedInputs_parts s
  have after := supervisionSample_touches s
  have merged (t : State) (X : List Part) (h : Touches X s t) (hX : Part.profile ∉ X) :
      t.prof.merged = s.prof.merged := congrArg Prod.fst (h .profile hX)
  refine (samplePermitted_congr ?_ ?_ ?_ ?_ ?_ _).symm
  · rw [after.meas_eq (by decide), before.meas_eq (by decide)]
  · rw [merged _ _ after (by decide), merged _ _ before (by decide)]
  · rw [after.conf_eq, before.conf_eq]
  · rw [supervisionSample_sup]
  · rw [supervisionSample_sup]

/-- The trip controller after a sample is that of its inputs. -/
theorem supervisionSample_trip (s : State) : s.supervisionSample.trip = s.supervisionInputs.trip :=
  (supervisionSample_judgement s).trip_eq (by decide)

theorem judgedResult_set (s : State) : s.judgedResult.set =
    if s.role = .drive then ((s.supervisionSample.trip.trip.map (·.set)).getD 1)
    else s.supervisionSample.prof.setInForce := by
  have trip : s.judgedInputs.trip = s.supervisionSample.trip := (supervisionSample_trip s).symm
  have prof : s.judgedInputs.prof = s.supervisionSample.prof :=
    ((supervisionSample_judgement s).prof_eq (by decide)).symm
  show s.judgedInputs.sampleSetNumber = _
  unfold State.sampleSetNumber
  rw [(judgedInputs_parts s).role_eq, trip, prof]
  cases s.role with
  | drive =>
    rw [if_pos rfl]
    cases s.supervisionSample.trip.trip <;> rfl
  | _ => rfl

end Sys2Proof.Machine
end


section
/-! # The causes present after a supervision sample (O27, R83 to R95) -/

namespace Sys2Proof.Machine

open Sys2Proof

theorem supervises_iff (s : State) : s.supervises = true ↔ s.role = .drive ∨ s.role = .car := by
  unfold State.supervises
  cases s.role <;> simp

variable (s : State)

theorem sample_overspeeds :
    (.overspeedService ∈ s.supervisionSample.sup.present ↔ s.judgedResult.s < s.absV) ∧
    (.overspeedSafety ∈ s.supervisionSample.sup.present ↔ s.judgedResult.e < s.absV) ∧
    (.overspeedTrack ∈ s.supervisionSample.sup.present ↔ s.judgedResult.t < s.absV) := by
  rw [present_iff, present_iff, present_iff, overspeedService_present, overspeedSafety_present,
    overspeedTrack_present, resulted_absV]
  exact ⟨.rfl, .rfl, .rfl⟩

theorem sample_overrun : .overrun ∈ s.supervisionSample.sup.present ↔
    ∃ a, s.supervisionSample.sup.authority = some a ∧ s.meas.known = true ∧
      (a.direction = .up ∧ a.hEnd < s.meas.h ∨ a.direction = .down ∧ s.meas.h < a.hEnd) := by
  rw [present_iff, overrun_present, resulted_sup, resulted_meas]

theorem sample_rollback : .rollback ∈ s.supervisionSample.sup.present ↔
    if s.role = .drive ∧ s.trip.haulage = .parked then 20 < s.absV
    else ∃ a, s.supervisionSample.sup.authority = some a ∧ s.k .rollbackTolerance < s.absV ∧
      (a.direction = .up ∧ s.meas.v < 0 ∨ a.direction = .down ∧ 0 < s.meas.v) := by
  rw [present_iff, rollback_present, resulted_role, resulted_haulage, resulted_absV, resulted_sup,
    resulted_k, resulted_meas]

theorem sample_ropeSlip : .ropeSlip ∈ s.supervisionSample.sup.present ↔ s.role = .car ∧
    ∃ since, s.supervisionSample.sup.slipSince = some since ∧
      since + 1000 * s.k .slipTime ≤ s.clock := by
  rw [present_iff, ropeSlip_present, resulted_role, resulted_sup, resulted_k, resulted_clock]

theorem sample_positionDisagree : .positionDisagree ∈ s.supervisionSample.sup.present ↔
    s.role = .car ∧ s.meas.known = true ∧ ∃ m h, s.driveMotion = some m ∧ m.h = some h ∧
      s.meas.u + m.u + s.k .ropeStretch < distance s.meas.h h := by
  rw [present_iff, positionDisagree_present, resulted_role, resulted_meas, resulted_driveMotion,
    resulted_k]

theorem sample_driveSilent : .driveSilent ∈ s.supervisionSample.sup.present ↔ s.role = .car ∧
    s.supervisionSample.sup.armed = true ∧ s.meas.standstill = false ∧ s.fresh .drive = none := by
  rw [present_iff, driveSilent_present, resulted_role, resulted_sup, resulted_meas, resulted_fresh]

theorem sample_carSilent (hs : s.supervises = true) :
    .carSilent ∈ s.supervisionSample.sup.present ↔ s.role = .drive ∧
      s.supervisionSample.sup.armed = true ∧ s.meas.standstill = false ∧
        ¬(s.carFresh .a = true ∧ s.carFresh .b = true) := by
  have role : s.role ≠ .car ↔ s.role = .drive := by
    rcases (supervises_iff s).mp hs with h | h <;> rw [h] <;> decide
  rw [present_iff, carSilent_present, resulted_role, resulted_sup, resulted_meas, resulted_carFresh,
    resulted_carFresh, role]

/-- The rope-slip timer runs while the speeds differ (R92). -/
theorem sample_slipSince :
    (s.role = .car → (∃ m, s.driveMotion = some m ∧
        s.k .slipTolerance < (s.meas.v - m.v).natAbs) →
      s.supervisionSample.sup.slipSince = some (s.sup.slipSince.getD s.clock)) ∧
    (¬(s.role = .car ∧ ∃ m, s.driveMotion = some m ∧
        s.k .slipTolerance < (s.meas.v - m.v).natAbs) →
      s.supervisionSample.sup.slipSince = none) := by
  have runs : (s.role == .car && s.slipping) = true ↔ s.role = .car ∧ ∃ m, s.driveMotion = some m ∧
      s.k .slipTolerance < (s.meas.v - m.v).natAbs := by
    rw [Bool.and_eq_true, beq_iff_eq, slipping_iff]
  rw [supervisionSample_block, ← runs]
  exact ⟨fun hc hm => if_pos (runs.mpr ⟨hc, hm⟩), fun h => if_neg h⟩

/-- What a sample latches: each cause newly present at its level at least, and no other (R77). -/
theorem sample_latches (hlaw : BrakeLaw s) (c : Cause) (hc : c ∈ demandCauses) :
    (c ∈ s.supervisionSample.sup.present ∧ c ∉ s.sup.present →
      1 ≤ s.supervisionSample.latched c ∧
        (c = .overspeedSafety ∨ c = .overrun ∨ c = .rollback → 2 ≤ s.supervisionSample.latched c) ∧
        (c = .overspeedTrack ∨ c = .ropeSlip → 3 ≤ s.supervisionSample.latched c)) ∧
    (¬(c ∈ s.supervisionSample.sup.present ∧ c ∉ s.sup.present) →
      s.supervisionSample.latched c = s.latched c) := by
  obtain ⟨raised, kept⟩ := supervisionSample_latched hlaw hc
  rw [← mem_newCauses]
  refine ⟨fun h => ?_, kept⟩
  have level := raised h
  refine ⟨le_trans ?_ level, fun hcase => le_trans ?_ level, fun hcase => le_trans ?_ level⟩
  · cases c <;> decide
  · rcases hcase with rfl | rfl | rfl <;> decide
  · rcases hcase with rfl | rfl <;> decide

theorem sample_proof : s.supervisionSample.brake.proof =
    if (.driveSilent ∈ s.supervisionSample.sup.present ∧ .driveSilent ∉ s.sup.present) ∧
        s.brake.proof = none then
      some { level := 1, speed := s.absV, due := s.clock + 1000 * s.k .proofTime }
    else s.brake.proof := by
  rw [supervisionSample_proof]
  simp only [mem_newCauses]

/-- The authority of a CAR after a sample (R90). -/
theorem sample_authority_car (hrole : s.role = .car) :
    s.supervisionSample.sup.authority = s.carAuthority := by
  rw [supervisionSample_block]
  exact supervisionInputs_authority_car hrole

/-- A DRIVE keeps its authority, and declares set 1 when its speed allows it (R14). -/
theorem sample_drive (hrole : s.role = .drive) :
    s.supervisionSample.sup.authority = s.sup.authority ∧
    (∀ x, s.trip.trip = some x → x.pending = true → s.absV ≤ s.samplePermitted 1 →
      s.supervisionSample.trip.trip = some { x with
        set := 1, pending := false, revision := (x.revision + 1) % 16 }) ∧
    ((∀ x, s.trip.trip = some x → x.pending = false ∨ s.samplePermitted 1 < s.absV) →
      s.supervisionSample.trip = s.trip) := by
  rw [supervisionSample_block, supervisionSample_trip, supervisionInputs_drive hrole]
  refine ⟨?_, fun x ht hp hv => judgeDeclaration_declares ht hp hv, fun h => ?_⟩
  · exact judgeDeclaration_touches s .authority (by decide)
  · rw [judgeDeclaration_waits h]

end Sys2Proof.Machine
end


section
/-! # What the trip controller does at a sample in which nothing rises (O27, R126, R127, R129, R131) -/

namespace Sys2Proof.Machine

open Sys2Proof

/-- `t` is `s` but for the bus, the counts and whether a notice is owed. -/
def QueuedFrom (s t : State) : Prop :=
  ∃ (b : LineBus) (c : List Nat) (q : Bool),
    t = { s with bus := b, counts := c, trip := { s.trip with requeue := q } }

namespace QueuedFrom

variable {s t u : State}

theorem refl (s : State) : QueuedFrom s s := ⟨_, _, _, rfl⟩

theorem trans (h : QueuedFrom s t) (g : QueuedFrom t u) : QueuedFrom s u := by
  obtain ⟨_, _, _, rfl⟩ := h
  obtain ⟨_, _, _, rfl⟩ := g
  exact ⟨_, _, _, rfl⟩

theorem enqueue (p : Payload) (s : State) : QueuedFrom s (s.enqueue p) :=
  ⟨_, _, _, enqueue_frame p s⟩

theorem queueNotice (s : State) : QueuedFrom s s.queueNotice := by
  unfold State.queueNotice
  split
  · have noted : QueuedFrom s (s.setTrip ({ · with requeue := false })) := ⟨_, _, _, rfl⟩
    exact noted.trans (.enqueue _ _)
  · exact refl s

theorem requeueNotice (owed : Option TripRecord) (s : State) :
    QueuedFrom s (s.requeueNotice owed) := by
  unfold State.requeueNotice
  split
  · exact queueNotice s
  · exact refl s

/-! None of what the trip controller does at a sample reads the bus. -/

theorem trip_eq (h : QueuedFrom s t) : t.trip.trip = s.trip.trip := by
  obtain ⟨_, _, _, rfl⟩ := h
  rfl

theorem runEnds_eq (h : QueuedFrom s t) (r : TripRecord) :
    (t.runFormed r).runEnds r = (s.runFormed r).runEnds r := by
  obtain ⟨_, _, _, rfl⟩ := h
  rfl

theorem runSample (h : QueuedFrom s t) : QueuedFrom s.runSample t.runSample := by
  cases ht : s.trip.trip with
  | none =>
    have stops (x : State) (hx : x.trip.trip = none) :
        x.runSample = x.setTrip ({ · with setpoint := 0 }) := by
      unfold State.runSample
      rw [hx]
    rw [stops s ht, stops t (h.trip_eq.trans ht)]
    obtain ⟨b, c, q, rfl⟩ := h
    exact ⟨b, c, q, rfl⟩
  | some r =>
    have ht' := h.trip_eq.trans ht
    by_cases hends : (s.runFormed r).runEnds r = true
    · rw [runSample_ends ht hends, runSample_ends ht' ((h.runEnds_eq r).trans hends)]
      obtain ⟨b, c, q, rfl⟩ := h
      exact ⟨b, c, q, rfl⟩
    · rw [runSample_goes_on ht hends, runSample_goes_on ht' (h.runEnds_eq r ▸ hends)]
      obtain ⟨b, c, q, rfl⟩ := h
      exact ⟨b, c, q, rfl⟩

theorem holdSample (h : QueuedFrom s t) : QueuedFrom s.holdSample t.holdSample := by
  have still : t.meas.standstill = s.meas.standstill := by
    obtain ⟨_, _, _, rfl⟩ := h
    rfl
  unfold State.holdSample
  rw [still, h.trip_eq]
  split
  · obtain ⟨b, c, q, rfl⟩ := h
    exact ⟨b, c, q, rfl⟩
  · split
    · obtain ⟨b, c, q, rfl⟩ := h
      exact ⟨b, c, q, rfl⟩
    · obtain ⟨b, c, q, rfl⟩ := h
      exact ⟨b, c, q, rfl⟩

theorem completeStop (h : QueuedFrom s t) : QueuedFrom s.completeStop t.completeStop := by
  have reads (k : Nat) (d : Direction) : t.dStop k d = s.dStop k d ∧
      t.k .creepDistance = s.k .creepDistance ∧ t.presenceAt k = s.presenceAt k ∧
      t.furthestMatch d = s.furthestMatch d := by
    obtain ⟨_, _, _, rfl⟩ := h
    exact ⟨rfl, rfl, rfl, rfl⟩
  unfold State.completeStop
  rw [h.trip_eq]
  dsimp only
  split
  · next r _ =>
    split
    · next k _ =>
      obtain ⟨distance, creep, presence, -⟩ := reads k r.direction
      rw [distance, creep, presence]
      obtain ⟨b, c, q, rfl⟩ := h
      split
      · exact ⟨b, c, false, rfl⟩
      · exact ⟨b, c, false, rfl⟩
    · obtain ⟨-, -, -, furthest⟩ := reads 0 r.direction
      rw [furthest]
      obtain ⟨b, c, q, rfl⟩ := h
      split
      · exact ⟨b, c, false, rfl⟩
      · exact ⟨b, c, false, rfl⟩
  · obtain ⟨b, c, q, rfl⟩ := h
    exact ⟨b, c, q, rfl⟩

theorem judgeSync (h : QueuedFrom s t) : QueuedFrom s.judgeSync t.judgeSync := by
  have reads : t.meas = s.meas ∧ t.trip.resetSeen = s.trip.resetSeen ∧
      t.brake.effective = s.brake.effective ∧ t.matchingStops = s.matchingStops := by
    obtain ⟨_, _, _, rfl⟩ := h
    exact ⟨rfl, rfl, rfl, rfl⟩
  obtain ⟨meas, seen, level, matching⟩ := reads
  unfold State.judgeSync
  rw [meas, seen, level, matching]
  obtain ⟨b, c, q, rfl⟩ := h
  split
  · split
    · exact ⟨b, c, q, rfl⟩
    · exact ⟨b, c, q, rfl⟩
    · exact ⟨b, c, q, rfl⟩
  · exact ⟨b, c, q, rfl⟩

end QueuedFrom

end Sys2Proof.Machine
end


section
/-! # A sample event goes on from its supervision sample (O27, R77, R129) -/

namespace Sys2Proof.Machine

open Sys2Proof

/-- Of the trip controller the inputs of a sample change the record alone, and whether a notice is owed.
-/
theorem supervisionInputs_trip_cases (s : State) :
    ∃ r q, s.supervisionInputs.trip = { s.trip with trip := r, requeue := q } := by
  unfold State.supervisionInputs
  split
  · exact ⟨s.trip.trip, s.trip.requeue, congrArg State.trip (show _ = _ from rfl) |>.trans
      ((sampleSet_touches s).trip_eq (by decide))⟩
  · unfold State.judgeDeclaration State.declareSet1
    split
    · split
      · split
        · obtain ⟨_, _, _, queued⟩ := QueuedFrom.queueNotice (s.setTrip ({ · with trip := some _ }))
          rw [queued]
          exact ⟨_, _, rfl⟩
        · exact ⟨_, _, rfl⟩
      · exact ⟨_, _, rfl⟩
    · exact ⟨_, _, rfl⟩

theorem supervisionSample_trip_cases (s : State) :
    ∃ r q, s.supervisionSample.trip = { s.trip with trip := r, requeue := q } := by
  rw [supervisionSample_trip]
  exact supervisionInputs_trip_cases s

theorem restSetpoint_trip (s : State) : s.restSetpoint.trip =
    { s.trip with setpoint := if s.trip.rests = true then 0 else s.trip.setpoint } := by
  unfold State.restSetpoint
  split <;> rfl

theorem setAnalogCode_trip (s : State) : s.setAnalogCode.trip =
    { s.trip with latestSetpoint := s.setAnalogCode.trip.latestSetpoint } := rfl

/-- Outside READY_CHECK the trip controller plays its state at the sample, and keeps its setpoint (R129).
-/
theorem tripSample_of_not_ready {s : State} (h : s.trip.haulage ≠ .readyCheck)
    (owed : Option TripRecord) :
    s.tripSample owed = ((s.requeueNotice owed).haulageSample).restSetpoint.setAnalogCode := by
  have waits : ((s.requeueNotice owed).trip.haulage == .readyCheck) = false := by
    rw [requeueNotice_haulage]
    exact beq_eq_false_iff_ne.mpr h
  unfold State.tripSample
  dsimp only
  rw [waits]
  rfl

/-- The supervision sample of a sample event (R77). -/
theorem sampleBlocks_supervises {s : State} (h : s.supervises = true) (reading : BitVec 16) :
    s.sampleBlocks reading =
      ((s.restartSample reading).sampleMeasurement reading).supervisionSample := by
  have measured := (restartSample_touches reading s).comp
    (sampleMeasurement_touches reading (s.restartSample reading))
  refine if_pos ?_
  unfold State.supervises at h ⊢
  rw [measured.role_eq]
  exact h

theorem Touches.sup_but_authority {X : List Part} {s t : State} (h : Touches X s t)
    (hX : Part.supervision ∉ X := by decide) :
    t.sup = { s.sup with authority := t.sup.authority } := by
  have same : { t.sup with authority := none } = { s.sup with authority := none } :=
    h .supervision hX
  calc t.sup = { { t.sup with authority := none } with authority := t.sup.authority } := rfl
    _ = _ := by rw [same]

/-- From the supervision sample to its end a sample event leaves the block of supervision, but for the
authority. -/
theorem sample_sup (s : State) (reading : BitVec 16) : (s.sample reading).sup =
    { (s.sampleBlocks reading).sup with authority := (s.sample reading).sup.authority } := by
  have rest (x : State) (owed : Option TripRecord) :
      Touches (roleParts ++ riseParts ++ [.queue, .periods, .counts]) x
        (x.roleSample owed).judgeRise.queueMotion :=
    ((roleSample_touches owed x).comp (judgeRise_touches _)).comp (queueMotion_touches _)
  rw [sample_eq]
  exact (rest (s.sampleBlocks reading) s.owedNotice).sup_but_authority

/-- At a CAR nothing after the supervision sample touches position, profile or authority. -/
theorem sample_car {s : State} (hrole : s.role = .car) (reading : BitVec 16) :
    Touches (doorParts ++ [.demands, .judged, .trackAsk] ++ riseParts ++ [.queue, .periods, .counts])
      (s.sampleBlocks reading) (s.sample reading) := by
  have role : (s.sampleBlocks reading).role = .car := (sampleBlocks_touches reading s).role_eq.trans hrole
  rw [sample_eq]
  generalize s.owedNotice = owed
  generalize s.sampleBlocks reading = x at role ⊢
  have plays : x.roleSample owed = x.doorSample.setBrake ({ · with trackAsk := true }) := by
    unfold State.roleSample
    rw [role]
  rw [plays]
  exact ((((doorSample_touches x).comp (trackAsk_touches _)).comp (judgeRise_touches _)).comp
    (queueMotion_touches _)).mono (by decide)

/-- What the trip controller of a DRIVE does at a sample, from the state that the supervision sample
left, with the haulage state it had before. -/
def PlaysSample (s x y : State) : Prop :=
  (s.trip.haulage = .running ∨ s.trip.haulage = .recovery ∧ s.trip.torqueProved = true) ∧
      y = x.runSample ∨
    s.trip.haulage = .holding ∧ y = x.holdSample ∨
    s.trip.haulage = .stopping ∧ x.meas.standstill = true ∧ y = x.completeStop ∨
    s.trip.haulage = .unsynced ∧ y = x.judgeSync

theorem haulageSample_plays {s x y u : State} (h : PlaysSample s x y) (hx : QueuedFrom x u)
    (hh : x.trip.haulage = s.trip.haulage) (ht : x.trip.torqueProved = s.trip.torqueProved) :
    QueuedFrom y u.haulageSample := by
  have haulage : u.trip.haulage = s.trip.haulage := by
    obtain ⟨_, _, _, rfl⟩ := hx
    exact hh
  have proved : u.trip.torqueProved = s.trip.torqueProved := by
    obtain ⟨_, _, _, rfl⟩ := hx
    exact ht
  have still : u.meas.standstill = x.meas.standstill := by
    obtain ⟨_, _, _, rfl⟩ := hx
    rfl
  unfold State.haulageSample
  rw [haulage, proved, still]
  rcases h with ⟨hs | ⟨hs, hp⟩, rfl⟩ | ⟨hs, rfl⟩ | ⟨hs, hstill, rfl⟩ | ⟨hs, rfl⟩
  · rw [hs]
    exact hx.runSample
  · rw [hs, hp]
    exact hx.runSample
  · rw [hs]
    exact hx.holdSample
  · rw [hs, hstill]
    exact hx.completeStop
  · rw [hs]
    exact hx.judgeSync

theorem PlaysSample.not_ready {s x y : State} (h : PlaysSample s x y) :
    s.trip.haulage ≠ .readyCheck := by
  rcases h with ⟨hs | ⟨hs, -⟩, -⟩ | ⟨hs, -⟩ | ⟨hs, -, -⟩ | ⟨hs, -⟩ <;> rw [hs] <;> nofun

/-- A sample of a DRIVE in which no demand rises ends as its trip controller has played it. -/
theorem sample_plays {s y : State} {reading : BitVec 16} (hrole : s.role = .drive)
    (hrise : (s.sampleBlocks reading).highestOwn ≤ s.brake.judged)
    (h : PlaysSample s (s.sampleBlocks reading) y) :
    ∃ z, QueuedFrom y z ∧ (s.sample reading).meas = z.meas ∧
      (s.sample reading).sup.authority = z.sup.authority ∧
      (s.sample reading).trip = { z.trip with
        setpoint := if z.trip.rests = true then 0 else z.trip.setpoint
        latestSetpoint := (s.sample reading).trip.latestSetpoint } := by
  have role : (s.sampleBlocks reading).role = .drive :=
    (sampleBlocks_touches reading s).role_eq.trans hrole
  have haulage := sampleBlocks_haulage reading s
  have judged := ((Latching.refl s).sampleBlocks reading).judged
  have proved : (s.sampleBlocks reading).trip.torqueProved = s.trip.torqueProved := by
    rw [sampleBlocks_supervises ((supervises_iff s).mpr (.inl hrole))]
    have measured := (restartSample_touches reading s).comp
      (sampleMeasurement_touches reading (s.restartSample reading))
    obtain ⟨_, _, trip⟩ :=
      supervisionSample_trip_cases ((s.restartSample reading).sampleMeasurement reading)
    rw [trip, measured.trip_eq (by decide)]
  rw [sample_eq]
  generalize s.owedNotice = owed
  generalize s.sampleBlocks reading = x at *
  have plays : x.roleSample owed =
      ((x.requeueNotice owed).haulageSample).restSetpoint.setAnalogCode := by
    unfold State.roleSample
    rw [role]
    exact tripSample_of_not_ready (haulage ▸ h.not_ready) owed
  have played := haulageSample_plays h (.requeueNotice owed x) haulage proved
  have parts : Touches (tripParts ++ [.setCode]) x (x.roleSample owed) := by
    rw [plays]
    exact ((((requeueNotice_touches owed x).comp (haulageSample_touches _)).comp
      (restSetpoint_touches _)).comp (setAnalogCode_touches _)).mono (by decide)
  have quiet : (x.roleSample owed).highestOwn ≤ (x.roleSample owed).brake.judged := by
    rw [highestOwn_congr (parts .demands (by decide)),
      show (x.roleSample owed).brake.judged = x.brake.judged from
        congrArg Prod.fst (parts .judged (by decide)), judged]
    exact hrise
  rw [judgeRise_of_no_rise quiet]
  have queued := queueMotion_touches ((x.roleSample owed).setBrake ({ · with
    judged := (x.roleSample owed).highestOwn, raised := [] }))
  refine ⟨_, played, ?_, ?_, ?_⟩
  · rw [queued.meas_eq (by decide), State.setBrake_meas, plays]
    exact (((restSetpoint_touches _).comp (setAnalogCode_touches _)).meas_eq (by decide))
  · rw [queued.sup_eq (by decide), State.setBrake_sup, plays]
    exact ((restSetpoint_touches _).comp (setAnalogCode_touches _)) .authority (by decide)
  · rw [queued.trip_eq (by decide), State.setBrake_trip, plays]
    refine (setAnalogCode_trip _).trans ?_
    rw [restSetpoint_trip]

end Sys2Proof.Machine
end


section
/-! # The setpoint through a rise, a reset and the frames of a ready check (O27, R122, R125 to R130) -/

namespace Sys2Proof.Machine

open Sys2Proof

/-- What a rise of the level leaves of the trip controller: as it was, at a setpoint of 0, or in HOLDING
from a state that holds a setpoint (R127, R128). -/
theorem tripRise_cases (level : Nat) (s : State) : (s.tripRise level).trip = s.trip ∨
    ((s.tripRise level).trip.setpoint = 0 ∧
      (s.tripRise level).trip.latestSetpoint = s.trip.latestSetpoint) ∨
    (s.trip.rests = false ∧ (s.tripRise level).trip = { s.trip with haulage := .holding }) := by
  unfold State.tripRise
  split
  · split
    · exact .inl rfl
    · exact .inl rfl
    · exact .inl rfl
    · exact .inr (.inl ⟨rfl, rfl⟩)
  · split
    · next hh => exact .inr (.inr ⟨by rw [TripController.rests, hh], rfl⟩)
    · next hh =>
      split
      · next hp => exact .inr (.inr ⟨by rw [TripController.rests, hh, hp]; rfl, rfl⟩)
      · exact .inr (.inl ⟨rfl, rfl⟩)
    · exact .inr (.inl ⟨rfl, rfl⟩)
    · exact .inl rfl

/-- A property of the trip controller that a rise of the level keeps. -/
structure KeptByRises (P : TripController → Prop) : Prop where
  requeued : ∀ x q, P x → P { x with requeue := q }
  zeroed : ∀ x y, P x → y.setpoint = 0 → y.latestSetpoint = x.latestSetpoint → P y
  held : ∀ x, P x → x.rests = false → P { x with haulage := .holding }

namespace KeptByRises

variable {P : TripController → Prop} {s t : State} {X : List Part}

theorem of_touches (hP : KeptByRises P) (h : P s.trip) (ht : Touches X s t)
    (hX : Part.trip ∉ X := by decide) : P t.trip := by
  have same : { t.trip with requeue := false } = { s.trip with requeue := false } := ht .trip hX
  have kept := hP.requeued _ t.trip.requeue (same ▸ hP.requeued _ false h)
  exact kept

theorem tripRise (hP : KeptByRises P) (h : P s.trip) (level : Nat) : P (s.tripRise level).trip := by
  rcases tripRise_cases level s with he | ⟨hz, hl⟩ | ⟨hr, he⟩
  · rw [he]
    exact h
  · exact hP.zeroed _ _ h hz hl
  · rw [he]
    exact hP.held _ h hr

theorem reform (hP : KeptByRises P) (h : P s.trip) : P s.reform.trip := by
  unfold State.reform State.levelChanged
  dsimp only
  split
  · exact h
  · have raised := setEffective_touches s.formedLevel s
    split
    · have proved := hP.of_touches h (raised.comp (proofAtChange_touches s.brake.effective _))
      generalize ((s.setBrake _).proofAtChange _) = x at proved
      refine hP.of_touches ?_ (queueAllStates_touches _)
      unfold State.tellLevel
      split
      · split
        · exact hP.tripRise proved _
        · exact proved
      · split
        · exact hP.of_touches proved (endEvacuation_touches _)
        · exact proved
      · exact hP.of_touches proved (gateLevel_touches _)
      · exact proved
    · exact hP.of_touches h raised

theorem judgeRise (hP : KeptByRises P) (h : P s.trip) : P s.judgeRise.trip := by
  unfold State.judgeRise
  dsimp only
  split
  · split
    · exact hP.reform (hP.of_touches (s := s.setBrake _) h
        ((queueOrder_touches _ _ _).comp (writeRecord_touches _ _ _)))
    · exact hP.reform (s := s.setBrake _) h
  · exact h

end KeptByRises

/-- In a state that does not rest the setpoint is within a bound. -/
def SetpointWithin (v : Nat) (t : TripController) : Prop := t.rests = false → t.setpoint.natAbs ≤ v

theorem setpointWithin_kept (v : Nat) : KeptByRises (SetpointWithin v) where
  requeued _ _ h := h
  zeroed _ _ _ hz _ _ := by
    rw [hz]
    exact Nat.zero_le _
  held _ h hr _ := h hr

namespace SetpointWithin

variable {v : Nat} {s t : State} {X : List Part}

theorem of_rests {t : TripController} (h : t.rests = true) : SetpointWithin v t := fun hr =>
  absurd (h.symm.trans hr) nofun

theorem of_zero {t : TripController} (h : t.setpoint = 0) : SetpointWithin v t := fun _ => by
  rw [h]
  exact Nat.zero_le _

theorem of_touches (h : SetpointWithin v s.trip) (ht : Touches X s t)
    (hX : Part.trip ∉ X := by decide) : SetpointWithin v t.trip :=
  (setpointWithin_kept v).of_touches h ht hX

/-- An accepted reset leads to states that rest, or leaves state and setpoint (R130). -/
theorem tripReset (h : SetpointWithin v s.trip) : SetpointWithin v s.tripReset.trip := by
  rw [tripReset_eq]
  split
  · split
    · split
      · exact of_rests rfl
      · exact of_rests rfl
    · exact of_rests rfl
  · split
    · split
      · exact of_rests rfl
      · exact of_rests rfl
    · exact h
  · next hs =>
    have unsynced : (s.clearReplies.setTrip ({ · with resetSeen := true })).trip.haulage = .unsynced := hs
    exact of_rests (by rw [TripController.rests, unsynced])
  · split
    · exact h
    · exact of_rests rfl
  · exact h

end SetpointWithin

/-- The setpoint that is held at the end of a sample: within v_perm, 0 in a state that rests, with the
setpoint of the sample kept. -/
structure HoldsSetpoint (v : Nat) (latest : Int) (t : TripController) : Prop where
  within : t.setpoint.natAbs ≤ 1000 * v
  rest : t.rests = true → t.setpoint = 0
  latest : t.latestSetpoint = latest

theorem holdsSetpoint_kept (v : Nat) (latest : Int) : KeptByRises (HoldsSetpoint v latest) where
  requeued _ _ h := ⟨h.within, h.rest, h.latest⟩
  zeroed _ _ h hz hl := ⟨by rw [hz]; exact Nat.zero_le _, fun _ => hz, hl.trans h.latest⟩
  held _ h _ := ⟨h.within, nofun, h.latest⟩

/-! ## The frames taken in READY_CHECK (R122) -/

/-- A DRIVE whose setpoint is within a bound outside the states that rest. -/
structure DriveWithin (v : Nat) (s : State) : Prop where
  role : s.role = .drive
  within : SetpointWithin v s.trip

namespace DriveWithin

variable {v : Nat} {s t : State} {X : List Part}

theorem of_touches (h : DriveWithin v s) (ht : Touches X s t) (hX : Part.trip ∉ X := by decide)
    (hcfg : Part.cfg ∉ X := by decide) : DriveWithin v t :=
  ⟨(ht.role_eq hcfg).trans h.role, h.within.of_touches ht hX⟩

theorem reform (h : DriveWithin v s) : DriveWithin v s.reform :=
  ⟨(reform_touches s).role_eq.trans h.role, (setpointWithin_kept v).reform h.within⟩

theorem judgeReset (h : DriveWithin v s) (number : Nat) : DriveWithin v (s.judgeReset number) := by
  refine ⟨(judgeReset_touches number s).role_eq.trans h.role, ?_⟩
  unfold State.judgeReset
  split
  · exact h.within.of_touches (bump_touches _ s)
  · split
    · have formed := (h.of_touches (resetDemands_touches number s)).reform
      rw [acceptReset_eq]
      generalize (s.resetDemands number).reform = x at formed
      refine SetpointWithin.of_touches ?_ (reOrder_touches _)
      rw [tellReset_drive formed.role]
      refine SetpointWithin.of_touches ?_ (authorityReset_touches _)
      split
      · exact (setpointWithin_kept v).tripRise formed.within.tripReset 2
      · exact formed.within.tripReset
    · exact h.within.of_touches (bump_touches _ s)

theorem passBrake (h : DriveWithin v s) (f : Frame) : DriveWithin v (s.passBrake f) := by
  have late (n : Nat) : DriveWithin v (match s.brake.held with
      | some m => if m = n then s else s.bump .lateOrders
      | none => s) := by
    split
    · split
      · exact h
      · exact h.of_touches (bump_touches _ s)
    · exact h
  unfold State.passBrake
  split
  · next level cause haul number _ =>
    have ordered : DriveWithin v (s.takeOrder f.source level cause haul number) :=
      reform ⟨(late number).role, (late number).within⟩
    dsimp only
    split
    · exact ordered.of_touches (clearHeld_touches _)
    · exact ordered
  · split
    · exact reform ⟨h.role, h.within⟩
    · exact h

theorem route (h : DriveWithin v s) {effect : State → State} (he : DriveWithin v (effect s))
    (source : Nat) (id : Identity) : DriveWithin v (s.route source id effect) := by
  unfold State.route
  split
  · exact he
  · exact h.of_touches (bump_touches _ s)

theorem deliver (h : DriveWithin v s) (f : Frame) : DriveWithin v (s.deliver f) := by
  unfold State.deliver
  dsimp only
  split
  · exact h.route (h.judgeReset _) _ _
  · split
    · exact h.route (h.of_touches (takeNotice_touches _ s)) _ _
    · exact h
  · split
    · exact h.route (h.of_touches (takeEvacuation_touches _ s)) _ _
    · exact h
  · next car side result _ =>
    have replied : DriveWithin v (s.recordReply car side result) := by
      unfold State.recordReply
      split
      · exact ⟨h.role, h.within⟩
      · exact ⟨h.role, h.within⟩
    split
    · exact h.route replied _ _
    · exact h
  · split
    · exact h.route (h.of_touches (takeRequest_touches _ _ _ s)) _ _
    · exact h
  · split
    · exact h.route (h.of_touches (takeGrant_touches _ _ _ _ s)) _ _
    · exact h
  · split
    · exact h.route (h.of_touches (takeRefusal_touches _ _ _ s)) _ _
    · exact h
  · unfold State.routeWithdrawal
    dsimp only
    split
    · split
      · exact h.route (h.of_touches (takeCarWithdrawal_touches _ _ _ s)) _ _
      · exact h
    · split
      · exact h.route (h.of_touches (takeBerthWithdrawal_touches _ _ s)) _ _
      · exact h
    · split
      · exact h.of_touches (bump_touches _ s)
      · exact h
  · exact h

theorem takeRecord (h : DriveWithin v s) (f : Frame) : DriveWithin v (s.takeRecord f) := by
  unfold State.takeRecord
  rw [h.role]
  exact h

theorem judgeClosing (h : DriveWithin v s) : DriveWithin v s.judgeClosing := by
  unfold State.judgeClosing
  split
  · exact ⟨h.role, SetpointWithin.of_rests rfl⟩
  · exact h

theorem notice (h : DriveWithin v s) (id : Identity) : DriveWithin v (s.notice id) := by
  unfold State.notice
  rw [h.role]
  cases id with
  | car c => exact h.judgeClosing
  | berth n =>
    dsimp only
    split
    · exact h.judgeClosing
    · exact h
  | drive => exact h
  | gate b i => exact h

theorem noticeChanges (h : DriveWithin v s) (before : List PeerEntry) (stored : List Identity) :
    DriveWithin v (s.noticeChanges before stored) := by
  have fold (l : List Identity) (t : State) (ht : DriveWithin v t) :
      DriveWithin v (l.foldl (fun t id => t.notice id) t) := by
    induction l generalizing t with
    | nil => exact ht
    | cons id l ih => exact ih _ (ht.notice id)
  exact fold _ s h

theorem applyFrame (h : DriveWithin v s) (f : Frame) : DriveWithin v (s.applyFrame f) := by
  rw [applyFrame_eq]
  exact ((((h.of_touches (recorded_touches f s)).passBrake f).takeRecord f).deliver f).noticeChanges _ _

theorem takeOne (h : DriveWithin v s) : DriveWithin v s.takeOne := by
  unfold State.takeOne
  split
  · exact h
  · next f rest _ =>
    have dropped := h.of_touches (dropOldest_touches rest s)
    unfold State.takeChecked
    split
    · split
      · exact dropped.of_touches (bump_touches _ _)
      · exact (dropped.of_touches (passControl_touches f _)).applyFrame f
    · exact (dropped.of_touches (passState_touches f _)).applyFrame f
    · exact dropped.applyFrame f

theorem takeFrames (n : Nat) {s : State} (h : DriveWithin v s) : DriveWithin v (s.takeFrames n) := by
  induction n generalizing s with
  | zero => exact h
  | succ n ih => exact ih h.takeOne

end DriveWithin

end Sys2Proof.Machine
end


section
/-! # The setpoint of a sample of a DRIVE is within v_perm (O27, R126, R129) -/

namespace Sys2Proof.Machine

open Sys2Proof

/-! ## A ready check leaves a setpoint of 0 where it leads to a state that holds one (R122, R125) -/

theorem torqueProof_setpoint {s : State} (h : s.trip.setpoint = 0) : s.torqueProof.trip.setpoint = 0 := by
  unfold State.torqueProof
  split
  · rfl
  · split
    · exact h
    · rfl
  · exact h

theorem startRelease_setpoint (st : Haulage) (s : State) : (s.startRelease st).trip.setpoint = 0 := by
  unfold State.startRelease
  dsimp only
  split
  · exact torqueProof_setpoint rfl
  · rfl

theorem judgeReady_within (v : Nat) (s : State) : SetpointWithin v s.judgeReady.trip := by
  unfold State.judgeReady
  split
  · dsimp only
    split
    · exact .of_zero rfl
    · exact .of_rests rfl
  · split
    · split
      · exact .of_zero (startRelease_setpoint _ _)
      · exact .of_zero rfl
    · exact .of_zero (startRelease_setpoint _ _)

/-! ## The states that hold a setpoint (R126, R127) -/

theorem runSetpoint_le_permitted (s : State) (r : TripRecord) : s.runSetpoint r ≤ s.permitted :=
  min_le_right _ _

theorem runSample_within (s : State) : SetpointWithin s.permitted s.runSample.trip := by
  unfold State.runSample
  split
  · next r _ =>
    dsimp only
    split
    · exact .of_zero rfl
    · intro _
      rw [State.setTrip_trip, signedSetpoint_natAbs]
      exact runSetpoint_le_permitted s r
  · exact .of_zero rfl

theorem holdSample_within (s : State) : SetpointWithin s.permitted s.holdSample.trip := by
  unfold State.holdSample
  split
  · exact .of_zero rfl
  · split
    · intro _
      rw [State.setTrip_trip, signedSetpoint_natAbs]
      exact min_le_right _ _
    · exact .of_zero rfl

theorem completeStop_trip_rests (s : State) : s.completeStop.trip.rests = true := by
  unfold State.completeStop
  dsimp only
  split
  · split
    · split <;> rfl
    · split <;> rfl
  · rfl

theorem judgeSync_rests {s : State} (h : s.trip.rests = true) : s.judgeSync.trip.rests = true := by
  unfold State.judgeSync
  split
  · split
    · exact h
    · rfl
    · exact h
  · exact h

theorem judgeClosing_rests {s : State} (h : s.trip.rests = true) : s.judgeClosing.trip.rests = true := by
  unfold State.judgeClosing
  split
  · rfl
  · exact h

theorem haulageSample_within (s : State) : SetpointWithin s.permitted s.haulageSample.trip := by
  unfold State.haulageSample
  split
  · next hs => exact .of_rests (judgeSync_rests (by rw [TripController.rests, hs]))
  · next hs => exact .of_rests (judgeClosing_rests (by rw [TripController.rests, hs]))
  · exact judgeReady_within _ s
  · exact runSample_within s
  · next hs =>
    split
    · exact runSample_within s
    · next hp => exact .of_rests (by rw [TripController.rests, hs]; simpa using hp)
  · next hs =>
    split
    · exact .of_rests (completeStop_trip_rests s)
    · exact .of_rests (by rw [TripController.rests, hs])
  · exact holdSample_within s
  · next hru hrec _ hho =>
    refine .of_rests ?_
    unfold TripController.rests
    split
    · next h => exact absurd h hru
    · next h => exact absurd h hho
    · next h => exact absurd h hrec
    · rfl

/-! ## The sample of a DRIVE (R129) -/

/-- The trip controller's part of a sample but for the setpoint of the states that rest (R122, R129). -/
def State.tripPlayed (owed : Option TripRecord) (s : State) : State :=
  let s1 := s.requeueNotice owed
  if s1.trip.haulage == .readyCheck then
    let s2 := s1.takeAll
    if s2.trip.haulage == .readyCheck then s2.judgeReady else s2
  else s1.haulageSample

theorem tripSample_eq (owed : Option TripRecord) (s : State) :
    s.tripSample owed = (s.tripPlayed owed).restSetpoint.setAnalogCode := rfl

theorem tripPlayed_within {s : State} (hrole : s.role = .drive) (owed : Option TripRecord) :
    SetpointWithin s.permitted (s.tripPlayed owed).trip := by
  obtain ⟨_, _, _, queued⟩ := QueuedFrom.requeueNotice owed s
  have permitted : (s.requeueNotice owed).permitted = s.permitted := by
    rw [queued]
    rfl
  have role : (s.requeueNotice owed).role = .drive := by
    rw [queued]
    exact hrole
  unfold State.tripPlayed
  dsimp only
  split
  · next hready =>
    have rests : (s.requeueNotice owed).trip.rests = true := by
      rw [TripController.rests, LawfulBEq.eq_of_beq hready]
    split
    · exact judgeReady_within _ _
    · exact (DriveWithin.takeFrames _ ⟨role, .of_rests rests⟩).within
  · rw [← permitted]
    exact haulageSample_within _

theorem setpointSpeed_le {s : State} {v : Nat} (h : s.trip.setpoint.natAbs ≤ v * 1000) :
    s.setpointSpeed.natAbs ≤ v := by
  unfold State.setpointSpeed
  rw [Int.natAbs_tdiv]
  exact Nat.div_le_of_le_mul (h.trans_eq (Nat.mul_comm v 1000))

/-- At the end of the trip controller's part the setpoint held and that of the sample are within v_perm,
with the analog code of the latter (R129). -/
theorem tripSample_holds {s : State} {r : SupervisionResult} (hrole : s.role = .drive)
    (hr : s.sup.result = some r) (owed : Option TripRecord) :
    ∃ latest : Int, latest.natAbs ≤ r.vPerm ∧
      HoldsSetpoint r.vPerm latest (s.tripSample owed).trip ∧
      (s.tripSample owed).term.setCode = analogCode latest (s.k .fullScale) := by
  have permitted : s.permitted = r.vPerm * 1000 := by
    unfold State.permitted
    rw [hr]
  have played := permitted ▸ tripPlayed_within hrole owed
  have constants : (s.tripPlayed owed).restSetpoint.k .fullScale = s.k .fullScale := by
    have touched := (tripSample_touches owed s).k_eq (by decide) .fullScale
    rw [tripSample_eq] at touched
    exact touched
  rw [tripSample_eq]
  generalize s.tripPlayed owed = z at played constants
  have within : z.restSetpoint.trip.setpoint.natAbs ≤ r.vPerm * 1000 := by
    rw [restSetpoint_trip]
    cases hz : z.trip.rests with
    | true => exact Nat.zero_le _
    | false => exact played hz
  refine ⟨z.restSetpoint.setpointSpeed, setpointSpeed_le within,
    ⟨within.trans_eq (Nat.mul_comm _ _), fun hrests => ?_, rfl⟩, ?_⟩
  · have rests : z.trip.rests = true := by
      have still : z.restSetpoint.trip.rests = true := hrests
      rw [restSetpoint_trip] at still
      exact still
    show z.restSetpoint.trip.setpoint = 0
    rw [restSetpoint_trip, rests]
    rfl
  · rw [← constants]
    rfl

/-- A sample of a DRIVE keeps its setpoints within the v_perm of the sample (R126, R129). -/
theorem sample_holds {s : State} {r : SupervisionResult} (hrole : s.role = .drive)
    {reading : BitVec 16} (hr : (s.sampleBlocks reading).sup.result = some r) :
    ∃ latest : Int, latest.natAbs ≤ r.vPerm ∧
      HoldsSetpoint r.vPerm latest (s.sample reading).trip ∧
      (s.sample reading).term.setCode = analogCode latest (s.k .fullScale) := by
  have blocks := sampleBlocks_touches reading s
  have role := blocks.role_eq.trans hrole
  rw [sample_eq, ← blocks.k_eq (by decide) .fullScale]
  generalize s.owedNotice = owed
  generalize s.sampleBlocks reading = x at hr role
  have plays : x.roleSample owed = x.tripSample owed := by
    unfold State.roleSample
    rw [role]
  obtain ⟨latest, speed, holds, code⟩ := tripSample_holds role hr owed
  rw [plays]
  generalize x.tripSample owed = y at holds code
  have risen := (holdsSetpoint_kept _ _).judgeRise holds
  refine ⟨latest, speed, (holdsSetpoint_kept _ _).of_touches risen (queueMotion_touches _), ?_⟩
  rw [← code]
  exact ((judgeRise_touches y).comp (queueMotion_touches _)) .setCode (by decide)

/-- The law of the setpoint at each sample event of a DRIVE (R126, R129). -/
theorem sampleEvent_holds {dt : Nat} {reading : BitVec 16} {s : State} (hrun : s.running = true)
    (hrole : s.role = .drive) (hdue : (s.advance dt).due s.sampleDue = true) :
    ∃ t r, exec (.sampleEvent dt reading) s = .next t ∧ t.sup.result = some r ∧
      t.trip.setpoint.natAbs ≤ 1000 * r.vPerm ∧ t.trip.latestSetpoint.natAbs ≤ r.vPerm ∧
      t.term.setCode = analogCode t.trip.latestSetpoint (s.k .fullScale) ∧
      (t.trip.rests = true → t.trip.setpoint = 0) := by
  have samples : after (.sampleEvent dt reading) s = (s.advance dt).sample reading :=
    if_pos (Bool.and_eq_true_iff.mpr ⟨hrun, hdue⟩)
  obtain ⟨t, hexec, ht⟩ := exec_settledFrom rfl samples
  have blocks := sampleBlocks_supervises (s := s.advance dt) ((supervises_iff s).mpr (.inl hrole)) reading
  have result : ((s.advance dt).sampleBlocks reading).sup.result = some
      (((s.advance dt).restartSample reading).sampleMeasurement reading).judgedResult := by
    rw [blocks, supervisionSample_sup]
  obtain ⟨latest, speed, holds, code⟩ := sample_holds (s := s.advance dt) hrole result
  have settled := (holdsSetpoint_kept _ _).of_touches holds ht.touches
  refine ⟨t, _, hexec, ?_, settled.within, settled.latest ▸ speed, ?_, settled.rest⟩
  · rw [ht.touches.sup_eq (by decide), sample_sup]
    exact result
  · rw [settled.latest]
    exact (ht.touches .setCode (by decide)).trans code

end Sys2Proof.Machine
end


section
/-! # Supervision of a DRIVE or CAR at each sample (O27) -/

namespace Sys2Proof.Machine

open Sys2Proof

/-- A sample event that is due makes the supervision sample after that of the measurement block, and then
what the role does at a sample (R21, R77). -/
theorem sampleEvent_supervises {dt : Nat} {reading : BitVec 16} {s : State} (hrun : s.running = true)
    (hs : s.supervises = true) (hdue : (s.advance dt).due s.sampleDue = true) :
    let x := (((s.advance dt).restartSample reading).sampleMeasurement reading).supervisionSample
    ∃ t, exec (.sampleEvent dt reading) s = .next t ∧
      t.sup = { x.sup with authority := t.sup.authority } ∧
      (s.role = .car → t.sup.authority = x.sup.authority ∧ t.meas = x.meas ∧ t.prof = x.prof) ∧
      (s.role = .drive → x.highestOwn ≤ s.brake.judged → ∀ y, PlaysSample s x y →
        t.meas = y.meas ∧ t.trip.haulage = y.trip.haulage ∧ t.trip.trip = y.trip.trip ∧
          t.trip.currentStop = y.trip.currentStop ∧ t.trip.heldDir = y.trip.heldDir ∧
          t.trip.dwellDue = y.trip.dwellDue ∧ t.trip.lastReason = y.trip.lastReason ∧
          t.trip.askEnable = y.trip.askEnable ∧ t.trip.askService = y.trip.askService ∧
          t.sup.authority = y.sup.authority ∧
          t.trip.setpoint = if t.trip.rests = true then 0 else y.trip.setpoint) := by
  have samples : after (.sampleEvent dt reading) s = (s.advance dt).sample reading :=
    if_pos (Bool.and_eq_true_iff.mpr ⟨hrun, hdue⟩)
  obtain ⟨t, hexec, ht⟩ := exec_settledFrom rfl samples
  have settled := ht.touches
  have blocks := sampleBlocks_supervises (s := s.advance dt) hs reading
  dsimp only
  rw [← blocks]
  refine ⟨t, hexec, ?_, fun hrole => ?_, fun hrole hrise y hy => ?_⟩
  · rw [settled.sup_eq (by decide)]
    exact sample_sup (s.advance dt) reading
  · have kept := (sample_car (s := s.advance dt) hrole reading).comp settled
    exact ⟨kept .authority (by decide), kept.meas_eq (by decide), kept.prof_eq (by decide)⟩
  · obtain ⟨z, queued, meas, authority, trip⟩ := sample_plays (s := s.advance dt) hrole hrise hy
    rw [settled.meas_eq (by decide), settled.sup_eq (by decide), settled.trip_eq (by decide), meas,
      authority, trip]
    obtain ⟨_, _, _, rfl⟩ := queued
    exact ⟨rfl, rfl, rfl, rfl, rfl, rfl, rfl, rfl, rfl, rfl, rfl⟩

/-- The set of a sample: the trip's at a DRIVE, the one in force at a CAR (R78). -/
theorem judgedResult_set_cases (s : State) : s.judgedResult.set =
    if s.role = .drive then
      (match s.supervisionSample.trip.trip with
      | some x => x.set
      | none => 1)
    else s.supervisionSample.prof.setInForce := by
  rw [judgedResult_set]
  split
  · cases s.supervisionSample.trip.trip <;> rfl
  · rfl

/-- The thresholds of a sample are v_perm with the offsets of its set (R83). -/
theorem judgedResult_thresholds (s : State) :
    let r := s.judgedResult
    let c := s.conf.setConstants r.set
    r.w = min 16383 (r.vPerm + c.offW) ∧ r.s = min 16383 (r.vPerm + c.offS) ∧
      r.e = min 16383 (r.vPerm + c.offE) ∧ r.t = min 16383 (r.vPerm + c.offT) := by
  dsimp only
  rw [← (judgedInputs_parts s).conf_eq]
  exact ⟨rfl, rfl, rfl, rfl⟩

/-- Settles O27: the law of the setpoint is an invariant of the trip controller through the rise of a
demand and the frames of a ready check; the causes of a sample are those of its inputs; the setpoint of
RUNNING and HOLDING is its formula. -/
theorem driveSupervision : Obligations.DriveSupervision := by
  refine ⟨fun _ _ _ => sampleEvent_holds, fun _ _ _ => sampleEvent_supervises,
    fun _ _ _ => runs_untargeted, fun _ _ _ _ => runs_to_target, fun s hs => ?_⟩
  have kept := supervisionSample_touches s
  obtain ⟨service, safety, track⟩ := sample_overspeeds s
  obtain ⟨slips, steady⟩ := sample_slipSince s
  obtain ⟨warns, services, safeties, tracks⟩ := judgedResult_thresholds s
  have block := supervisionSample_block s
  refine ⟨s.judgedResult, by rw [block], judgedResult_set_cases s, judgedResult_vPerm s, warns,
    services, safeties, tracks,
    by rw [block], service, safety, track, supervisionSample_warns, sample_overrun s, sample_rollback s,
    slips, steady, sample_ropeSlip s, sample_positionDisagree s, by rw [block], sample_driveSilent s,
    sample_carSilent s hs, by rw [block], fun hlaw c hc => sample_latches s hlaw c hc, sample_proof s,
    fun hrole => ?_, sample_drive s, kept.meas_eq (by decide), kept.door_eq (by decide),
    kept.grant_eq (by decide), kept.gate_eq (by decide), kept.peers_eq (by decide)⟩
  rw [sample_authority_car s hrole]
  exact carAuthority_cases s

end Sys2Proof.Machine
end
